-- ==== Sys2Proof/Word.lean ====
section
/-! DEFINITION. The widths of the Prifal 7240's words (spec/00_scope.md "Conventions", spec/13_formats.md). -/

namespace Sys2Proof

/-- One byte of a host frame (R192). -/
abbrev Byte := BitVec 8

/-- A terminal's 48-bit identity (00_scope "Identities and handles"). -/
abbrev Identity := BitVec 48

/-- The tree cycle number: 16 bits, counted modulo 65,536 (R4). -/
abbrev TreeCycle := BitVec 16

/-- The local cycle count: 32 bits, counted modulo 2^32 (R4). A deadline is one of these (R7). -/
abbrev LocalCount := BitVec 32

/-- A handle, 0 to 127, naming a record of this part's table (R15). -/
abbrev Handle := Fin 128

/-- A channel of the tree, 0 to 3 (00_scope "Channels"). -/
abbrev Channel := Fin 4

/-- An inbound lane, 0 to 2 (R132). -/
abbrev LaneNo := Fin 3

/-- A word of a peer lane (R125, R190). -/
abbrev LaneWord := BitVec 32

/-- The 72-bit header block of a register burst; bit i is the block's position i (R189). -/
abbrev HeaderBlock := BitVec 72

end Sys2Proof
end

