-- ==== Sys2Proof/Syntax.lean ====
section
/-! DEFINITION. The commands of the part: one constructor of `Instr` for each row of spec/opcode_table.json, with the row's
operands, and the types of those operands. -/

namespace Sys2Proof

/-- The two kinds of directed grant (R69). -/
inductive DirectedKind where
  | range
  | verify
  deriving DecidableEq, Repr

/-- The part of one CYCLE strobe that a CYCLE_STROBE command takes. `whole` is the strobe: the counts advance, then the window
scheduler does its work (R77), then the slate is built (R172). The other three split the strobe, so that an event may be taken
between its parts, as R173, R174 and the orders of R7 allow (log entry 5). -/
inductive StrobePart where
  | whole
  | counts
  | scheduler
  | build
  deriving DecidableEq, Repr

/-- A reserved span as a report names it: kind code, start cycle and start offset (R191). R191 gives the code no
width; two bits hold the four kinds (log entry 30). -/
structure SpanName where
  kind : BitVec 2
  cycle : TreeCycle
  offset : BitVec 19
  deriving DecidableEq, Repr

/-- A burst report as it crosses the framer port: every field has a presence bit (R80, R191), but the record type, which is the command:
BURST_REPORT carries a report and END_OF_WINDOW_SUMMARY a summary, so a record that lacks its type cannot be commanded, the model's
choice (log entry 34). -/
structure RawReport where
  refCycle : Option TreeCycle
  kind : Option (BitVec 3)
  handle : Option (BitVec 7)
  offset : Option (BitVec 19)
  outcome : Option (BitVec 2)
  arrival : Option (BitVec 28)
  header : Option HeaderBlock
  span : Option SpanName
  deriving DecidableEq, Repr

/-- An end-of-window summary: its reference cycle and its light flag (R80, R191); its record type is the command (log entry 34). -/
structure RawSummary where
  refCycle : Option TreeCycle
  light : Option Bool
  deriving DecidableEq, Repr

/-- What a hearing carries (R33). -/
structure Hearing where
  identity : Identity
  attemptCount : Byte
  /-- The coarse loop delay, signed (R88). -/
  coarse : Int
  heardCycle : TreeCycle
  deriving DecidableEq, Repr

/-- What a cross-heard burst carries (R89). -/
structure CrossHeard where
  identity : Identity
  downChannel : Channel
  attemptCount : Byte
  deriving DecidableEq, Repr

/-- The causes of a RANGE result without a sample (R90). -/
inductive NoSample where
  | noBurst
  | undecoded
  | header
  | wrongTerminal
  | offSpan
  deriving DecidableEq, Repr

/-- A RANGE result carries an arrival in quarters or a cause of no sample (R102). -/
inductive RangeAnswer where
  | arrival (q : Nat)
  | noSample (cause : NoSample)
  deriving DecidableEq, Repr

/-- What the classifier hands the ranging unit for one RANGE grant (R90, R102). -/
structure RangeResult where
  handle : Handle
  identity : Identity
  cycle : TreeCycle
  offset : Nat
  answer : RangeAnswer
  deriving DecidableEq, Repr

/-- The two record states that are tracked (R111). -/
inductive TrackedState where
  | active
  | offering
  deriving DecidableEq, Repr

/-- The three kinds of tracker input (R111): a tracking burst with its grant cycle, grant offset and arrival in quarters; a
missing burst with its grant cycle; an entry sample with its error in quarters. -/
inductive TrackerInputKind where
  | burst (cycle : TreeCycle) (offset : Nat) (arrival : Nat)
  | missing (cycle : TreeCycle)
  | entrySample (error : Int)
  deriving DecidableEq, Repr

/-- A tracker input with the handle, the identity and the state the classifier found (R111). -/
structure TrackerInput where
  handle : Handle
  identity : Identity
  found : TrackedState
  kind : TrackerInputKind
  deriving DecidableEq, Repr

/-- A VERIFY burst handed to the handover rules for an ARRIVING record (R92, R164). -/
structure VerificationBurst where
  handle : Handle
  identity : Identity
  cycle : TreeCycle
  offset : Nat
  arrival : Nat
  deriving DecidableEq, Repr

/-- The 17 parameters of a CONFIGURE frame, four bytes each (R180, R192). -/
structure ConfigFrame where
  channelCount : BitVec 32
  treeLoopTime : BitVec 32
  minLoopDelay : BitVec 32
  maxLoopDelay : BitVec 32
  lead : BitVec 32
  discoveryPeriod : BitVec 32
  fastPeriod : BitVec 32
  settleTime : BitVec 32
  rangingTolerance : BitVec 32
  driftThreshold : BitVec 32
  missingLimit : BitVec 32
  freshness : BitVec 32
  retention : BitVec 32
  handoverTime : BitVec 32
  absenceTime : BitVec 32
  trainingPattern : BitVec 32
  eventMask : BitVec 32
  deriving DecidableEq, Repr

/-- The commands: one constructor per row of spec/opcode_table.json, in the table's order. In the peer notices `p` is the
notice's sender channel, the channel wired to the lane it came on (R141). -/
inductive Instr where
  /-- RESET_PIN_EVENT: the two strap pins as sampled (R14, R188). -/
  | resetPinEvent (straps : BitVec 2)
  /-- RESET_HELD (R188). -/
  | resetHeld
  /-- CYCLE_STROBE: whether EPOCH is asserted, and which part of the strobe is taken (R4, R5). -/
  | cycleStrobe (epoch : Bool) (part : StrobePart)
  /-- SETTLE_DEADLINE of a handle's record (R37). -/
  | settleDeadline (h : Handle)
  /-- OFFER_DEADLINE (R162). -/
  | offerDeadline (h : Handle)
  /-- HANDOVER_DEADLINE_SOURCE (R163). -/
  | handoverDeadlineSource (h : Handle)
  /-- HANDOVER_DEADLINE_TARGET (R166). -/
  | handoverDeadlineTarget (h : Handle)
  /-- RETENTION_DEADLINE (R49). -/
  | retentionDeadline (h : Handle)
  /-- DISCOVERY_DUE_DEADLINE (R58). -/
  | discoveryDueDeadline
  /-- WINDOW_START_DEADLINE (R64). -/
  | windowStartDeadline
  /-- WINDOW_CLOSE_DEADLINE (R65). -/
  | windowCloseDeadline
  /-- VERIFY_RETRY_DEADLINE (R160). -/
  | verifyRetryDeadline (h : Handle)
  /-- CONTESTED_EXPIRY of an identity's entry (R25). -/
  | contestedExpiry (x : Identity)
  /-- LANE_ABSENCE_DEADLINE (R134). -/
  | laneAbsenceDeadline (l : LaneNo)
  /-- ISSUED_GRANT_EXPIRY of the entry with this kind, handle and grant cycle (R82). -/
  | issuedGrantExpiry (k : DirectedKind) (h : Handle) (r : TreeCycle)
  /-- RUNNING_FLAG_TIMEOUT (R131). -/
  | runningFlagTimeout
  /-- TRANSMIT_WORD_TIME (R130). -/
  | transmitWordTime
  /-- LANE_WORD (R126). -/
  | laneWord (l : LaneNo) (w : LaneWord)
  /-- LANE_SILENCE_TIMEOUT (R138). -/
  | laneSilenceTimeout (l : LaneNo)
  /-- CLAIM (R144). -/
  | claim (p : Channel) (x : Identity) (heard : TreeCycle)
  /-- OBJECT (R149). -/
  | object (p : Channel) (x : Identity) (claimant : Channel)
  /-- RELEASE (R151). -/
  | release (p : Channel) (x : Identity)
  /-- QUIET (R67). -/
  | quiet (p : Channel) (first : TreeCycle) (length : BitVec 4)
  /-- CROSS (R154). -/
  | cross (p : Channel) (x : Identity) (down : Channel)
  /-- HANDOFF (R159). -/
  | handoff (p : Channel) (x : Identity) (target : Channel) (delay : BitVec 21)
  /-- ACCEPT (R161). -/
  | accept (p : Channel) (x : Identity) (source : Channel) (newHandle : Handle)
  /-- DECLINE (R162). -/
  | decline (p : Channel) (x : Identity) (source : Channel) (reason : BitVec 4)
  /-- TAKEN (R163). -/
  | taken (p : Channel) (x : Identity) (source : Channel)
  /-- LAPSED (R163). -/
  | lapsed (p : Channel) (x : Identity) (source : Channel)
  /-- WITHDRAW (R166). -/
  | withdraw (p : Channel) (x : Identity) (target : Channel)
  /-- BURST_REPORT (R81). -/
  | burstReport (r : RawReport)
  /-- END_OF_WINDOW_SUMMARY (R64). -/
  | endOfWindowSummary (r : RawSummary)
  /-- HEARING (R33). -/
  | hearing (e : Hearing)
  /-- CROSS_HEARD_BURST (R153). -/
  | crossHeardBurst (b : CrossHeard)
  /-- RANGE_ATTEMPT_RESULT (R102). -/
  | rangeAttemptResult (r : RangeResult)
  /-- RANGING_OUTCOME_APPLIED: the outcome handed for the handle (R40). -/
  | rangingOutcomeApplied (h : Handle)
  /-- ATTEMPT_PLACED: the RANGE placement handed for the handle (R100). -/
  | attemptPlaced (h : Handle)
  /-- TRACKER_INPUT (R111). -/
  | trackerInput (i : TrackerInput)
  /-- TRACKER_RESULT_APPLIED: the result handed for the handle (R17). -/
  | trackerResultApplied (h : Handle)
  /-- VERIFICATION_BURST (R164). -/
  | verificationBurst (v : VerificationBurst)
  /-- ASSIGN_DELIVERY_NOTICE: the notice handed for the handle (R39). -/
  | assignDeliveryNotice (h : Handle)
  /-- SET_DELAY_DELIVERY_NOTICE: the notice handed for the handle (R41). -/
  | setDelayDeliveryNotice (h : Handle)
  /-- RETUNE_DELIVERY_NOTICE: the notice handed for the handle (R175). -/
  | retuneDeliveryNotice (h : Handle)
  /-- READ_STATUS (R183). -/
  | readStatus
  /-- CONFIGURE (R180). -/
  | configure (f : ConfigFrame)
  /-- START (R181). -/
  | start
  /-- RESTART (R182). -/
  | restart
  /-- READ_EVENT (R185). -/
  | readEvent
  /-- READ_COUNTERS with its clear flag byte (R186, R192). -/
  | readCounters (clear : Byte)
  /-- CLEAR_ATTENTION with its byte of conditions (R187, R192). -/
  | clearAttention (conditions : Byte)
  /-- BAR (R22). -/
  | bar (x : Identity)
  /-- UNBAR (R23). -/
  | unbar (x : Identity)
  /-- READ_RECORD with its handle byte (R26). -/
  | readRecord (h : Byte)
  /-- FIND (R27). -/
  | find (x : Identity)
  /-- DEREGISTER (R50). -/
  | deregister (h : Byte)
  /-- RERANGE (R51). -/
  | rerange (h : Byte)
  /-- HANDOVER with its handle and target channel bytes (R157). -/
  | handover (h : Byte) (target : Byte)
  /-- SUSPEND with its kind byte (R73). -/
  | suspend (kind : Byte)
  /-- RESUME (R73). -/
  | resume
  /-- DISCOVER_NOW (R60). -/
  | discoverNow
  /-- BAD_FRAME: the command code and length byte of a frame that fits no command (R179). -/
  | badFrame (code : Byte) (length : Byte)
  /-- FRAME_DISCARDED (R179). -/
  | frameDiscarded
  deriving DecidableEq, Repr

end Sys2Proof
end

