-- ==== Sys2Proof/Decode.lean ====
section
/-! DEFINITION. The commands that words spell. No row of spec/opcode_table.json gives bits, so no word spells a command in the
host's numbering. The SPI frames of the host port do spell commands (R192): `decodeFrame` reads one and `encodeFrame` writes
one. -/

namespace Sys2Proof

/-- The command that the `nbits` bits of `w` spell by the table. No row of the table gives bits, so there is none. -/
def decodeTableWord (_nbits _w : Nat) : Option Instr :=
  none

/-- The fixed number of parameter bytes of each command code, 0x01 to 0x11 in the order of R179's table; `none` where the code
names no command (R192). -/
def frameLength (code : Byte) : Option Nat :=
  match code.toNat with
  | 1 => some 0
  | 2 => some 68
  | 3 => some 0
  | 4 => some 0
  | 5 => some 0
  | 6 => some 1
  | 7 => some 1
  | 8 => some 6
  | 9 => some 6
  | 10 => some 1
  | 11 => some 6
  | 12 => some 1
  | 13 => some 1
  | 14 => some 2
  | 15 => some 1
  | 16 => some 0
  | 17 => some 0
  | _ => none

/-- An identity parameter: 6 bytes, most significant first (R192). -/
def identityOfBytes : List Byte → Option Identity
  | [a, b, c, d, e, f] => some (a ++ b ++ c ++ d ++ e ++ f)
  | _ => none

/-- The 4-byte parameters of a byte string, most significant byte first; a tail shorter than 4 bytes is left out (R192). -/
def wordsOfBytes : List Byte → List (BitVec 32)
  | a :: b :: c :: d :: rest => (a ++ b ++ c ++ d) :: wordsOfBytes rest
  | _ => []

/-- The 17 parameters of CONFIGURE in the order of R180's table. -/
def configOfWords : List (BitVec 32) → Option ConfigFrame
  | [a, b, c, d, e, f, g, h, i, j, k, l, m, n, o, p, q] => some ⟨a, b, c, d, e, f, g, h, i, j, k, l, m, n, o, p, q⟩
  | _ => none

/-- The command with this code and these parameter bytes, where the bytes have the command's length (R192). -/
def commandOf (code : Byte) (ps : List Byte) : Option Instr :=
  match code.toNat, ps with
  | 1, [] => some .readStatus
  | 2, ps => (configOfWords (wordsOfBytes ps)).bind fun f => if ps.length = 68 then some (.configure f) else none
  | 3, [] => some .start
  | 4, [] => some .restart
  | 5, [] => some .readEvent
  | 6, [c] => some (.readCounters c)
  | 7, [c] => some (.clearAttention c)
  | 8, ps => (identityOfBytes ps).map .bar
  | 9, ps => (identityOfBytes ps).map .unbar
  | 10, [h] => some (.readRecord h)
  | 11, ps => (identityOfBytes ps).map .find
  | 12, [h] => some (.deregister h)
  | 13, [h] => some (.rerange h)
  | 14, [h, t] => some (.handover h t)
  | 15, [k] => some (.suspend k)
  | 16, [] => some .resume
  | 17, [] => some .discoverNow
  | _, _ => none

/-- The command that the bytes of one SPI select spell (R179, R192). A frame is complete once its length byte's number of
parameter bytes has come; one that is not complete when the select is released is discarded. -/
def decodeFrame : List Byte → Instr
  | code :: len :: rest =>
    if rest.length < len.toNat then .frameDiscarded
    else (commandOf code (rest.take len.toNat)).getD (.badFrame code len)
  | _ => .frameDiscarded

/-- The 6 bytes of an identity, most significant first. -/
def bytesOfIdentity (x : Identity) : List Byte :=
  [x.extractLsb' 40 8, x.extractLsb' 32 8, x.extractLsb' 24 8, x.extractLsb' 16 8, x.extractLsb' 8 8, x.extractLsb' 0 8]

/-- The 4 bytes of a CONFIGURE parameter, most significant first. -/
def bytesOfWord (w : BitVec 32) : List Byte :=
  [w.extractLsb' 24 8, w.extractLsb' 16 8, w.extractLsb' 8 8, w.extractLsb' 0 8]

/-- The 17 parameters in the order of R180's table. -/
def wordsOfConfig (f : ConfigFrame) : List (BitVec 32) :=
  [f.channelCount, f.treeLoopTime, f.minLoopDelay, f.maxLoopDelay, f.lead, f.discoveryPeriod, f.fastPeriod, f.settleTime,
    f.rangingTolerance, f.driftThreshold, f.missingLimit, f.freshness, f.retention, f.handoverTime, f.absenceTime,
    f.trainingPattern, f.eventMask]

/-- The frame of a host command; `none` for a command that comes from elsewhere and for the two rows that stand for frames that
spell no command. -/
def encodeFrame : Instr → Option (List Byte)
  | .readStatus => some [1, 0]
  | .configure f => some (2 :: 68 :: (wordsOfConfig f).flatMap bytesOfWord)
  | .start => some [3, 0]
  | .restart => some [4, 0]
  | .readEvent => some [5, 0]
  | .readCounters c => some [6, 1, c]
  | .clearAttention c => some [7, 1, c]
  | .bar x => some (8 :: 6 :: bytesOfIdentity x)
  | .unbar x => some (9 :: 6 :: bytesOfIdentity x)
  | .readRecord h => some [10, 1, h]
  | .find x => some (11 :: 6 :: bytesOfIdentity x)
  | .deregister h => some [12, 1, h]
  | .rerange h => some [13, 1, h]
  | .handover h t => some [14, 2, h, t]
  | .suspend k => some [15, 1, k]
  | .resume => some [16, 0]
  | .discoverNow => some [17, 0]
  | .resetPinEvent _ | .resetHeld | .cycleStrobe _ _ | .settleDeadline _ | .offerDeadline _ | .handoverDeadlineSource _
  | .handoverDeadlineTarget _ | .retentionDeadline _ | .discoveryDueDeadline | .windowStartDeadline | .windowCloseDeadline
  | .verifyRetryDeadline _ | .contestedExpiry _ | .laneAbsenceDeadline _ | .issuedGrantExpiry _ _ _ | .runningFlagTimeout
  | .transmitWordTime | .laneWord _ _ | .laneSilenceTimeout _ | .claim _ _ _ | .object _ _ _ | .release _ _ | .quiet _ _ _
  | .cross _ _ _ | .handoff _ _ _ _ | .accept _ _ _ _ | .decline _ _ _ _ | .taken _ _ _ | .lapsed _ _ _ | .withdraw _ _ _
  | .burstReport _ | .endOfWindowSummary _ | .hearing _ | .crossHeardBurst _ | .rangeAttemptResult _
  | .rangingOutcomeApplied _ | .attemptPlaced _ | .trackerInput _ | .trackerResultApplied _ | .verificationBurst _
  | .assignDeliveryNotice _ | .setDelayDeliveryNotice _ | .retuneDeliveryNotice _ | .badFrame _ _ | .frameDiscarded => none

end Sys2Proof
end

