-- ==== Sys2Proof/Config.lean ====
section
/-! DEFINITION. What is fixed for the part: its constants, the configuration block that CONFIGURE replaces (R180), and the
free value of log entry 2; the other free value is `Config.itemBytes` (log entry 13). -/

namespace Sys2Proof

/-- C: the bit times of one cycle (R1). -/
def cycleLength : Nat := 312500

/-- The response offset (R3). -/
def responseOffset : Nat := 40000

/-- The largest scatter, 47 × 256 bt (R8). -/
def largestScatter : Nat := 12032

/-- The length of a register burst (R12). -/
def burstLength : Nat := 320

/-- The discovery timing spread (R13). -/
def discoverySpread : Nat := 64

/-- The step of the directed grant offsets (R71). -/
def offsetStep : Nat := 1024

/-- The parameters of CONFIGURE, in the order of R180's table. -/
structure Configuration where
  /-- 1. -/ channelCount : Nat
  /-- 2. -/ treeLoopTime : Nat
  /-- 3. -/ minLoopDelay : Nat
  /-- 4. -/ maxLoopDelay : Nat
  /-- 5. -/ lead : Nat
  /-- 6. -/ discoveryPeriod : Nat
  /-- 7. -/ fastPeriod : Nat
  /-- 8. -/ settleTime : Nat
  /-- 9. -/ rangingTolerance : Nat
  /-- 10. -/ driftThreshold : Nat
  /-- 11. -/ missingLimit : Nat
  /-- 12. -/ freshness : Nat
  /-- 13. -/ retention : Nat
  /-- 14. -/ handoverTime : Nat
  /-- 15. -/ absenceTime : Nat
  /-- 16. -/ trainingPattern : Byte
  /-- 17. Bit k stands for the event kind at place k + 1 of the event table (R192). -/ eventMask : BitVec 19
  deriving DecidableEq, Repr

/-- The defaults, in force after the reset-pin event and power-on (R180). The mask holds CROSS-HEARD (bit 9), TUNE-SENT
(bit 10) and WINDOW-CLOSED (bit 18). -/
def Configuration.defaults : Configuration where
  channelCount := 1
  treeLoopTime := 1920000
  minLoopDelay := 0
  maxLoopDelay := 1250000
  lead := 9
  discoveryPeriod := 2000
  fastPeriod := 40
  settleTime := 8
  rangingTolerance := 4
  driftThreshold := 4
  missingLimit := 4
  freshness := 64
  retention := 20000
  handoverTime := 300
  absenceTime := 10000
  trainingPattern := 0x55#8
  eventMask := 0x40600#19

/-- FREE VALUE (log entry 2, DESIGN CHOICE that it is free): the new handle that HANDOVER-DONE carries when TAKEN frees a LOST
record. R163 has the event carry it, and R15 lets a LOST record hold no peer handle to take it from. It is applied to the
model's own counter `State.freeCount`, so each use is a fresh value. -/
opaque Config.takenFromLostHandle : Nat → Handle

end Sys2Proof
end

