-- ==== Sys2Proof/Machine/State.lean ====
section
/-! DEFINITION. The state of the part, block by block (spec/00_scope.md "Block diagram"), and the state the reset-pin event and
power-on leave. All of it is plain data. -/

namespace Sys2Proof.Machine

/-! ### The timeline (R1, R55) -/

/-- A position of the upstream timeline: a tree cycle number and an offset of 0 to 312,499 bt (R1). -/
structure Pos where
  cycle : TreeCycle
  offset : Nat
  deriving DecidableEq, Repr

/-- The kinds of span, with the tag two of them hold (R55). -/
inductive SpanKind where
  | ownDiscovery
  | peerQuiet (announcer : Channel)
  | range (h : Handle)
  | verify (h : Handle)
  deriving DecidableEq, Repr

/-- A reserved interval of the timeline, ends included (R1, R55). -/
structure Span where
  kind : SpanKind
  first : Pos
  last : Pos
  deriving DecidableEq, Repr

/-! ### The terminal table (R15, R24) -/

/-- The discovery hearing that a record was made or re-ranged from (R15). -/
structure HeardAt where
  cycle : TreeCycle
  coarse : Int
  deriving DecidableEq, Repr

/-- Why ranging is running (R15). -/
inductive Origin where
  | fresh
  | rerange
  deriving DecidableEq, Repr

/-- Where a ranging sequence stands (R15). -/
inductive Stage where
  | awaitAssign
  | attempting
  | awaitSetDelay
  deriving DecidableEq, Repr

/-- The fields of a RANGING record (R15). -/
structure RangingFields where
  heard : Option HeardAt
  origin : Origin
  stage : Stage
  samples : List Int
  attempts : Nat
  launchDelay : Option Nat
  lastGood : Option LocalCount
  deriving DecidableEq, Repr

/-- The tracked fields of an ACTIVE or OFFERING record (R15). The drift sum is in 1/32 bt. -/
structure Tracking where
  launchDelay : Nat
  effective : LocalCount
  drift : Int
  correctionPending : Bool
  atLimit : Bool
  missingRun : Nat
  misalignedRun : Nat
  lastGood : LocalCount
  deriving DecidableEq, Repr

/-- A record: its state and exactly the fields its state calls for (R15). -/
inductive Record where
  | free
  | pending (x : Identity) (heard : HeardAt) (deadline : LocalCount)
  | ranging (x : Identity) (r : RangingFields)
  | active (x : Identity) (t : Tracking)
  | offering (x : Identity) (t : Tracking) (peer : Channel) (deadline : LocalCount)
  | leaving (x : Identity) (launchDelay : Nat) (peer : Channel) (peerHandle : Handle) (deadline : LocalCount)
  | arriving (x : Identity) (launchDelay : Nat) (peer : Channel) (deadline : LocalCount) (retry : Option LocalCount)
  | lost (x : Identity) (launchDelay : Nat) (lastGood : LocalCount) (deadline : LocalCount)
  deriving DecidableEq, Repr

/-- The names of the record states (R15). -/
inductive RecordState where
  | free
  | pending
  | ranging
  | active
  | offering
  | leaving
  | arriving
  | lost
  deriving DecidableEq, Repr

/-- An entry of the contested list (R24). -/
structure Contested where
  identity : Identity
  expiry : LocalCount
  deriving DecidableEq, Repr

/-- The records, the barred list and the contested list, oldest entry first (R15, R22, R24). -/
structure Table where
  records : Vector Record 128
  barred : List Identity
  contested : List Contested
  deriving DecidableEq, Repr

/-! ### The window scheduler (R55 to R79) -/

/-- The stages of a window in progress (R64). -/
inductive WindowStage where
  | announced
  | opened
  deriving DecidableEq, Repr

/-- The own discovery window in progress (R59, R63, R64). -/
structure Window where
  stage : WindowStage
  grantCycle : TreeCycle
  first : TreeCycle
  last : TreeCycle
  bursts : Nat
  activity : Bool
  startDeadline : LocalCount
  closeDeadline : LocalCount
  deriving DecidableEq, Repr

/-- A directed grant as the calendar holds it, with the identity and the span that stay in the part (R69). -/
structure DirectedGrant where
  kind : DirectedKind
  handle : Handle
  identity : Identity
  cycle : TreeCycle
  offset : Nat
  span : Span
  deriving DecidableEq, Repr

/-- What the calendar holds for a cycle: a DISCOVER grant, at offset 0, or a directed grant (R69). -/
inductive Grant where
  | discover (cycle : TreeCycle) (pattern : Byte)
  | directed (g : DirectedGrant)
  deriving DecidableEq, Repr

/-- What a placement is asked for: RANGE with its expected loop delay E, or VERIFY (R70). -/
inductive Wanted where
  | range (expectedLoop : Int)
  | verify
  deriving DecidableEq, Repr

/-- A placement request (R70). -/
structure Request where
  wanted : Wanted
  handle : Handle
  identity : Identity
  deriving DecidableEq, Repr

/-- The kinds of hold (R73). -/
inductive Hold where
  | discovery
  | ranging
  deriving DecidableEq, Repr

/-- The window scheduler: its calendar holds the grants in the order they were placed, its placement queue is oldest first and
its suspension stack bottom first. -/
structure Scheduler where
  spans : List Span
  window : Option Window
  lastClosed : Option TreeCycle
  due : Bool
  dueDeadline : Option LocalCount
  calendar : List Grant
  placements : List Request
  stack : List Hold
  deriving DecidableEq, Repr

/-! ### The burst classifier (R82, R86) -/

/-- The grant kinds of a report (R80). -/
inductive ReportKind where
  | discover
  | range
  | verify
  | data
  | ungranted
  deriving DecidableEq, Repr

/-- What the first-uncorrectable capture holds (R86). -/
structure Captured where
  cycle : TreeCycle
  kind : ReportKind
  arrival : BitVec 28
  deriving DecidableEq, Repr

/-- The issued-grant table, in the order the grants were issued, and the capture: `none` is armed (R82, R86). -/
structure Classifier where
  issued : List DirectedGrant
  capture : Option Captured
  deriving DecidableEq, Repr

/-! ### The ranging unit (R97) -/

/-- An attempt slot (R97). -/
inductive Slot where
  | idle
  | asked (x : Identity)
  | out (x : Identity) (cycle : TreeCycle) (offset : Nat)
  | answered (x : Identity)
  deriving DecidableEq, Repr

/-- The reasons of RANGING-FAILED, in the order of the event table (R42). -/
inductive RangingFailure where
  | noResponse
  | noAgreement
  | beyondReach
  | notQueued
  deriving DecidableEq, Repr

/-- What the ranging unit hands for an awaited result (R107); `proceed` is the spec's "continue". -/
inductive RangingOutcome where
  | proceed (samples : List Int) (attempts : Nat)
  | agreement (samples : List Int) (launchDelay : Nat)
  | failure (reason : RangingFailure)
  deriving DecidableEq, Repr

/-! ### The delay tracker (R115 to R118) -/

/-- The ends of the launch delay range (R119). -/
inductive Limit where
  | low
  | high
  deriving DecidableEq, Repr

/-- A correction: the new launch delay and where the clamp acted (R118, R119). -/
structure Correction where
  newDelay : Nat
  clamped : Option Limit
  deriving DecidableEq, Repr

/-- A result of the delay tracker (R115, R116, R117). -/
inductive TrackerResult where
  | missing (run : Nat)
  | lost
  | misaligned
  | rerange
  | aligned (drift : Int) (lastGood : LocalCount) (correction : Option Correction)
  deriving DecidableEq, Repr

/-! ### Notices and the peer link unit (R125 to R143) -/

/-- The tree notices with their fields (R143, chapter 10, R190). -/
inductive Notice where
  | claim (x : Identity) (heard : TreeCycle)
  | object (x : Identity) (claimant : Channel)
  | release (x : Identity)
  | quiet (first : TreeCycle) (length : BitVec 4)
  | cross (x : Identity) (down : Channel)
  | handoff (x : Identity) (target : Channel) (delay : BitVec 21)
  | accept (x : Identity) (source : Channel) (newHandle : Handle)
  | decline (x : Identity) (source : Channel) (reason : BitVec 4)
  | taken (x : Identity) (source : Channel)
  | lapsed (x : Identity) (source : Channel)
  | withdraw (x : Identity) (target : Channel)
  deriving DecidableEq, Repr

/-- The lane receiver states, in the order they are numbered (R192). -/
inductive LaneState where
  | silent
  | seeking
  | heard
  | up
  | hold
  | absent
  deriving DecidableEq, Repr

/-- The fields of a good FILL that a receiver keeps (R127). -/
structure FillInfo where
  mask : BitVec 4
  digest : BitVec 4
  running : Bool
  deriving DecidableEq, Repr

/-- A notice in assembly: its HEAD's fields and the BODY payloads taken so far, oldest first (R140). -/
structure Assembly where
  kind : BitVec 4
  bodyCount : BitVec 2
  firstField : BitVec 22
  bodies : List (BitVec 28)
  deriving DecidableEq, Repr

/-- A lane receiver (chapter 8.5). `badRun` says whether the word before was bad; `silence` counts the word times since the last
good word as the words taken show them. -/
structure Lane where
  state : LaneState
  expected : Option Bool
  badRun : Bool
  fillRun : Nat
  goodCount : Nat
  silence : Nat
  absence : Option LocalCount
  mismatchRaised : Bool
  mismatchCount : Nat
  lastFill : Option FillInfo
  assembly : Option Assembly
  deriving DecidableEq, Repr

/-- A receiver after the reset pin, power-on and RESTART (R133; log entry 31 for `mismatchRaised`, `silence` and `assembly`). -/
def Lane.fresh : Lane where
  state := .silent
  expected := none
  badRun := false
  fillRun := 0
  goodCount := 0
  silence := 0
  absence := none
  mismatchRaised := false
  mismatchCount := 0
  lastFill := none
  assembly := none

/-- The peer link unit. `sending` holds the words still to be sent of the notice partly sent, type and payload; `laneOut` is the
word on the outbound lane, `none` while the lane is silent (R129, R130, R131). -/
structure PeerLink where
  outbound : List Notice
  sending : List (BitVec 30)
  nextAlt : Bool
  sinceFill : Nat
  strobeWords : Nat
  laneOut : Option LaneWord
  lanes : Vector Lane 3
  deriving DecidableEq, Repr

/-! ### The slate builder (R170 to R177) -/

/-- How a DROP names its terminal (R32). -/
inductive Address where
  | byHandle (h : Handle)
  | byIdentity (x : Identity)
  deriving DecidableEq, Repr

/-- The reasons of a DROP, in the order of their codes (R32, R191). -/
inductive DropReason where
  | host
  | barred
  | ranging
  | retention
  | peer
  deriving DecidableEq, Repr

/-- The downstream messages with the fields that are sent (R170). -/
inductive Message where
  | assign (x : Identity) (h : Handle)
  | setDelay (h : Handle) (delay : Nat)
  | retune (oldHandle : Handle) (target : Channel) (newHandle : Handle)
  | drop (named : Address) (reason : DropReason)
  | tune (x : Identity) (landing : Channel)
  deriving DecidableEq, Repr

/-- A backlog entry: a message and the tag kept with it (R170). -/
structure Queued where
  message : Message
  tag : Option Identity
  deriving DecidableEq, Repr

/-- A grant as a slate lists it (R191). -/
inductive SlateGrant where
  | discover (offset : Nat) (pattern : Byte)
  | directed (kind : DirectedKind) (h : Handle) (offset : Nat)
  deriving DecidableEq, Repr

/-- A control slate (R172, R191). The grantable set lists its handles in ascending order. -/
structure Slate where
  cycle : TreeCycle
  grants : List SlateGrant
  messages : List Message
  reservations : List Span
  grantable : List Handle
  deriving DecidableEq, Repr

/-- The slate builder: the backlog and the pending reservations, oldest first, and the last slate built. -/
structure SlateBuilder where
  backlog : List Queued
  reservations : List Span
  slate : Slate
  deriving DecidableEq, Repr

/-- A RANGE placement made: what the slot and the attempt count are to take (R100). -/
structure RangePlacement where
  handle : Handle
  identity : Identity
  cycle : TreeCycle
  offset : Nat
  deriving DecidableEq, Repr

/-- A delivery notice: kind, handle, identity, the slate's cycle and, for SET-DELAY, the launch delay (R175). -/
inductive Delivery where
  | assign (h : Handle) (x : Identity) (cycle : TreeCycle)
  | setDelay (h : Handle) (x : Identity) (delay : Nat) (cycle : TreeCycle)
  | retune (h : Handle) (x : Identity) (cycle : TreeCycle)
  deriving DecidableEq, Repr

/-! ### The host port (R178 to R188) -/

/-- The part states (R178). -/
inductive PartState where
  | init
  | aligning
  | running
  deriving DecidableEq, Repr

/-- The detail of REGISTERED (R41, R164). -/
inductive RegisteredAs where
  | fresh
  | rerange
  | handover (source : Channel)
  deriving DecidableEq, Repr

/-- The detail of RELEASED (R49, R147). -/
inductive ReleasedBy where
  | retention
  | peerClaim (p : Channel)
  deriving DecidableEq, Repr

/-- The detail of RERANGE (R36). -/
inductive RerangedBy where
  | heard (attemptCount : Byte)
  | misaligned
  | host
  deriving DecidableEq, Repr

/-- The reasons of HANDOVER-DECLINED, in the order of the event table (R162). -/
inductive DeclinedBy where
  | full
  | barred
  | present
  | notRunning
  | unknown
  | noAnswer
  deriving DecidableEq, Repr

/-- The end of the handover that lapsed (R163, R166). -/
inductive HandoverEnd where
  | source
  | target
  deriving DecidableEq, Repr

/-- The causes of HANDOVER-LAPSED, in the order of the event table (R163, R166). -/
inductive LapsedBy where
  | notice
  | deadline
  | withdrawn
  deriving DecidableEq, Repr

/-- The events with the handle, identity and detail each carries, in the order of the event table (chapter 12.6). -/
inductive Event where
  | registered (h : Handle) (x : Identity) (detail : RegisteredAs)
  | rangingFailed (h : Handle) (x : Identity) (reason : RangingFailure)
  | lost (h : Handle) (x : Identity)
  | released (h : Handle) (x : Identity) (detail : ReleasedBy)
  | duplicate (h : Handle) (x : Identity) (objector : Channel)
  | claimYielded (h : Handle) (x : Identity) (claimant : Channel)
  | tableFull (x : Identity) (attemptCount : Byte)
  | barredHeard (x : Identity) (attemptCount : Byte)
  | outOfBand (x : Identity) (coarse : Int)
  | crossHeard (x : Identity) (down : Channel) (attemptCount : Byte)
  | tuneSent (x : Identity) (landing : Channel)
  | delayLimit (h : Handle) (x : Identity) (limit : Limit)
  | rerange (h : Handle) (x : Identity) (detail : RerangedBy)
  | handoverDone (h : Handle) (x : Identity) (target : Channel) (newHandle : Handle)
  | handoverDeclined (h : Handle) (x : Identity) (target : Channel) (reason : DeclinedBy)
  | handoverLapsed (h : Handle) (x : Identity) (side : HandoverEnd) (other : Channel) (cause : LapsedBy)
  | laneChange (channel : Channel) (left : LaneState) (entered : LaneState)
  | configMismatch (channel : Channel) (own : BitVec 4) (received : BitVec 4)
  | windowClosed (bursts : Nat)
  deriving DecidableEq, Repr

/-- An event record: the event and the tree cycle number at which it was raised (R184). -/
structure EventRecord where
  cycle : TreeCycle
  event : Event
  deriving DecidableEq, Repr

/-- The 18 counters, in the order of R186's table. -/
inductive Counter where
  | discoveryWindows
  | identitiesHeard
  | headersCorrected
  | headersUncorrectable
  | windowOverflow
  | lateReports
  | strayReports
  | wrongTerminal
  | foreignLight
  | contestedIgnored
  | outOfBand
  | noticesDiscarded
  | noticeOverruns
  | messageOverruns
  | eventsLost
  | badWords (l : LaneNo)
  deriving DecidableEq, Repr

/-- The attention conditions (R187). -/
inductive Condition where
  | header
  | duplicate
  | lane
  | overrun
  deriving DecidableEq, Repr

/-- Which attention conditions are set (R187). -/
structure Attention where
  header : Bool
  duplicate : Bool
  lane : Bool
  overrun : Bool
  deriving DecidableEq, Repr

/-- No condition set. -/
def Attention.clear : Attention where
  header := false
  duplicate := false
  lane := false
  overrun := false

/-- What READ-STATUS reports of the window in progress (R79). -/
structure WindowReport where
  stage : WindowStage
  grantCycle : TreeCycle
  first : TreeCycle
  length : Nat
  bursts : Nat
  deriving DecidableEq, Repr

/-- What READ-STATUS reports of an inbound lane (R139). -/
structure LaneReport where
  lane : LaneNo
  channel : Channel
  configured : Bool
  state : LaneState
  lastFill : Option FillInfo
  deriving DecidableEq, Repr

/-- The items of READ-STATUS (R183). -/
structure StatusReport where
  part : PartState
  ownChannel : Channel
  config : Configuration
  digest : BitVec 4
  treeCycle : TreeCycle
  localCount : LocalCount
  eventCount : Nat
  intAsserted : Bool
  attention : Attention
  capture : Option Captured
  window : Option WindowReport
  due : Bool
  dueDeadline : Option LocalCount
  stack : List Hold
  ownSpans : Nat
  peerSpans : Nat
  rangeSpans : Nat
  verifySpans : Nat
  placementCount : Nat
  slotsAsked : Nat
  slotsOut : Nat
  slotsAnswered : Nat
  heldByRanging : Nat
  outboundCount : Nat
  lanes : List LaneReport
  backlogCount : Nat
  reservationCount : Nat
  slateCycle : TreeCycle
  slateGrants : Nat
  slateMessages : Nat
  slateGrantable : Nat
  deriving DecidableEq, Repr

/-- What FIND reports (R27). -/
structure FindReport where
  held : Option (Handle × RecordState)
  barred : Bool
  contested : Option LocalCount
  deriving DecidableEq, Repr

/-- The data of an OK response. READ-RECORD's data is the record itself, since a record holds exactly the fields present in its
state (R26). -/
inductive ResponseData where
  | nothing
  | status (r : StatusReport)
  | event (e : EventRecord)
  | counters (values : Vector (BitVec 16) 18)
  | record (r : Record)
  | found (r : FindReport)
  deriving DecidableEq, Repr

/-- The responses (R179). -/
inductive Response where
  | ok (data : ResponseData)
  | wrongState
  | busy
  | empty
  | noSuchHandle
  | full
  | laneDown
  | badParameter (number : Nat)
  deriving DecidableEq, Repr

/-- The host port, with the reset pin. `events` is oldest first; `response` is the response the last frame drew. -/
structure HostPort where
  held : Bool
  part : PartState
  ownChannel : Channel
  config : Configuration
  events : List EventRecord
  counters : Vector (BitVec 16) 18
  attention : Attention
  response : Option Response
  deriving DecidableEq, Repr

/-- The time base (R4). The two flags are the model's own: what is left to do of the strobe last taken (log entry 5). -/
structure Timebase where
  treeCycle : TreeCycle
  localCount : LocalCount
  owesScheduler : Bool
  owesBuild : Bool
  deriving DecidableEq, Repr

/-! ### Hand-offs between blocks -/

/-- What one block has handed another that has not taken it yet (R17; log entry 4). -/
inductive Handoff where
  /-- A notice delivered by a lane, with its sender channel (R141). -/
  | notice (p : Channel) (n : Notice)
  /-- A hearing (R87). -/
  | hearing (e : Hearing)
  /-- A cross-heard identity (R89). -/
  | crossHeard (b : CrossHeard)
  /-- A RANGE result for the ranging unit (R90). -/
  | rangeResult (r : RangeResult)
  /-- A VERIFY burst for the handover rules (R92). -/
  | verification (v : VerificationBurst)
  /-- An input for the delay tracker (R92, R93, R164). -/
  | trackerInput (i : TrackerInput)
  /-- An outcome of the ranging unit (R107). -/
  | outcome (h : Handle) (x : Identity) (o : RangingOutcome)
  /-- A RANGE placement, for the slot and the attempt count (R100). -/
  | placed (h : Handle) (x : Identity) (cycle : TreeCycle) (offset : Nat)
  /-- A result of the delay tracker, with the state it was computed against (R111). -/
  | tracked (h : Handle) (x : Identity) (found : TrackedState) (r : TrackerResult)
  /-- A delivery notice of the slate builder (R175). -/
  | delivered (d : Delivery)
  deriving DecidableEq, Repr

/-- The state of the part, and the queue of the commands that wait, first in first out. -/
structure State where
  /-- The commands waiting, oldest first. -/
  pending : List Instr
  time : Timebase
  table : Table
  sched : Scheduler
  classifier : Classifier
  /-- The attempt slot of each handle (R97). -/
  slots : Vector Slot 128
  link : PeerLink
  builder : SlateBuilder
  host : HostPort
  /-- What blocks have handed one another, oldest first. -/
  handed : List Handoff
  /-- How many free values have been drawn: the model's own (log entry 2). -/
  freeCount : Nat
  deriving DecidableEq, Repr

/-- There is no fault: the spec gives every row an effect in every state, and no row that stops the part. -/
inductive Fault where
  deriving DecidableEq, Repr

/-- The refusals. -/
inductive Refusal where
  /-- Raised by an arm of `exec` for a row that has no meaning yet; no arm does. Safe: a stop proves nothing false. -/
  | notModelled (mnemonic : String)
  deriving DecidableEq, Repr

/-- The time base after the reset-pin event (R6). -/
def Timebase.atReset : Timebase where
  treeCycle := 0
  localCount := 0
  owesScheduler := false
  owesBuild := false

/-- The table after the reset-pin event (R28). -/
def Table.atReset : Table where
  records := Vector.replicate 128 .free
  barred := []
  contested := []

/-- The window scheduler after the reset-pin event, power-on and RESTART (R78). -/
def Scheduler.atReset : Scheduler where
  spans := []
  window := none
  lastClosed := none
  due := false
  dueDeadline := none
  calendar := []
  placements := []
  stack := []

/-- The classifier after the reset-pin event (R96). -/
def Classifier.atReset : Classifier where
  issued := []
  capture := none

/-- The slots after the reset-pin event, power-on and RESTART (R97). -/
def slotsAtReset : Vector Slot 128 :=
  Vector.replicate 128 .idle

/-- The link after the reset-pin event, power-on and RESTART (R129, R130, R133; log entry 20 for `nextAlt`,
`sinceFill` and `strobeWords`). -/
def PeerLink.atReset : PeerLink where
  outbound := []
  sending := []
  nextAlt := false
  sinceFill := 16
  strobeWords := 0
  laneOut := none
  lanes := Vector.replicate 3 Lane.fresh

/-- The slate builder after the reset-pin event (R177). -/
def SlateBuilder.atReset : SlateBuilder where
  backlog := []
  reservations := []
  slate := ⟨0, [], [], [], []⟩

/-- The host port after the reset-pin event with the straps reading `own` (R14, R180, R184, R186, R187, R188). -/
def HostPort.atReset (own : Channel) : HostPort where
  held := false
  part := .init
  ownChannel := own
  config := .defaults
  events := []
  counters := Vector.replicate 18 0
  attention := .clear
  response := none

/-- The part after the reset-pin event with the straps reading `own` (R188), no command waiting. -/
def State.afterPin (own : Channel) : State where
  pending := []
  time := .atReset
  table := .atReset
  sched := .atReset
  classifier := .atReset
  slots := slotsAtReset
  link := .atReset
  builder := .atReset
  host := .atReset own
  handed := []
  freeCount := 0

/-- The machine right after power-on (R188). The straps read 0 (log entry 1, DESIGN CHOICE, unsafe: the spec gives no wiring). -/
def State.reset : State :=
  State.afterPin 0

end Sys2Proof.Machine
end

