-- ==== Sys2Proof/Machine/Header.lean ====
section
/-! DEFINITION. The header block of a register burst: its layout (R12, R189) and its check (R84, R85). Bit i of the block is its
position i. -/

namespace Sys2Proof.Machine

/-- The four fields of a header block (R12). -/
structure HeaderFields where
  identity : Identity
  downChannel : Channel
  scatter : Nat
  attemptCount : Byte
  deriving DecidableEq, Repr

/-- The positions of the identity's bits, bit 47 first (R189). -/
def identityPositions : List Nat :=
  [3, 5, 6, 7] ++ List.range' 9 7 ++ List.range' 17 15 ++ List.range' 33 22

/-- The positions of the down-channel (R189). -/
def downChannelPositions : List Nat :=
  [55, 56]

/-- The positions of the scatter index (R189). -/
def scatterPositions : List Nat :=
  List.range' 57 6

/-- The positions of the attempt count (R189). -/
def attemptPositions : List Nat :=
  [63] ++ List.range' 65 7

/-- The number whose bits stand at these positions, most significant first. -/
def readBits (b : HeaderBlock) (ps : List Nat) : Nat :=
  ps.foldl (fun n p => 2 * n + (b.getLsbD p).toNat) 0

/-- The fields read from the data bits (R189). -/
def headerFields (b : HeaderBlock) : HeaderFields where
  identity := BitVec.ofNat 48 (readBits b identityPositions)
  downChannel := Fin.ofNat 4 (readBits b downChannelPositions)
  scatter := readBits b scatterPositions
  attemptCount := BitVec.ofNat 8 (readBits b attemptPositions)

/-- The XOR of the position numbers of all 1 bits; position 0 adds nothing (R84). -/
def syndrome (b : HeaderBlock) : Nat :=
  (List.range 72).foldl (fun n p => if b.getLsbD p then n ^^^ p else n) 0

/-- The 72 bits hold an even number of 1s (R84). -/
def evenOnes (b : HeaderBlock) : Bool :=
  (List.range 72).foldl (fun even p => if b.getLsbD p then !even else even) true

/-- The block with the bit at one position inverted. -/
def flipAt (b : HeaderBlock) (p : Nat) : HeaderBlock :=
  b ^^^ (1#72 <<< p)

/-- What the check decides (R85). -/
inductive HeaderCheck where
  | clean (b : HeaderBlock)
  | corrected (b : HeaderBlock)
  | uncorrectable
  deriving DecidableEq, Repr

/-- The check, row by row of R85's table. -/
def checkHeader (b : HeaderBlock) : HeaderCheck :=
  if evenOnes b then
    if syndrome b = 0 then .clean b else .uncorrectable
  else if syndrome b ≤ 71 then .corrected (flipAt b (syndrome b))
  else .uncorrectable

/-- The bits of a number of `n` bits at positions `ps`, most significant first: the positions that hold a 1. -/
def placedBits (n : Nat) (ps : List Nat) : List Nat :=
  (ps.zipIdx.filter fun (_, i) => n.testBit (ps.length - 1 - i)).map Prod.fst

/-- The block whose 1 bits stand at these positions. -/
def blockOf (ones : List Nat) : HeaderBlock :=
  ones.foldl flipAt 0#72

/-- The header block a terminal sends: the data bits, the seven check bits that make the syndrome 0, and the overall parity bit
that makes the number of 1s even (R84). The part never builds one; statements and tests do. -/
def encodeHeader (f : HeaderFields) : HeaderBlock :=
  let data := blockOf (placedBits f.identity.toNat identityPositions ++ placedBits f.downChannel.val downChannelPositions ++
    placedBits f.scatter scatterPositions ++ placedBits f.attemptCount.toNat attemptPositions)
  let checked := ([1, 2, 4, 8, 16, 32, 64].filter fun p => syndrome data &&& p ≠ 0).foldl flipAt data
  if evenOnes checked then checked else flipAt checked 0

end Sys2Proof.Machine
end

