-- ==== Sys2Proof/Machine/Operands.lean ====
section
/-! DEFINITION. The operand forms of the commands: burst reports and summaries (R80, R81, R191), host parameters (R192), the
CONFIGURE checks (R180), and the bytes of events and responses (R192). -/

namespace Sys2Proof.Machine

/-! ### Burst reports -/

/-- The outcome of a register burst's report (R80). -/
inductive BurstOutcome where
  | good (arrival : BitVec 28) (header : HeaderBlock)
  | noBurst
  | undecoded
  deriving DecidableEq, Repr

/-- A report that holds every field its kind and outcome require (R80, R81). The arrival of a DATA report is `none` for NO-BURST
and UNDECODED, which are both a missing burst (R93). -/
inductive Report where
  | discover (ref : TreeCycle) (o : BurstOutcome)
  | directed (kind : DirectedKind) (ref : TreeCycle) (h : Handle) (o : BurstOutcome)
  | data (ref : TreeCycle) (h : Handle) (offset : BitVec 19) (arrival : Option (BitVec 28))
  | ungranted (ref : TreeCycle) (span : SpanName) (o : BurstOutcome)
  deriving DecidableEq, Repr

/-- The outcome field with what GOOD requires of a register burst; 3 names no outcome (R80, R191). -/
def burstOutcome (r : RawReport) : Option BurstOutcome :=
  match r.outcome.map BitVec.toNat with
  | some 0 =>
    match r.arrival, r.header with
    | some q, some b => some (.good q b)
    | _, _ => none
  | some 1 => some .noBurst
  | some 2 => some .undecoded
  | _ => none

/-- The outcome field of a DATA report with what GOOD requires of it (R80). -/
def dataOutcome (r : RawReport) : Option (Option (BitVec 28)) :=
  match r.outcome.map BitVec.toNat with
  | some 0 => r.arrival.map some
  | some 1 => some none
  | some 2 => some none
  | _ => none

/-- A 7-bit handle field. -/
def handleOf (h : BitVec 7) : Handle :=
  Fin.ofNat 128 h.toNat

/-- The report by its grant kind; `none` where the kind or outcome names no value or a required field is missing, which R81
counts under stray reports. -/
def parseReport (r : RawReport) : Option Report :=
  match r.refCycle, r.kind.map BitVec.toNat with
  | some ref, some 0 => (burstOutcome r).map (.discover ref)
  | some ref, some 1 => r.handle.bind fun h => (burstOutcome r).map (.directed .range ref (handleOf h))
  | some ref, some 2 => r.handle.bind fun h => (burstOutcome r).map (.directed .verify ref (handleOf h))
  | some ref, some 3 =>
    r.handle.bind fun h => r.offset.bind fun g => (dataOutcome r).map (.data ref (handleOf h) g)
  | some ref, some 4 => r.span.bind fun n => (burstOutcome r).map (.ungranted ref n)
  | _, _ => none

/-- The kind code of a reservation (R191). -/
def SpanKind.code : SpanKind → Nat
  | .ownDiscovery => 0
  | .peerQuiet _ => 1
  | .range _ => 2
  | .verify _ => 3

/-- A span is the one a report names: same kind code and same start (R94). -/
def Span.named (s : Span) (n : SpanName) : Bool :=
  s.kind.code == n.kind.toNat && s.first.cycle == n.cycle && s.first.offset == n.offset.toNat

/-- A span of a directed grant (R55). -/
def Span.isDirected (s : Span) : Bool :=
  match s.kind with
  | .range _ => true
  | .verify _ => true
  | .ownDiscovery => false
  | .peerQuiet _ => false

/-! ### Host parameters -/

/-- A handle byte that names a handle, 0 to 127 (R26). -/
def handleByte (b : Byte) : Option Handle :=
  if h : b.toNat < 128 then some ⟨b.toNat, h⟩ else none

/-- A channel byte that names a channel, 0 to 3 (R157). -/
def channelByte (b : Byte) : Option Channel :=
  if h : b.toNat < 4 then some ⟨b.toNat, h⟩ else none

/-- A kind byte of SUSPEND: DISCOVERY 0, RANGING 1 (R73, R192). -/
def holdByte (b : Byte) : Option Hold :=
  match b.toNat with
  | 0 => some .discovery
  | 1 => some .ranging
  | _ => none

/-- The clear flag byte: 0 is no and 1 is yes (R186, R192; log entry 12). -/
def clearByte (b : Byte) : Option Bool :=
  match b.toNat with
  | 0 => some false
  | 1 => some true
  | _ => none

/-- The conditions a CLEAR-ATTENTION byte names; `none` where a bit of 4 to 7 is set or no bit is (R192). -/
def conditionsByte (b : Byte) : Option Attention :=
  if b = 0 ∨ 16 ≤ b.toNat then none
  else some { header := b.getLsbD 0, duplicate := b.getLsbD 1, lane := b.getLsbD 2, overrun := b.getLsbD 3 }

/-! ### CONFIGURE -/

/-- The checks of R180's table in order, for a part of channel `own`: the k-th says that parameter k passes. -/
def configChecks (own : Channel) (f : ConfigFrame) : List Bool :=
  let t := f.treeLoopTime.toNat
  let lo := f.minLoopDelay.toNat
  let hi := f.maxLoopDelay.toNat
  let within (w : BitVec 32) (a b : Nat) : Bool := a ≤ w.toNat && w.toNat ≤ b
  [within f.channelCount 1 4 && own.val < f.channelCount.toNat,
    within f.treeLoopTime 400000 2137151,
    lo ≤ hi,
    hi + responseOffset ≤ t && hi - lo ≤ 1250000,
    within f.lead 8 15 && (t + cycleLength - 1) / cycleLength + 2 ≤ f.lead.toNat,
    within f.discoveryPeriod 100 60000,
    within f.fastPeriod 20 1000,
    within f.settleTime 4 64,
    within f.rangingTolerance 1 16,
    within f.driftThreshold 1 16,
    within f.missingLimit 2 15,
    within f.freshness 8 1000,
    within f.retention 1 60000,
    within f.handoverTime 50 10000,
    within f.absenceTime 1000 60000,
    within f.trainingPattern 0 255,
    f.eventMask.toNat < 2 ^ 19]

/-- The number of the first parameter whose check fails (R180). -/
def configProblem (own : Channel) (f : ConfigFrame) : Option Nat :=
  ((configChecks own f).findIdx? (!·)).map (· + 1)

/-- The configuration an accepted CONFIGURE puts in force (R180). -/
def configOfFrame (f : ConfigFrame) : Configuration where
  channelCount := f.channelCount.toNat
  treeLoopTime := f.treeLoopTime.toNat
  minLoopDelay := f.minLoopDelay.toNat
  maxLoopDelay := f.maxLoopDelay.toNat
  lead := f.lead.toNat
  discoveryPeriod := f.discoveryPeriod.toNat
  fastPeriod := f.fastPeriod.toNat
  settleTime := f.settleTime.toNat
  rangingTolerance := f.rangingTolerance.toNat
  driftThreshold := f.driftThreshold.toNat
  missingLimit := f.missingLimit.toNat
  freshness := f.freshness.toNat
  retention := f.retention.toNat
  handoverTime := f.handoverTime.toNat
  absenceTime := f.absenceTime.toNat
  trainingPattern := f.trainingPattern.setWidth 8
  eventMask := f.eventMask.setWidth 19

/-! ### Events and responses in bytes -/

/-- The kind number of an event, 1 to 19 in the order of the event table (R192). -/
def Event.kind : Event → Nat
  | .registered _ _ _ => 1
  | .rangingFailed _ _ _ => 2
  | .lost _ _ => 3
  | .released _ _ _ => 4
  | .duplicate _ _ _ => 5
  | .claimYielded _ _ _ => 6
  | .tableFull _ _ => 7
  | .barredHeard _ _ => 8
  | .outOfBand _ _ => 9
  | .crossHeard _ _ _ => 10
  | .tuneSent _ _ => 11
  | .delayLimit _ _ _ => 12
  | .rerange _ _ _ => 13
  | .handoverDone _ _ _ _ => 14
  | .handoverDeclined _ _ _ _ => 15
  | .handoverLapsed _ _ _ _ _ => 16
  | .laneChange _ _ _ => 17
  | .configMismatch _ _ _ => 18
  | .windowClosed _ => 19

/-- The handle an event carries (chapter 12.6). -/
def Event.handle? : Event → Option Handle
  | .registered h _ _ => some h
  | .rangingFailed h _ _ => some h
  | .lost h _ => some h
  | .released h _ _ => some h
  | .duplicate h _ _ => some h
  | .claimYielded h _ _ => some h
  | .tableFull _ _ => none
  | .barredHeard _ _ => none
  | .outOfBand _ _ => none
  | .crossHeard _ _ _ => none
  | .tuneSent _ _ => none
  | .delayLimit h _ _ => some h
  | .rerange h _ _ => some h
  | .handoverDone h _ _ _ => some h
  | .handoverDeclined h _ _ _ => some h
  | .handoverLapsed h _ _ _ _ => some h
  | .laneChange _ _ _ => none
  | .configMismatch _ _ _ => none
  | .windowClosed _ => none

/-- The identity an event carries (chapter 12.6). -/
def Event.identity? : Event → Option Identity
  | .registered _ x _ => some x
  | .rangingFailed _ x _ => some x
  | .lost _ x => some x
  | .released _ x _ => some x
  | .duplicate _ x _ => some x
  | .claimYielded _ x _ => some x
  | .tableFull x _ => some x
  | .barredHeard x _ => some x
  | .outOfBand x _ => some x
  | .crossHeard x _ _ => some x
  | .tuneSent x _ => some x
  | .delayLimit _ x _ => some x
  | .rerange _ x _ => some x
  | .handoverDone _ x _ _ => some x
  | .handoverDeclined _ x _ _ => some x
  | .handoverLapsed _ x _ _ _ => some x
  | .laneChange _ _ _ => none
  | .configMismatch _ _ _ => none
  | .windowClosed _ => none

/-- A channel in one detail byte. -/
def channelDetail (c : Channel) : Byte :=
  BitVec.ofNat 8 c.val

/-- The numbers of the lane states (R192). -/
def LaneState.number : LaneState → Byte
  | .silent => 0
  | .seeking => 1
  | .heard => 2
  | .up => 3
  | .hold => 4
  | .absent => 5

/-- The numbers of the RANGING-FAILED reasons. -/
def RangingFailure.number : RangingFailure → Byte
  | .noResponse => 0
  | .noAgreement => 1
  | .beyondReach => 2
  | .notQueued => 3

/-- The numbers of the HANDOVER-DECLINED reasons. -/
def DeclinedBy.number : DeclinedBy → Byte
  | .full => 0
  | .barred => 1
  | .present => 2
  | .notRunning => 3
  | .unknown => 4
  | .noAnswer => 5

/-- The numbers of the HANDOVER-LAPSED causes. -/
def LapsedBy.number : LapsedBy → Byte
  | .notice => 0
  | .deadline => 1
  | .withdrawn => 2

/-- The detail bytes an event's kind lists, in listed order; enumerated values are numbered from 0 in the order the event table
writes them (R192). R192 gives WINDOW-CLOSED's burst count no width; it takes one byte here, the most significant (log entry 27). -/
def Event.detail : Event → List Byte
  | .registered _ _ .fresh => [0]
  | .registered _ _ .rerange => [1]
  | .registered _ _ (.handover p) => [2, channelDetail p]
  | .rangingFailed _ _ reason => [reason.number]
  | .lost _ _ => []
  | .released _ _ .retention => [0]
  | .released _ _ (.peerClaim p) => [1, channelDetail p]
  | .duplicate _ _ q => [channelDetail q]
  | .claimYielded _ _ p => [channelDetail p]
  | .tableFull _ a => [a]
  | .barredHeard _ a => [a]
  | .outOfBand _ coarse =>
    let w : BitVec 32 := BitVec.ofInt 32 coarse
    [w.extractLsb' 24 8, w.extractLsb' 16 8, w.extractLsb' 8 8, w.extractLsb' 0 8]
  | .crossHeard _ n a => [channelDetail n, a]
  | .tuneSent _ p => [channelDetail p]
  | .delayLimit _ _ .low => [0]
  | .delayLimit _ _ .high => [1]
  | .rerange _ _ (.heard a) => [0, a]
  | .rerange _ _ .misaligned => [1]
  | .rerange _ _ .host => [2]
  | .handoverDone _ _ target h => [channelDetail target, BitVec.ofNat 8 h.val]
  | .handoverDeclined _ _ target reason => [channelDetail target, reason.number]
  | .handoverLapsed _ _ .source other cause => [0, channelDetail other, cause.number]
  | .handoverLapsed _ _ .target other cause => [1, channelDetail other, cause.number]
  | .laneChange c left entered => [channelDetail c, left.number, entered.number]
  | .configMismatch c own received => [channelDetail c, own.setWidth 8, received.setWidth 8]
  | .windowClosed n => [BitVec.ofNat 8 n]

/-- The 15 bytes of an event record (R192). -/
def EventRecord.bytes (e : EventRecord) : List Byte :=
  let x := e.event.identity?.getD 0
  let presence : Byte := (if e.event.handle?.isSome then 1 else 0) + (if e.event.identity?.isSome then 2 else 0)
  [BitVec.ofNat 8 e.event.kind, e.cycle.extractLsb' 8 8, e.cycle.extractLsb' 0 8, presence,
    BitVec.ofNat 8 ((e.event.handle?.map Fin.val).getD 0),
    x.extractLsb' 40 8, x.extractLsb' 32 8, x.extractLsb' 24 8, x.extractLsb' 16 8, x.extractLsb' 8 8, x.extractLsb' 0 8] ++
    (e.event.detail ++ [0, 0, 0, 0]).take 4

/-- The response code byte (R192). -/
def Response.code : Response → Byte
  | .ok _ => 0
  | .wrongState => 1
  | .busy => 2
  | .empty => 3
  | .noSuchHandle => 4
  | .full => 5
  | .laneDown => 6
  | .badParameter _ => 7

/-- The parameter number byte, 0 except in BAD-PARAMETER (R192). -/
def Response.parameter : Response → Byte
  | .badParameter n => BitVec.ofNat 8 n
  | .ok _ => 0
  | .wrongState => 0
  | .busy => 0
  | .empty => 0
  | .noSuchHandle => 0
  | .full => 0
  | .laneDown => 0

/-- FREE VALUE (log entry 13): the data bytes of an OK response whose items the manual lists without a byte layout: READ-STATUS,
READ-COUNTERS, READ-RECORD and FIND. -/
opaque Config.itemBytes : ResponseData → List Byte

/-- The data bytes of an OK response: none without data, the 15 bytes of the event record for READ-EVENT (R185, R192). -/
def ResponseData.bytes : ResponseData → List Byte
  | .nothing => []
  | .event e => e.bytes
  | .status r => Config.itemBytes (.status r)
  | .counters values => Config.itemBytes (.counters values)
  | .record r => Config.itemBytes (.record r)
  | .found r => Config.itemBytes (.found r)

/-- The data of a response, present only with OK (R192). -/
def Response.data : Response → List Byte
  | .ok d => d.bytes
  | .wrongState => []
  | .busy => []
  | .empty => []
  | .noSuchHandle => []
  | .full => []
  | .laneDown => []
  | .badParameter _ => []

/-- The response frame: code, parameter number, data length, data (R192). -/
def Response.frame (r : Response) : List Byte :=
  [r.code, r.parameter, BitVec.ofNat 8 r.data.length] ++ r.data

end Sys2Proof.Machine
end

