-- ==== Sys2Proof/Machine/Flags.lean ====
section
/-! DEFINITION. The computed flags of the part: INT and ATTN (R184, R187, R188), the event mask (R184), the lane wiring (R132), and
what a FILL reports and how it is tested (R127, R128, R131, R135). -/

namespace Sys2Proof.Machine

/-- INT is asserted while the event queue holds an event, and released while the reset pin is held (R184, R188). -/
def intAsserted (hp : HostPort) : Bool :=
  !hp.held && !hp.events.isEmpty

/-- ATTN is pulled while any attention condition is set, and released while the reset pin is held (R187, R188). -/
def attnPulled (hp : HostPort) : Bool :=
  !hp.held && (hp.attention.header || hp.attention.duplicate || hp.attention.lane || hp.attention.overrun)

/-- The kind of the event is in the event mask: bit k stands for kind k + 1 (R184, R192). -/
def Event.masked (c : Configuration) (e : Event) : Bool :=
  c.eventMask.getLsbD (e.kind - 1)

/-- The channel wired to an inbound lane: own channel + i + 1 modulo 4 (R132). -/
def laneChannel (own : Channel) (l : LaneNo) : Channel :=
  own + Fin.ofNat 4 l.val + 1

/-- A lane is configured when its channel is below the channel count, else unused (R132). -/
def laneConfigured (hp : HostPort) (l : LaneNo) : Bool :=
  (laneChannel hp.ownChannel l).val < hp.config.channelCount

/-- The inbound lane wired to a channel other than own (R132). -/
def laneOf (own c : Channel) : Option LaneNo :=
  (List.finRange 3).find? fun l => laneChannel own l == c

/-- The peer is heard on a lane in HEARD or UP (R127). -/
def Lane.hears (l : Lane) : Bool :=
  l.state == .heard || l.state == .up

/-- The hearing mask of a FILL: the bit of each channel whose inbound lane is HEARD or UP; own channel's bit is clear (R127). -/
def hearingMask (own : Channel) (lanes : Vector Lane 3) : BitVec 4 :=
  (List.finRange 3).foldl
    (fun m (l : LaneNo) => if lanes[l].hears then m ||| (1#4 <<< (laneChannel own l).val) else m) 0#4

/-- The configuration digest: the XOR of the six nibbles of the tree loop time, the lead and the channel count (R128). -/
def digest (c : Configuration) : BitVec 4 :=
  let t : BitVec 24 := BitVec.ofNat 24 c.treeLoopTime
  t.extractLsb' 20 4 ^^^ t.extractLsb' 16 4 ^^^ t.extractLsb' 12 4 ^^^ t.extractLsb' 8 4 ^^^ t.extractLsb' 4 4 ^^^
    t.extractLsb' 0 4 ^^^ BitVec.ofNat 4 c.lead ^^^ BitVec.ofNat 4 c.channelCount

/-- The running flag of a FILL: the part has taken a CYCLE strobe within the last 320 word times (R131). -/
def runningFlag (l : PeerLink) : Bool :=
  l.strobeWords < 320

/-- The UP test of a good FILL (R135). -/
def upTest (own : Channel) (ownDigest : BitVec 4) (f : FillInfo) : Bool :=
  f.mask.getLsbD own.val && f.digest == ownDigest && f.running

end Sys2Proof.Machine
end

