-- ==== Sys2Proof/Machine/Timeline.lean ====
section
/-! DEFINITION. The arithmetic of the timeline, of cycle numbers and of deadlines (R1, R2, R4, R7, R62). -/

namespace Sys2Proof.Machine

/-- The signed difference of two tree cycle numbers, in −32,768 to 32,767 (00_scope "Cycle numbers", R1). -/
def cycleDiff (a b : TreeCycle) : Int :=
  (a - b).toInt

/-- The position `offset` bt after the origin of `cycle`, normalised: whole cycles are carried into the cycle number (R1). -/
def Pos.ofOffset (cycle : TreeCycle) (offset : Int) : Pos where
  cycle := cycle + BitVec.ofInt 16 (offset / cycleLength)
  offset := (offset % cycleLength).toNat

/-- How far `p` lies after `q`, in bit times (R1). -/
def Pos.after (p q : Pos) : Int :=
  cycleDiff p.cycle q.cycle * cycleLength + ((p.offset : Int) - q.offset)

/-- `p` is `q` or earlier (R1). -/
def Pos.le (p q : Pos) : Bool :=
  p.after q ≤ 0

/-- A span contains every position from its first to its last, ends included (R1). -/
def Span.contains (s : Span) (p : Pos) : Bool :=
  s.first.le p && p.le s.last

/-- Two spans overlap when some position lies in both, ends included (R57). -/
def Span.overlaps (a b : Span) : Bool :=
  a.first.le b.last && b.first.le a.last

/-- The position of an arrival in quarters against a reference cycle: the left-over quarters play no part (R2). -/
def arrivalPos (cycle : TreeCycle) (quarters : Int) : Pos :=
  Pos.ofOffset cycle (quarters / 4)

/-- The interval of `n` whole cycles from `first`: to (first + n − 1, 312,499). -/
def wholeCycles (kind : SpanKind) (first : TreeCycle) (n : Nat) : Span where
  kind := kind
  first := ⟨first, 0⟩
  last := ⟨first + BitVec.ofInt 16 ((n : Int) - 1), cycleLength - 1⟩

/-- The local count nearest to now that has this tree cycle number (R4; log entry 11 for a number half the range away). -/
def localOf (t : Timebase) (c : TreeCycle) : LocalCount :=
  t.localCount + BitVec.ofInt 32 (cycleDiff c t.treeCycle)

/-- A deadline is reached when (local count − deadline) modulo 2^32 is below 2^31 (R7). -/
def reached (count deadline : LocalCount) : Bool :=
  (count - deadline).toNat < 2 ^ 31

/-- m of R62: the response offset and the minimum loop delay. -/
def nearestArrival (c : Configuration) : Nat :=
  responseOffset + c.minLoopDelay

/-- k of R62: the grant lead. -/
def grantLead (c : Configuration) : Nat :=
  nearestArrival c / cycleLength

/-- How far the latest end of a window's last burst lies after the origin of the window's first cycle (R62). -/
def latestEnd (c : Configuration) : Nat :=
  nearestArrival c % cycleLength + (c.maxLoopDelay - c.minLoopDelay) + largestScatter + burstLength + discoverySpread

/-- w of R62: the window length. -/
def windowLength (c : Configuration) : Nat :=
  latestEnd c / cycleLength + 1

/-- The greatest launch delay of a record (R19). -/
def launchBound (c : Configuration) : Nat :=
  c.treeLoopTime - responseOffset

end Sys2Proof.Machine
end

