-- ==== Sys2Proof/Machine/Ops.lean ====
section
/-! DEFINITION. The operations the meanings share: counts, events and attention (R184, R186, R187), the queues (R129, R170), the
hand-offs (R17), the records (R15 to R21), the slots (R97) and the span list (R55). -/

namespace Sys2Proof.Machine

/-! ### The part and its clock -/

/-- The blocks act: the reset pin is released and the part is RUNNING (R30, R178, R188). -/
def running (s : State) : Bool :=
  !s.host.held && s.host.part == .running

/-- The local count now. -/
def now (s : State) : LocalCount :=
  s.time.localCount

/-- The deadline `k` cycles ahead (R7). -/
def ahead (s : State) (k : Nat) : LocalCount :=
  s.time.localCount + BitVec.ofNat 32 k

/-- A deadline is reached at the count as it stands (R7). -/
def due (s : State) (deadline : LocalCount) : Bool :=
  reached s.time.localCount deadline

/-! ### Counters, attention, events, responses -/

/-- A counter's place in R186's table. -/
def Counter.index : Counter → Fin 18
  | .discoveryWindows => 0
  | .identitiesHeard => 1
  | .headersCorrected => 2
  | .headersUncorrectable => 3
  | .windowOverflow => 4
  | .lateReports => 5
  | .strayReports => 6
  | .wrongTerminal => 7
  | .foreignLight => 8
  | .contestedIgnored => 9
  | .outOfBand => 10
  | .noticesDiscarded => 11
  | .noticeOverruns => 12
  | .messageOverruns => 13
  | .eventsLost => 14
  | .badWords l => 15 + Fin.ofNat 18 l.val

/-- One more, stopping at 65,535 (R186). -/
def countUp (v : BitVec 16) : BitVec 16 :=
  if v = 0xFFFF#16 then v else v + 1

/-- A counter raised by one (R186). -/
def HostPort.bump (c : Counter) (hp : HostPort) : HostPort :=
  { hp with counters := hp.counters.set c.index (countUp hp.counters[c.index]) }

/-- An attention condition set (R187). -/
def Attention.set : Condition → Attention → Attention
  | .header, a => { a with header := true }
  | .duplicate, a => { a with duplicate := true }
  | .lane, a => { a with lane := true }
  | .overrun, a => { a with overrun := true }

/-- An attention condition set on the host port (R187). -/
def HostPort.attend (c : Condition) (hp : HostPort) : HostPort :=
  { hp with attention := hp.attention.set c }

/-- An event handed to the host port: masked, queued, or dropped and counted with OVERRUN set (R184). -/
def HostPort.raise (cycle : TreeCycle) (e : Event) (hp : HostPort) : HostPort :=
  if e.masked hp.config then hp
  else if hp.events.length < 64 then { hp with events := hp.events ++ [⟨cycle, e⟩] }
  else (hp.bump .eventsLost).attend .overrun

/-- An action of the host port alone. -/
def State.onHost (s : State) (f : HostPort → HostPort) : State :=
  { s with host := f s.host }

/-- One occurrence counted. -/
def bump (c : Counter) (s : State) : State :=
  s.onHost (·.bump c)

/-- One attention condition set. -/
def attend (c : Condition) (s : State) : State :=
  s.onHost (·.attend c)

/-- One event raised, stamped with the tree cycle number current (R54, R184). -/
def raise (e : Event) (s : State) : State :=
  s.onHost (·.raise s.time.treeCycle e)

/-- The response to the frame taken (R179). -/
def respond (r : Response) (s : State) : State :=
  s.onHost fun hp => { hp with response := some r }

/-! ### The outbound queue and the backlog -/

/-- A notice queued, or discarded at 128, counted, with OVERRUN set (R129). -/
def queueNotice (n : Notice) (s : State) : State :=
  if s.link.outbound.length < 128 then { s with link := { s.link with outbound := s.link.outbound ++ [n] } }
  else attend .overrun (bump .noticeOverruns s)

/-- The backlog accepts a message (R170). -/
def backlogRoom (s : State) : Bool :=
  s.builder.backlog.length < 256

/-- A message queued with its tag, or dropped at 256, counted, with OVERRUN set (R170). -/
def queueMessage (m : Message) (tag : Option Identity) (s : State) : State :=
  if backlogRoom s then { s with builder := { s.builder with backlog := s.builder.backlog ++ [⟨m, tag⟩] } }
  else attend .overrun (bump .messageOverruns s)

/-! ### Hand-offs -/

/-- Something handed by one block to another (R17). -/
def hand (x : Handoff) (s : State) : State :=
  { s with handed := s.handed ++ [x] }

/-- A command that carries its content takes the hand-off of that content, where one waits (log entry 4). -/
def takeEvent (x : Handoff) (s : State) : State :=
  { s with handed := s.handed.erase x }

/-- The oldest hand-off that `sel` selects, with the state after it has been taken (log entry 4). -/
def takeHanded {α : Type} (sel : Handoff → Option α) (s : State) : Option (α × State) :=
  (s.handed.findSome? sel).map fun a => (a, { s with handed := s.handed.eraseP fun x => (sel x).isSome })

/-- The hand-offs that `sel` selects and that came before `a`, oldest first; all that wait where `a` itself does not. -/
def olderHanded {α : Type} [DecidableEq α] (sel : Handoff → Option α) (a : α) (s : State) : List α :=
  (s.handed.filterMap sel).takeWhile (· ≠ a)

/-- One hand-off taken in its order: those that `sel` selects and that came before it are taken first, oldest first (log entry 4). -/
def takeInOrder {α : Type} [DecidableEq α] (sel : Handoff → Option α) (take : α → State → State) (a : α) (s : State) : State :=
  take a ((olderHanded sel a s).foldl (fun s b => take b s) s)

/-- The oldest hand-off that `sel` selects and `want` asks for taken in its order; with none waiting there is nothing to take (log
entry 4). -/
def takeWantedInOrder {α : Type} [DecidableEq α] (sel : Handoff → Option α) (want : α → Bool) (take : α → State → State)
    (s : State) : State :=
  match (s.handed.filterMap sel).find? want with
  | some a => takeInOrder sel take a s
  | none => s

/-! ### Records -/

/-- The record of a handle (R15). -/
def recordAt (s : State) (h : Handle) : Record :=
  s.table.records[h]

/-- A record written. -/
def setRecord (h : Handle) (r : Record) (s : State) : State :=
  { s with table := { s.table with records := s.table.records.set h r } }

/-- The identity a record holds (R15). -/
def Record.identity? : Record → Option Identity
  | .free => none
  | .pending x _ _ => some x
  | .ranging x _ => some x
  | .active x _ => some x
  | .offering x _ _ _ => some x
  | .leaving x _ _ _ _ => some x
  | .arriving x _ _ _ _ => some x
  | .lost x _ _ _ => some x

/-- The state a record is in (R15). -/
def Record.state : Record → RecordState
  | .free => .free
  | .pending _ _ _ => .pending
  | .ranging _ _ => .ranging
  | .active _ _ => .active
  | .offering _ _ _ _ => .offering
  | .leaving _ _ _ _ _ => .leaving
  | .arriving _ _ _ _ _ => .arriving
  | .lost _ _ _ _ => .lost

/-- A record is RANGING in stage ATTEMPTING. -/
def Record.isAttempting : Record → Bool
  | .ranging _ r => r.stage == .attempting
  | .free => false
  | .pending _ _ _ => false
  | .active _ _ => false
  | .offering _ _ _ _ => false
  | .leaving _ _ _ _ _ => false
  | .arriving _ _ _ _ _ => false
  | .lost _ _ _ _ => false

/-- The handle of the record that holds an identity (R18). -/
def holder (s : State) (x : Identity) : Option Handle :=
  (List.finRange 128).find? fun h => (recordAt s h).identity? == some x

/-- The lowest-numbered FREE handle (R20). -/
def lowestFree (s : State) : Option Handle :=
  (List.finRange 128).find? fun h => (recordAt s h).state == .free

/-! ### Slots and waiting requests -/

/-- The slot of a handle (R97). -/
def slotAt (s : State) (h : Handle) : Slot :=
  s.slots[h]

/-- A slot written. -/
def setSlot (h : Handle) (v : Slot) (s : State) : State :=
  { s with slots := s.slots.set h v }

/-- A request asks for RANGE. -/
def Request.isRange (r : Request) : Bool :=
  match r.wanted with
  | .range _ => true
  | .verify => false

/-- A request removed from the placement queue; the entries after it keep their order (R70). -/
def dropRequest (h : Handle) (s : State) : State :=
  { s with sched := { s.sched with placements := s.sched.placements.filter fun r => r.handle != h } }

/-- The waiting request of a record withdrawn, where there is one; the slot of a RANGE request becomes IDLE (R70, R101). -/
def withdrawRequest (h : Handle) (s : State) : State :=
  if s.sched.placements.any fun r => r.handle == h && r.isRange then setSlot h .idle (dropRequest h s)
  else dropRequest h s

/-- A record made FREE, with its deadlines and its waiting request (R21, R70). -/
def freeRecord (h : Handle) (s : State) : State :=
  setRecord h .free (withdrawRequest h s)

/-! ### The barred and contested lists -/

/-- The identity is in the barred list (R22). -/
def isBarred (s : State) (x : Identity) : Bool :=
  s.table.barred.contains x

/-- The contested entry of an identity (R24). -/
def contestedEntry (s : State) (x : Identity) : Option Contested :=
  s.table.contested.find? fun c => c.identity == x

/-- The contested entry of an identity removed; the others keep their order (R25). -/
def uncontest (x : Identity) (s : State) : State :=
  { s with table := { s.table with contested := s.table.contested.filter fun c => c.identity != x } }

/-- An entry appended with its expiry 128 cycles ahead, the oldest removed first where the list holds 16 (R24). -/
def contest (x : Identity) (s : State) : State :=
  let kept := if s.table.contested.length < 16 then s.table.contested else s.table.contested.tail
  { s with table := { s.table with contested := kept ++ [⟨x, ahead s 128⟩] } }

/-! ### Spans -/

/-- The span list with a span added by its start, after those with the same start (R55). -/
def insertSpan (x : Span) : List Span → List Span
  | [] => [x]
  | y :: rest => if y.first.le x.first then y :: insertSpan x rest else x :: y :: rest

/-- A span added to the span list and handed to the slate builder as a reservation (R55, R173). -/
def addSpan (x : Span) (s : State) : State :=
  { s with
    sched := { s.sched with spans := insertSpan x s.sched.spans }
    builder := { s.builder with reservations := s.builder.reservations ++ [x] } }

/-- The number of directed spans listed (R71). -/
def directedSpans (s : State) : Nat :=
  s.sched.spans.countP Span.isDirected

/-- A kind of hold is on the suspension stack (R73). -/
def isHeld (k : Hold) (s : State) : Bool :=
  s.sched.stack.contains k

end Sys2Proof.Machine
end

