-- ==== Sys2Proof/Machine/Classifier.lean ====
section
/-! DEFINITION. The burst classifier: burst reports, end-of-window summaries and the expiry of issued grants (R80 to R96, R64,
R65). -/

namespace Sys2Proof.Machine

/-! ### The header check and the capture (R85, R86) -/

/-- An uncorrectable header offered to the capture: an armed one takes it and sets HEADER (R86). -/
def offerCapture (cycle : TreeCycle) (kind : ReportKind) (q : BitVec 28) (s : State) : State :=
  match s.classifier.capture with
  | none => attend .header { s with classifier := { s.classifier with capture := some ⟨cycle, kind, q⟩ } }
  | some _ => s

/-- A header block met by the classifier: its fields where it is clean or corrected, counted as R85 says; an uncorrectable one is
counted and offered to the capture (R85, R86). -/
def takeHeader (cycle : TreeCycle) (kind : ReportKind) (q : BitVec 28) (b : HeaderBlock) (s : State) :
    Option HeaderFields × State :=
  match checkHeader b with
  | .clean c => (some (headerFields c), s)
  | .corrected c => (some (headerFields c), bump .headersCorrected s)
  | .uncorrectable => (none, offerCapture cycle kind q (bump .headersUncorrectable s))

/-! ### Identity bursts (R64, R87 to R89) -/

/-- A scatter index of 48 to 63 names no scatter (R9). -/
def badScatter (f : HeaderFields) : Bool :=
  48 ≤ f.scatter

/-- The window's activity flag set (R59). -/
def markActivity (s : State) : State :=
  { s with sched := { s.sched with window := s.sched.window.map fun w => { w with activity := true } } }

/-- One more identity burst in the window's count (R64). -/
def countBurst (s : State) : State :=
  { s with sched := { s.sched with window := s.sched.window.map fun w => { w with bursts := w.bursts + 1 } } }

/-- A cross-heard identity handed on, after the scatter test (R89). -/
def crossHeard (f : HeaderFields) (s : State) : State :=
  if badScatter f then bump .strayReports s
  else hand (.crossHeard ⟨f.identity, f.downChannel, f.attemptCount⟩) s

/-- The coarse loop delay of an identity burst, the grant offset being 0 (R88). -/
def coarseDelay (q : Int) (scatter : Nat) : Int :=
  q / 4 - responseOffset - 256 * scatter

/-- The out-of-band test, with 64 bt of spread each way (R88, R13). -/
def inBand (c : Configuration) (coarse : Int) : Bool :=
  (c.minLoopDelay : Int) - discoverySpread ≤ coarse && coarse ≤ (c.maxLoopDelay : Int) + discoverySpread

/-- Steps 4 to 6 of R87 for an own-channel burst, `q` quarters after the origin of cycle `g`. -/
def ownBurst (g : TreeCycle) (q : Int) (f : HeaderFields) (s : State) : State :=
  let coarse := coarseDelay q f.scatter
  if badScatter f then bump .strayReports s
  else if inBand s.host.config coarse then
    hand (.hearing ⟨f.identity, f.attemptCount, coarse, (arrivalPos g q).cycle⟩) (bump .identitiesHeard s)
  else raise (.outOfBand f.identity coarse) (bump .outOfBand s)

/-- R87 for an admitted identity burst. `q` is referred to the window's grant cycle `g` (step 1); `ref` and `arrival` are the
report's own, which the capture keeps. -/
def identityBurst (g : TreeCycle) (q : Int) (ref : TreeCycle) (kind : ReportKind) (arrival : BitVec 28) (b : HeaderBlock)
    (s : State) : State :=
  match takeHeader ref kind arrival b s with
  | (none, t) => markActivity t
  | (some f, t) => if f.downChannel = t.host.ownChannel then ownBurst g q f (markActivity t) else crossHeard f t

/-- An identity burst of the OPEN window `w`: admitted while the count is below 16, else dropped as overflow (R64). -/
def admitBurst (w : Window) (q : Int) (ref : TreeCycle) (kind : ReportKind) (arrival : BitVec 28) (b : HeaderBlock)
    (s : State) : State :=
  if w.bursts < 16 then identityBurst w.grantCycle q ref kind arrival b (countBurst s)
  else markActivity (bump .windowOverflow s)

/-- A report of the OPEN window `w`, its arrival measured from cycle `origin` (R64, R59, R87 step 1). -/
def windowReport (w : Window) (origin ref : TreeCycle) (kind : ReportKind) (o : BurstOutcome) (s : State) : State :=
  match o with
  | .good q b => admitBurst w (q.toNat + 4 * (cycleLength * cycleDiff origin w.grantCycle)) ref kind q b s
  | .undecoded => markActivity s
  | .noBurst => s

/-- How a DISCOVER report or a summary that names grant cycle `ref` stands to the windows (R64, R65). -/
inductive WindowMatch where
  | opened (w : Window)
  | announced
  | closed
  | unknown
  deriving DecidableEq, Repr

/-- The window in progress is tried first, then the last closed grant cycle (R64, R65). -/
def matchWindow (s : State) (ref : TreeCycle) : WindowMatch :=
  match s.sched.window with
  | some w =>
    if w.grantCycle = ref then (if w.stage = .opened then .opened w else .announced)
    else if s.sched.lastClosed = some ref then .closed
    else .unknown
  | none => if s.sched.lastClosed = some ref then .closed else .unknown

/-- A DISCOVER report (R64, R65). -/
def discoverReport (ref : TreeCycle) (o : BurstOutcome) (s : State) : State :=
  match matchWindow s ref with
  | .opened w => windowReport w w.grantCycle ref .discover o s
  | .announced => bump .strayReports s
  | .closed => bump .lateReports s
  | .unknown => bump .strayReports s

/-- An end-of-window summary (R64, R65, R59). -/
def windowSummary (ref : TreeCycle) (light : Bool) (s : State) : State :=
  match matchWindow s ref with
  | .opened _ => if light then markActivity s else s
  | .announced => bump .strayReports s
  | .closed => bump .lateReports s
  | .unknown => bump .strayReports s

/-! ### Directed reports (R83, R90 to R92) -/

/-- An issued-grant entry is the one with this kind, handle and grant cycle (R83). -/
def isEntry (k : DirectedKind) (h : Handle) (r : TreeCycle) (e : DirectedGrant) : Bool :=
  e.kind == k && e.handle == h && e.cycle == r

/-- The oldest entry that `sel` selects leaves the issued-grant table (R83, R82). -/
def dropEntry (sel : DirectedGrant → Bool) (s : State) : State :=
  { s with classifier := { s.classifier with issued := s.classifier.issued.eraseP sel } }

/-- An arrival lies inside an entry's span (R91). -/
def insideSpan (e : DirectedGrant) (q : BitVec 28) : Bool :=
  e.span.contains (arrivalPos e.cycle q.toNat)

/-- A RANGE result handed to the ranging unit (R90). -/
def handRange (e : DirectedGrant) (a : RangeAnswer) (s : State) : State :=
  hand (.rangeResult ⟨e.handle, e.identity, e.cycle, e.offset, a⟩) s

/-- A RANGE report matched to its entry, R90's table. -/
def rangeReport (e : DirectedGrant) (o : BurstOutcome) (s : State) : State :=
  match o with
  | .noBurst => handRange e (.noSample .noBurst) s
  | .undecoded => handRange e (.noSample .undecoded) s
  | .good q b =>
    match takeHeader e.cycle .range q b s with
    | (none, t) => handRange e (.noSample .header) t
    | (some f, t) =>
      if f.identity ≠ e.identity then handRange e (.noSample .wrongTerminal) (bump .wrongTerminal t)
      else if insideSpan e q then handRange e (.arrival q.toNat) t
      else handRange e (.noSample .offSpan) (bump .strayReports t)

/-- Who takes a VERIFY report: the handover rules or the delay tracker (R92). -/
inductive VerifyTaker where
  | handover
  | tracker (found : TrackedState)
  deriving DecidableEq, Repr

/-- The taker by the record that holds the entry's handle; none where the report is ignored (R92). -/
def verifyTaker (s : State) (e : DirectedGrant) : Option VerifyTaker :=
  match recordAt s e.handle with
  | .arriving x _ _ _ _ => if x = e.identity then some .handover else none
  | .active x _ => if x = e.identity then some (.tracker .active) else none
  | .offering x _ _ _ => if x = e.identity then some (.tracker .offering) else none
  | .free | .pending _ _ _ | .ranging _ _ | .leaving _ _ _ _ _ | .lost _ _ _ _ => none

/-- A VERIFY burst whose identity matched, handed on with its arrival (R92). -/
def handVerify (e : DirectedGrant) (q : Nat) (taker : VerifyTaker) (s : State) : State :=
  match taker with
  | .handover => hand (.verification ⟨e.handle, e.identity, e.cycle, e.offset, q⟩) s
  | .tracker found => hand (.trackerInput ⟨e.handle, e.identity, found, .burst e.cycle e.offset q⟩) s

/-- A VERIFY grant without a burst: missing for a tracked record, nothing for an ARRIVING one (R92). -/
def handMissing (e : DirectedGrant) (taker : VerifyTaker) (s : State) : State :=
  match taker with
  | .handover => s
  | .tracker found => hand (.trackerInput ⟨e.handle, e.identity, found, .missing e.cycle⟩) s

/-- A VERIFY report matched to its entry, R92's table. -/
def verifyReport (e : DirectedGrant) (o : BurstOutcome) (s : State) : State :=
  match verifyTaker s e with
  | none => s
  | some taker =>
    match o with
    | .noBurst => handMissing e taker s
    | .undecoded => handMissing e taker s
    | .good q b =>
      match takeHeader e.cycle .verify q b s with
      | (none, t) => t
      | (some f, t) =>
        if f.identity ≠ e.identity then bump .wrongTerminal t
        else if insideSpan e q then handVerify e q.toNat taker t
        else handVerify e q.toNat taker (bump .strayReports t)

/-- A directed entry's report or expiry acted on by its kind (R83, R82). -/
def answerEntry (e : DirectedGrant) (o : BurstOutcome) (s : State) : State :=
  match e.kind with
  | .range => rangeReport e o s
  | .verify => verifyReport e o s

/-- A RANGE or VERIFY report: matched to its oldest entry, which leaves the table, or stray (R83). -/
def directedReport (k : DirectedKind) (ref : TreeCycle) (h : Handle) (o : BurstOutcome) (s : State) : State :=
  match s.classifier.issued.find? (isEntry k h ref) with
  | some e => answerEntry e o (dropEntry (isEntry k h ref) s)
  | none => bump .strayReports s

/-- The strobe has come at which the entry's span is removed (R82, R56). -/
def entryExpired (s : State) (e : DirectedGrant) : Bool :=
  2 ≤ cycleDiff s.time.treeCycle e.span.last.cycle

/-- The expiry of an issued-grant entry, where it has come: a NO-BURST report of the grant (R82). -/
def serveExpiry (k : DirectedKind) (h : Handle) (r : TreeCycle) (s : State) : State :=
  let sel := fun e => isEntry k h r e && entryExpired s e
  match s.classifier.issued.find? sel with
  | some e => answerEntry e .noBurst (dropEntry sel s)
  | none => s

/-! ### DATA and ungranted reports (R93, R94) -/

/-- A DATA report handed to the delay tracker (R93). -/
def handData (ref : TreeCycle) (h : Handle) (offset : Nat) (arrival : Option (BitVec 28)) (x : Identity)
    (found : TrackedState) (s : State) : State :=
  match arrival with
  | some q => hand (.trackerInput ⟨h, x, found, .burst ref offset q.toNat⟩) s
  | none => hand (.trackerInput ⟨h, x, found, .missing ref⟩) s

/-- A DATA report, by the record its handle names (R93). -/
def dataReport (ref : TreeCycle) (h : Handle) (offset : Nat) (arrival : Option (BitVec 28)) (s : State) : State :=
  match recordAt s h with
  | .active x _ => handData ref h offset arrival x .active s
  | .offering x _ _ _ => handData ref h offset arrival x .offering s
  | .free | .pending _ _ _ | .ranging _ _ | .leaving _ _ _ _ _ | .arriving _ _ _ _ _ | .lost _ _ _ _ => s

/-- The interval of a window's OWN-DISCOVERY span (R63). -/
def windowSpan (w : Window) : Span :=
  ⟨.ownDiscovery, ⟨w.first, 0⟩, ⟨w.last, cycleLength - 1⟩⟩

/-- The OPEN window that takes an ungranted report: the one whose span the report names, or in whose span a GOOD report's position
lies (R94, first row). -/
def windowForUngranted (s : State) (n : SpanName) (o : BurstOutcome) : Option Window :=
  s.sched.window.filter fun w =>
    w.stage == .opened &&
      ((windowSpan w).named n ||
        match o with
        | .good q _ => (windowSpan w).contains (arrivalPos n.cycle q.toNat)
        | .noBurst => false
        | .undecoded => false)

/-- A report named under a listed PEER-QUIET span (R94). -/
def quietReport (ref : TreeCycle) (o : BurstOutcome) (s : State) : State :=
  match o with
  | .undecoded => bump .foreignLight s
  | .noBurst => bump .strayReports s
  | .good q b =>
    match takeHeader ref .ungranted q b s with
    | (none, t) => t
    | (some f, t) => if f.downChannel = t.host.ownChannel then bump .strayReports t else crossHeard f t

/-- The named span is a listed PEER-QUIET span: its kind code is 1 (R191). -/
def namesQuiet (s : State) (n : SpanName) : Bool :=
  n.kind == 1 && s.sched.spans.any fun x => x.named n

/-- An ungranted report, R94's rows in order. -/
def ungrantedReport (ref : TreeCycle) (n : SpanName) (o : BurstOutcome) (s : State) : State :=
  match windowForUngranted s n o with
  | some w => windowReport w n.cycle ref .ungranted o s
  | none => if namesQuiet s n then quietReport ref o s else bump .strayReports s

/-- A burst report sorted by its grant kind (R81). -/
def takeReport (r : RawReport) (s : State) : State :=
  match parseReport r with
  | some (.discover ref o) => discoverReport ref o s
  | some (.directed k ref h o) => directedReport k ref h o s
  | some (.data ref h offset arrival) => dataReport ref h offset.toNat arrival s
  | some (.ungranted ref n o) => ungrantedReport ref n o s
  | none => bump .strayReports s

/-- A summary with both its fields; one that lacks a field is stray, as a report that lacks one (R81, R191, log entry 14). -/
def takeSummary (r : RawSummary) (s : State) : State :=
  match r.refCycle, r.light with
  | some ref, some light => windowSummary ref light s
  | none, _ => bump .strayReports s
  | some _, none => bump .strayReports s

/-! ### Meanings -/

/-- BURST_REPORT (R80, R81); outside RUNNING it is ignored uncounted. -/
def execBurstReport (r : RawReport) (s : State) : Host.Outcome State Fault Refusal :=
  .next (if running s then takeReport r s else s)

/-- END_OF_WINDOW_SUMMARY (R64, R65). -/
def execEndOfWindowSummary (r : RawSummary) (s : State) : Host.Outcome State Fault Refusal :=
  .next (if running s then takeSummary r s else s)

/-- ISSUED_GRANT_EXPIRY (R82). -/
def execIssuedGrantExpiry (k : DirectedKind) (h : Handle) (r : TreeCycle) (s : State) : Host.Outcome State Fault Refusal :=
  .next (if running s then serveExpiry k h r s else s)

end Sys2Proof.Machine
end

