-- ==== Sys2Proof/Machine/Registration.lean ====
section
/-! DEFINITION. The registration controller: hearings, the settle and retention deadlines, the end of a ranging sequence, re-ranging
and loss (R30 to R49), and the freeing that DEREGISTER and BAR ask for (R50, R52). -/

namespace Sys2Proof.Machine

/-! ### Dropping and releasing -/

/-- How a DROP names the terminal of a record: by identity in PENDING and in stage AWAIT-ASSIGN, by handle otherwise (R32, R50). R124's
second row has the DROP of a record re-ranged by a second misaligned burst name it by handle, which R50 gives once the ASSIGN has been
delivered; while the stage is AWAIT-ASSIGN the model follows R32 and R50 (log entry 25). -/
def dropAddress (h : Handle) : Record → Address
  | .pending x _ _ => .byIdentity x
  | .ranging x r => if r.stage = .awaitAssign then .byIdentity x else .byHandle h
  | .free => .byHandle h
  | .active _ _ => .byHandle h
  | .offering _ _ _ _ => .byHandle h
  | .leaving _ _ _ _ _ => .byHandle h
  | .arriving _ _ _ _ _ => .byHandle h
  | .lost _ _ _ _ => .byHandle h

/-- A DROP queued, its addressing decided by the record's state as it stands (R32). -/
def queueDrop (h : Handle) (reason : DropReason) (s : State) : State :=
  queueMessage (.drop (dropAddress h (recordAt s h)) reason) none s

/-- A DROP, then the record FREE, with a RELEASE to all peers after the DROP (R42, R49, R50, R52). -/
def dropAndRelease (h : Handle) (x : Identity) (reason : DropReason) (s : State) : State :=
  freeRecord h (queueNotice (.release x) (queueDrop h reason s))

/-! ### The end of a ranging sequence (R42 to R44) -/

/-- A record sent to LOST with its retention deadline (R43, R46, R163). -/
def makeLost (h : Handle) (x : Identity) (delay : Nat) (lastGood : LocalCount) (s : State) : State :=
  setRecord h (.lost x delay lastGood (ahead s s.host.config.retention)) s

/-- A ranging sequence fails: FRESH frees the record with DROP and RELEASE (R42), RERANGE sends it to LOST (R43). A RERANGE record
holds a launch delay (R15), so the 0 stands for no reachable case. -/
def failRanging (h : Handle) (reason : RangingFailure) (s : State) : State :=
  match recordAt s h with
  | .ranging x r =>
    raise (.rangingFailed h x reason) <|
      match r.origin with
      | .fresh => dropAndRelease h x .ranging s
      | .rerange => makeLost h x (r.launchDelay.getD 0) (r.lastGood.getD (now s)) (withdrawRequest h s)
  | .free | .pending _ _ _ | .active _ _ | .offering _ _ _ _ | .leaving _ _ _ _ _ | .arriving _ _ _ _ _ | .lost _ _ _ _ => s

/-- ASSIGN queued for a RANGING record in AWAIT-ASSIGN, then `event` raised; a refused ASSIGN fails the sequence NOT-QUEUED after
that (R37, R36, R44). -/
def queueAssign (h : Handle) (x : Identity) (event : State → State) (s : State) : State :=
  let t := event (queueMessage (.assign x h) none s)
  if backlogRoom s then t else failRanging h .notQueued t

/-! ### Re-ranging (R36) -/

/-- The cause of a re-ranging with what it carries (R36). -/
inductive RerangeCause where
  | heard (e : Hearing)
  | misaligned
  | host
  deriving DecidableEq, Repr

/-- The detail of the RERANGE event (R36). -/
def RerangeCause.detail : RerangeCause → RerangedBy
  | .heard e => .heard e.attemptCount
  | .misaligned => .misaligned
  | .host => .host

/-- The heard cycle and coarse loop delay a re-ranged record takes: from the hearing, absent for the other causes (R36). -/
def RerangeCause.heardAt : RerangeCause → Option HeardAt
  | .heard e => some ⟨e.heardCycle, e.coarse⟩
  | .misaligned => none
  | .host => none

/-- The fields of a record that enters re-ranging (R36). -/
def rerangingFields (cause : RerangeCause) (delay : Nat) (lastGood : LocalCount) : RangingFields where
  heard := cause.heardAt
  origin := .rerange
  stage := .awaitAssign
  samples := []
  attempts := 0
  launchDelay := some delay
  lastGood := some lastGood

/-- A record made RANGING with origin RERANGE: `first` queues what comes before ASSIGN, then ASSIGN and RERANGE follow (R36). -/
def rerangeWith (h : Handle) (x : Identity) (delay : Nat) (lastGood : LocalCount) (cause : RerangeCause)
    (first : State → State) (s : State) : State :=
  queueAssign h x (raise (.rerange h x cause.detail)) <|
    first <| setRecord h (.ranging x (rerangingFields cause delay lastGood)) <| withdrawRequest h s

/-- A record enters re-ranging from ACTIVE, OFFERING, LOST or ARRIVING; in any other state nothing happens (R36, R165). -/
def enterReranging (h : Handle) (cause : RerangeCause) (s : State) : State :=
  match recordAt s h with
  | .active x t => rerangeWith h x t.launchDelay t.lastGood cause id s
  | .offering x t peer _ => rerangeWith h x t.launchDelay t.lastGood cause (queueNotice (.withdraw x peer)) s
  | .lost x delay lastGood _ => rerangeWith h x delay lastGood cause id s
  | .arriving x delay _ _ _ => rerangeWith h x delay (now s) cause id s
  | .free | .pending _ _ _ | .ranging _ _ | .leaving _ _ _ _ _ => s

/-! ### Hearings (R33 to R35) -/

/-- A hearing of an identity that a record holds (R35). -/
def heardAgain (h : Handle) (e : Hearing) (s : State) : State :=
  match recordAt s h with
  | .active _ _ | .offering _ _ _ _ | .lost _ _ _ _ => enterReranging h (.heard e) s
  | .leaving _ _ _ _ _ | .arriving _ _ _ _ _ => bump .contestedIgnored s
  | .free | .pending _ _ _ | .ranging _ _ => s

/-- A hearing of an unknown identity: the lowest FREE handle becomes PENDING and CLAIM is queued, or TABLE-FULL (R20, R34). -/
def heardUnknown (e : Hearing) (s : State) : State :=
  match lowestFree s with
  | some h =>
    queueNotice (.claim e.identity e.heardCycle)
      (setRecord h (.pending e.identity ⟨e.heardCycle, e.coarse⟩ (ahead s s.host.config.settleTime)) s)
  | none => raise (.tableFull e.identity e.attemptCount) s

/-- The four tests of a hearing, in order (R33). -/
def takeHearing (e : Hearing) (s : State) : State :=
  if isBarred s e.identity then
    raise (.barredHeard e.identity e.attemptCount) (queueMessage (.drop (.byIdentity e.identity) .barred) none s)
  else if (contestedEntry s e.identity).isSome then bump .contestedIgnored s
  else
    match holder s e.identity with
    | some h => heardAgain h e s
    | none => heardUnknown e s

/-! ### Deadlines (R37, R49) -/

/-- The fields of a record whose claim has settled (R37). -/
def settledFields (heard : HeardAt) : RangingFields where
  heard := some heard
  origin := .fresh
  stage := .awaitAssign
  samples := []
  attempts := 0
  launchDelay := none
  lastGood := none

/-- The settle deadline of a PENDING record, where it is reached (R37). -/
def serveSettle (h : Handle) (s : State) : State :=
  match recordAt s h with
  | .pending x heard deadline =>
    if due s deadline then queueAssign h x id (setRecord h (.ranging x (settledFields heard)) s) else s
  | .free | .ranging _ _ | .active _ _ | .offering _ _ _ _ | .leaving _ _ _ _ _ | .arriving _ _ _ _ _ | .lost _ _ _ _ => s

/-- The retention deadline of a LOST record, where it is reached (R49). -/
def serveRetention (h : Handle) (s : State) : State :=
  match recordAt s h with
  | .lost x _ _ deadline =>
    if due s deadline then raise (.released h x .retention) (dropAndRelease h x .retention s) else s
  | .free | .pending _ _ _ | .ranging _ _ | .active _ _ | .offering _ _ _ _ | .leaving _ _ _ _ _ | .arriving _ _ _ _ _ => s

/-- The expiry deadline of a contested entry, where it is reached (R25). -/
def serveContestedExpiry (x : Identity) (s : State) : State :=
  match contestedEntry s x with
  | some c => if due s c.expiry then uncontest x s else s
  | none => s

/-! ### Loss (R46) -/

/-- A tracked record declared lost: WITHDRAW from OFFERING, then LOST (R46). -/
def declareLost (h : Handle) (s : State) : State :=
  match recordAt s h with
  | .active x t => raise (.lost h x) (makeLost h x t.launchDelay t.lastGood s)
  | .offering x t peer _ =>
    raise (.lost h x) (makeLost h x t.launchDelay t.lastGood (queueNotice (.withdraw x peer) s))
  | .free | .pending _ _ _ | .ranging _ _ | .leaving _ _ _ _ _ | .arriving _ _ _ _ _ | .lost _ _ _ _ => s

/-! ### Meanings -/

/-- HEARING (R33); no hearing reaches a record outside RUNNING (R30). -/
def execHearing (e : Hearing) (s : State) : Host.Outcome State Fault Refusal :=
  .next (if running s then takeHearing e (takeEvent (.hearing e) s) else s)

/-- SETTLE_DEADLINE (R37). -/
def execSettleDeadline (h : Handle) (s : State) : Host.Outcome State Fault Refusal :=
  .next (if running s then serveSettle h s else s)

/-- RETENTION_DEADLINE (R49). -/
def execRetentionDeadline (h : Handle) (s : State) : Host.Outcome State Fault Refusal :=
  .next (if running s then serveRetention h s else s)

/-- CONTESTED_EXPIRY (R25). -/
def execContestedExpiry (x : Identity) (s : State) : Host.Outcome State Fault Refusal :=
  .next (if running s then serveContestedExpiry x s else s)

end Sys2Proof.Machine
end

