-- ==== Sys2Proof/Machine/Scheduler.lean ====
section
/-! DEFINITION. The window scheduler: spans, the discovery window, the gate and the announcement, peer QUIETs and directed placement
(R55 to R79), with the rows DISCOVERY_DUE_DEADLINE, WINDOW_START_DEADLINE and WINDOW_CLOSE_DEADLINE. -/

namespace Sys2Proof.Machine

/-! ### Directed placement (R69 to R72) -/

/-- How far the expected arrival lies after the origin of the grant cycle (R71's table). -/
def expectedOffset (c : Configuration) (w : Wanted) (g : Nat) : Int :=
  match w with
  | .range e => (g : Int) + responseOffset + e
  | .verify => (g : Int) + c.treeLoopTime

/-- The span a grant in cycle `r` at offset `g` would reserve (R71's table). -/
def directedSpan (c : Configuration) (q : Request) (r : TreeCycle) (g : Nat) : Span :=
  let x := expectedOffset c q.wanted g
  match q.wanted with
  | .range _ => ⟨.range q.handle, Pos.ofOffset r (x - 128), Pos.ofOffset r (x + 448)⟩
  | .verify => ⟨.verify q.handle, Pos.ofOffset r (x - 64), Pos.ofOffset r (x + 384)⟩

/-- The directed grants the calendar holds for a cycle, in the order placed (R69). -/
def directedIn (r : TreeCycle) (calendar : List Grant) : List DirectedGrant :=
  calendar.filterMap fun
    | .directed g => if g.cycle = r then some g else none
    | .discover _ _ => none

/-- The DISCOVER grants the calendar holds for a cycle, as a slate lists them (R69). -/
def discoverIn (r : TreeCycle) (calendar : List Grant) : List SlateGrant :=
  calendar.filterMap fun
    | .discover c pattern => if c = r then some (.discover 0 pattern) else none
    | .directed _ => none

/-- The cycle a calendar entry is for. -/
def Grant.cycle : Grant → TreeCycle
  | .discover c _ => c
  | .directed g => g.cycle

/-- The kind of directed grant a request asks for. -/
def Wanted.kind : Wanted → DirectedKind
  | .range _ => .range
  | .verify => .verify

/-- The grant of a request in cycle `r` at offset `g`, if the three conditions of R71 hold there. -/
def grantAt (s : State) (q : Request) (r : TreeCycle) (g : Nat) : Option DirectedGrant :=
  let span := directedSpan s.host.config q r g
  if (directedIn r s.sched.calendar).length < 8 && directedSpans s < 32 && !s.sched.spans.any span.overlaps then
    some ⟨q.wanted.kind, q.handle, q.identity, r, g, span⟩
  else none

/-- The first grant that fits, over cycles now + 2 to now + 16 and in each over the offsets 0 to 312,320 in steps of 1,024
(R71). -/
def searchPlacement (s : State) (q : Request) : Option DirectedGrant :=
  (List.range 15).findSome? fun i =>
    (List.range 306).findSome? fun j =>
      grantAt s q (s.time.treeCycle + 2 + BitVec.ofNat 16 i) (offsetStep * j)

/-! ### RANGE placements taken (R100) -/

/-- A RANGE placement: an ASKED slot of that identity is OUT, and the attempt count of a record still ATTEMPTING rises by 1
(R100). A slot a later sequence has overwritten stays (R99). -/
def takePlacement (h : Handle) (x : Identity) (cycle : TreeCycle) (offset : Nat) (s : State) : State :=
  let t := if slotAt s h = .asked x then setSlot h (.out x cycle offset) s else s
  match recordAt s h with
  | .ranging y r =>
    if y = x ∧ r.stage = .attempting then setRecord h (.ranging y { r with attempts := r.attempts + 1 }) t else t
  | .free | .pending _ _ _ | .active _ _ | .offering _ _ _ _ | .leaving _ _ _ _ _ | .arriving _ _ _ _ _ | .lost _ _ _ _ => t

/-- The oldest placement handed for a handle. -/
def placementFor (h : Handle) : Handoff → Option (Identity × TreeCycle × Nat)
  | .placed g x r o => if g = h then some (x, r, o) else none
  | .notice _ _ | .hearing _ | .crossHeard _ | .rangeResult _ | .verification _ | .trackerInput _ | .outcome _ _ _
  | .tracked _ _ _ _ | .delivered _ => none

/-- A placement waiting. -/
def placementHanded : Handoff → Option RangePlacement
  | .placed h x cycle offset => some ⟨h, x, cycle, offset⟩
  | .notice _ _ | .hearing _ | .crossHeard _ | .rangeResult _ | .verification _ | .trackerInput _ | .outcome _ _ _
  | .tracked _ _ _ _ | .delivered _ => none

/-- One placement taken: it waits no longer, and the slot and the attempt count take it. -/
def takeOnePlacement (p : RangePlacement) (s : State) : State :=
  takePlacement p.handle p.identity p.cycle p.offset (takeEvent (.placed p.handle p.identity p.cycle p.offset) s)

/-- Every placement that waits taken, oldest first. -/
def takeAllPlacements (s : State) : State :=
  (s.handed.filterMap placementHanded).foldl (fun s p => takeOnePlacement p s) s

/-- The handover rules take a VERIFY placement: the retry deadline of a record still ARRIVING with that identity is set at
now + 4 (R160). -/
def takeVerifyPlacement (h : Handle) (x : Identity) (s : State) : State :=
  match recordAt s h with
  | .arriving y delay peer deadline _ =>
    if y = x then setRecord h (.arriving y delay peer deadline (some (ahead s 4))) s else s
  | .free | .pending _ _ _ | .ranging _ _ | .active _ _ | .offering _ _ _ _ | .leaving _ _ _ _ _ | .lost _ _ _ _ => s

/-- A placement handed to its requester: the ranging unit takes a RANGE placement by ATTEMPT_PLACED (R100), the handover rules
take a VERIFY placement at once (R160). Placements are taken in the order served (R72), so the RANGE placements that wait are taken before
a VERIFY one (log entry 4). -/
def handPlacement (g : DirectedGrant) (s : State) : State :=
  match g.kind with
  | .range => hand (.placed g.handle g.identity g.cycle g.offset) s
  | .verify => takeVerifyPlacement g.handle g.identity (takeAllPlacements s)

/-- A placement made: the grant joins the calendar, its span the span list, and the requester is told (R71). -/
def place (g : DirectedGrant) (s : State) : State :=
  handPlacement g
    (addSpan g.span { s with sched := { s.sched with calendar := s.sched.calendar ++ [.directed g] } })

/-- What a request meets: left out where the record has one waiting, tried at once where the queue is empty, else appended (R70). -/
def meetRequest (q : Request) (s : State) : State :=
  let queued := { s with sched := { s.sched with placements := s.sched.placements ++ [q] } }
  if s.sched.placements.any fun r => r.handle == q.handle then s
  else if s.sched.placements.isEmpty then
    match searchPlacement s q with
    | some g => place g s
    | none => queued
  else queued

/-- A request that joins the placement queue untried; left out where the record has one waiting (R70, R76). -/
def enqueue (q : Request) (s : State) : State :=
  if s.sched.placements.any fun r => r.handle == q.handle then s
  else { s with sched := { s.sched with placements := s.sched.placements ++ [q] } }

/-- One waiting request tried in its turn: placed, it leaves the queue; else it keeps its place (R72). -/
def retryRequest (s : State) (q : Request) : State :=
  match searchPlacement s q with
  | some g => place g (dropRequest q.handle s)
  | none => s

/-- The placement queue tried, oldest first (R72). -/
def retryPlacements (s : State) : State :=
  s.sched.placements.foldl retryRequest s

/-! ### The window (R58 to R66) -/

/-- Every span whose end lies in a cycle ec with now ≥ ec + 2 is removed (R56). -/
def removePassedSpans (s : State) : State :=
  { s with sched :=
    { s.sched with spans := s.sched.spans.filter fun x => cycleDiff s.time.treeCycle x.last.cycle < 2 } }

/-- R77's first step, where the scheduler's part of the strobe is still to come: it goes before each deadline of the second. -/
def firstRemoval (s : State) : State :=
  if s.time.owesScheduler then removePassedSpans s else s

/-- The start deadline of the window makes it OPEN (R64). -/
def serveWindowStart (s : State) : State :=
  match s.sched.window with
  | some w =>
    if w.stage = .announced ∧ due s w.startDeadline then
      let s := firstRemoval s
      { s with sched := { s.sched with window := some { w with stage := .opened } } }
    else s
  | none => s

/-- The close deadline of an OPEN window: the grant cycle is kept, the discovery-due deadline set by the activity flag, and
WINDOW-CLOSED raised (R58, R65). -/
def serveWindowClose (s : State) : State :=
  match s.sched.window with
  | some w =>
    if w.stage = .opened ∧ due s w.closeDeadline then
      let s := firstRemoval s
      let period := if w.activity then s.host.config.fastPeriod else s.host.config.discoveryPeriod
      raise (.windowClosed w.bursts)
        { s with sched :=
          { s.sched with window := none, lastClosed := some w.grantCycle, dueDeadline := some (ahead s period) } }
    else s
  | none => s

/-- The discovery-due deadline sets due and ceases to exist (R58). -/
def serveDiscoveryDue (s : State) : State :=
  match s.sched.dueDeadline with
  | some d =>
    if due s d then
      let s := firstRemoval s
      { s with sched := { s.sched with due := true, dueDeadline := none } }
    else s
  | none => s

/-- The gate (R61). -/
def gateHolds (s : State) : Bool :=
  running s && !isHeld .discovery s &&
    ((List.finRange 3).all fun l =>
      !laneConfigured s.host l || s.link.lanes[l].state == .up || s.link.lanes[l].state == .absent) &&
    s.link.outbound.length < 120

/-- No directed span has a position in the w cycles from now + o (R63). -/
def clearOfDirected (s : State) (o : Nat) : Bool :=
  let own := wholeCycles .ownDiscovery (s.time.treeCycle + BitVec.ofNat 16 o) (windowLength s.host.config)
  !s.sched.spans.any fun x => x.isDirected && x.overlaps own

/-- How many cycles ahead the window starts: the first start at or after now + lead clear of every directed span (R63). A start
more than 40 cycles past the lead would be later than now + 16 + k in any case, so the search may stop there. -/
def startAhead (s : State) : Option Nat :=
  (List.range' s.host.config.lead 40).find? (clearOfDirected s)

/-- The announcement of a window that starts `o` cycles ahead, in R63's order. -/
def announceAt (o : Nat) (s : State) : State :=
  let w := windowLength s.host.config
  let first := s.time.treeCycle + BitVec.ofNat 16 o
  let g := first - BitVec.ofNat 16 (grantLead s.host.config)
  let own := wholeCycles .ownDiscovery first w
  let s := addSpan own (queueNotice (.quiet first (BitVec.ofNat 4 w)) s)
  let window : Window :=
    { stage := .announced, grantCycle := g, first := first, last := own.last.cycle, bursts := 0, activity := false,
      startDeadline := ahead s o, closeDeadline := ahead s (o + w + 1) }
  bump .discoveryWindows
    { s with sched :=
      { s.sched with
        calendar := s.sched.calendar ++ [.discover g s.host.config.trainingPattern]
        window := some window
        due := false } }

/-- While discovery is due and no window is in progress, the gate is tested, and where it holds and the start found gives a grant
cycle no later than now + 16, the window is announced (R61, R63). -/
def tryAnnounce (s : State) : State :=
  if s.sched.due && s.sched.window.isNone && gateHolds s then
    match startAhead s with
    | some o => if o ≤ 16 + grantLead s.host.config then announceAt o s else s
    | none => s
  else s

/-- The scheduler's work at one CYCLE strobe in RUNNING, in R77's order. The window's deadlines and the discovery-due deadline are
served here, at R77's step 2 (log entry 6); their rows, commanded before the rest of this work, do its step 1 first. -/
def schedulerWork (s : State) : State :=
  retryPlacements <| tryAnnounce <| serveDiscoveryDue <| serveWindowClose <| serveWindowStart <| removePassedSpans
    { s with time := { s.time with owesScheduler := false } }

/-- The scheduler's part of the strobe last taken, where it is still to come. "Peer QUIETs, host commands and new requests reach the
scheduler between strobes" (R77), so each of them has it done first (log entry 5). -/
def owedScheduler (s : State) : State :=
  if running s && s.time.owesScheduler then schedulerWork s else s

/-- A request made (R70), between strobes (R77). -/
def request (q : Request) (s : State) : State :=
  meetRequest q (owedScheduler s)

/-! ### Peer QUIETs (R67, R68) -/

/-- The PEER-QUIET spans of a channel that are listed (R67). -/
def quietSpansOf (p : Channel) (s : State) : Nat :=
  s.sched.spans.countP fun x => x.kind == .peerQuiet p

/-- The cases of a QUIET, in order (R67, R68). -/
def reserveQuiet (p : Channel) (first : TreeCycle) (length : BitVec 4) (s : State) : State :=
  let lead := cycleDiff first s.time.treeCycle
  let w := length.toNat
  if w = 0 ∨ 2 ≤ quietSpansOf p s then bump .noticesDiscarded s
  else if 2 ≤ lead then addSpan (wholeCycles (.peerQuiet p) first w) s
  else
    let left := lead + w - 2
    let s := bump .lateReports s
    if 1 ≤ left then addSpan (wholeCycles (.peerQuiet p) (s.time.treeCycle + 2) left.toNat) s else s

/-- A QUIET taken in RUNNING (R67), between strobes (R77). -/
def takeQuiet (p : Channel) (first : TreeCycle) (length : BitVec 4) (s : State) : State :=
  reserveQuiet p first length (owedScheduler s)

/-! ### Meanings -/

/-- DISCOVERY_DUE_DEADLINE (R58). -/
def execDiscoveryDueDeadline (s : State) : Host.Outcome State Fault Refusal :=
  .next (if running s then serveDiscoveryDue s else s)

/-- WINDOW_START_DEADLINE (R64). -/
def execWindowStartDeadline (s : State) : Host.Outcome State Fault Refusal :=
  .next (if running s then serveWindowStart s else s)

/-- WINDOW_CLOSE_DEADLINE (R65). The OWN-DISCOVERY span leaves the list at the same strobe by R56. -/
def execWindowCloseDeadline (s : State) : Host.Outcome State Fault Refusal :=
  .next (if running s then serveWindowClose s else s)

end Sys2Proof.Machine
end

