-- ==== Sys2Proof/Machine/Ranging.lean ====
section
/-! DEFINITION. The ranging unit: attempt slots, samples, agreement and the outcomes the registration controller applies
(R97 to R110), with the rows RANGE_ATTEMPT_RESULT, RANGING_OUTCOME_APPLIED and ATTEMPT_PLACED. -/

namespace Sys2Proof.Machine

/-- The expected loop delay E of a RANGING record: its coarse loop delay where it holds one, else from its launch delay (R98). -/
def expectedLoop (c : Configuration) (r : RangingFields) : Int :=
  match r.heard with
  | some heard => heard.coarse
  | none => (c.treeLoopTime : Int) - responseOffset - (r.launchDelay.getD 0 : Nat)

/-- The RANGE request of a RANGING record handed to the scheduler by `make`, the slot ASKED (R98, R99). -/
def askRangeBy (make : Request → State → State) (h : Handle) (s : State) : State :=
  match recordAt s h with
  | .ranging x r => make ⟨.range (expectedLoop s.host.config r), h, x⟩ (setSlot h (.asked x) s)
  | .free | .pending _ _ _ | .active _ _ | .offering _ _ _ _ | .leaving _ _ _ _ _ | .arriving _ _ _ _ _ | .lost _ _ _ _ => s

/-- The ranging unit asks for a record's next RANGE placement: the slot is ASKED and the request made (R99, R108). -/
def askRange (h : Handle) (s : State) : State :=
  askRangeBy request h s

/-- The same, the request joining the placement queue untried (R76). -/
def queueRange (h : Handle) (s : State) : State :=
  askRangeBy enqueue h s

/-- The next placement asked for, or, with RANGING on the suspension stack, the slot IDLE and the record waiting (R99, R108). -/
def askOrWait (h : Handle) (s : State) : State :=
  if isHeld .ranging s then setSlot h .idle s else askRange h s

/-! ### Samples and agreement (R103 to R107) -/

/-- The sample of an arrival: q − 4 × (G + 40,000), signed quarters (R103). -/
def sampleOf (q g : Nat) : Int :=
  (q : Int) - 4 * ((g : Int) + responseOffset)

/-- Two samples agree: their difference is at most 4 × ranging tolerance quarters (R105). -/
def agrees (c : Configuration) (q1 q2 : Int) : Bool :=
  (q2 - q1).natAbs ≤ 4 * c.rangingTolerance

/-- The loop delay of two agreeing samples, rounded half up twice and not below 0 (R106 steps 1 to 3). -/
def loopDelayOf (q1 q2 : Int) : Int :=
  max 0 (((q1 + q2 + 1) / 2 + 2) / 4)

/-- The launch delay of two agreeing samples; below 0 for a terminal beyond reach (R106 step 4). -/
def launchDelayOf (c : Configuration) (q1 q2 : Int) : Int :=
  (c.treeLoopTime : Int) - responseOffset - loopDelayOf q1 q2

/-- The outcome without agreement, by the attempt count and the list (R107). -/
def outcomeWithoutAgreement (attempts : Nat) (samples : List Int) : RangingOutcome :=
  if attempts < 4 then .proceed samples attempts
  else if samples.isEmpty then .failure .noResponse
  else .failure .noAgreement

/-- The outcome of an awaited result, from the attempt count, the list as it stood and the new sample (R104, R105, R107). -/
def rangingOutcome (c : Configuration) (attempts : Nat) (old : List Int) (sample : Option Int) : RangingOutcome :=
  match sample, old.getLast? with
  | some q2, some q1 =>
    if agrees c q1 q2 then
      if 0 ≤ launchDelayOf c q1 q2 then .agreement (old ++ [q2]) (launchDelayOf c q1 q2).toNat
      else .failure .beyondReach
    else outcomeWithoutAgreement attempts (old ++ [q2])
  | some q2, none => outcomeWithoutAgreement attempts (old ++ [q2])
  | none, _ => outcomeWithoutAgreement attempts old

/-- The sample of a RANGE answer (R103). -/
def sampleOfAnswer (g : Nat) : RangeAnswer → Option Int
  | .arrival q => some (sampleOf q g)
  | .noSample _ => none

/-- The samples and the attempt count of a record as it stands; a record no longer RANGING has none, and the outcome computed
from that is dropped (R101). -/
def attemptFields : Record → List Int × Nat
  | .ranging _ r => (r.samples, r.attempts)
  | .free | .pending _ _ _ | .active _ _ | .offering _ _ _ _ | .leaving _ _ _ _ _ | .arriving _ _ _ _ _ | .lost _ _ _ _ => ([], 0)

/-- A RANGE result: awaited, it makes the slot ANSWERED and hands one outcome; not awaited, it is dropped (R102, R107). -/
def takeRangeResult (r : RangeResult) (s : State) : State :=
  if slotAt s r.handle = .out r.identity r.cycle r.offset then
    let fields := attemptFields (recordAt s r.handle)
    hand (.outcome r.handle r.identity (rangingOutcome s.host.config fields.2 fields.1 (sampleOfAnswer r.offset r.answer)))
      (setSlot r.handle (.answered r.identity) s)
  else s

/-! ### Outcomes applied (R40, R108) -/

/-- The slot leaves ANSWERED for IDLE; a slot that a later sequence has overwritten stays (R108). -/
def settleSlot (h : Handle) (x : Identity) (s : State) : State :=
  if slotAt s h = .answered x then setSlot h .idle s else s

/-- An outcome applied to a record in stage ATTEMPTING (R40, R107, R108). -/
def applyOutcome (h : Handle) (x : Identity) (r : RangingFields) (o : RangingOutcome) (s : State) : State :=
  match o with
  | .proceed samples attempts =>
    askOrWait h (setRecord h (.ranging x { r with samples := samples, attempts := attempts }) s)
  | .agreement samples delay =>
    let agreed := { r with samples := samples, stage := .awaitSetDelay, launchDelay := some delay }
    let t := queueMessage (.setDelay h delay) (some x) (setRecord h (.ranging x agreed) (settleSlot h x s))
    if backlogRoom s then t else failRanging h .notQueued t
  | .failure reason => failRanging h reason (settleSlot h x s)

/-- An outcome handed for a handle: applied where the slot still awaits its application and the record still holds the identity
in stage ATTEMPTING, else dropped (R17, R40, R108). -/
def takeOutcome (h : Handle) (x : Identity) (o : RangingOutcome) (s : State) : State :=
  match recordAt s h with
  | .ranging y r =>
    if y = x ∧ r.stage = .attempting ∧ slotAt s h = .answered x then applyOutcome h x r o s else settleSlot h x s
  | .free | .pending _ _ _ | .active _ _ | .offering _ _ _ _ | .leaving _ _ _ _ _ | .arriving _ _ _ _ _ | .lost _ _ _ _ =>
    settleSlot h x s

/-- The oldest outcome handed for a handle. -/
def outcomeFor (h : Handle) : Handoff → Option (Identity × RangingOutcome)
  | .outcome g x o => if g = h then some (x, o) else none
  | .notice _ _ | .hearing _ | .crossHeard _ | .rangeResult _ | .verification _ | .trackerInput _ | .placed _ _ _ _
  | .tracked _ _ _ _ | .delivered _ => none

/-! ### The attempts begun anew -/

/-- An outcome or a placement in flight for a handle: what an earlier sequence under it left. -/
def ofEarlierSequence (h : Handle) (x : Handoff) : Bool :=
  (outcomeFor h x).isSome || (placementFor h x).isSome

/-- A record that enters ATTEMPTING overwrites the handle's slot (R99). What an earlier sequence under the handle still has in
flight goes with the slot: its result is dropped (R109, log entry 10). -/
def beginAttempts (h : Handle) (s : State) : State :=
  askOrWait h { s with handed := s.handed.filter fun x => !ofEarlierSequence h x }

/-! ### Meanings -/

/-- RANGE_ATTEMPT_RESULT (R102 to R107). -/
def execRangeAttemptResult (r : RangeResult) (s : State) : Host.Outcome State Fault Refusal :=
  .next (if running s then takeRangeResult r (takeEvent (.rangeResult r) s) else s)

/-- RANGING_OUTCOME_APPLIED (R40, R108): the outcome handed for the handle; with none handed there is nothing to apply. -/
def execRangingOutcomeApplied (h : Handle) (s : State) : Host.Outcome State Fault Refusal :=
  .next (if running s then
    match takeHanded (outcomeFor h) s with
    | some ((x, o), t) => takeOutcome h x o t
    | none => s
  else s)

/-- ATTEMPT_PLACED (R100): the oldest placement handed for the handle. "Placement results reach the ranging unit and the handover rules in
the order the requests were served" (R72), so those of any handle handed before it are taken first. -/
def execAttemptPlaced (h : Handle) (s : State) : Host.Outcome State Fault Refusal :=
  .next (if running s then takeWantedInOrder placementHanded (fun p => p.handle == h) takeOnePlacement s else s)

end Sys2Proof.Machine
end

