-- ==== Sys2Proof/Machine/Tracker.lean ====
section
/-! DEFINITION. The delay tracker: the tracking error, the discard rule, runs, drift sum and corrections (R111 to R124), with the
rows TRACKER_INPUT and TRACKER_RESULT_APPLIED. -/

namespace Sys2Proof.Machine

/-- The tracking error of a burst: q − 4 × (tree loop time + G), signed quarters (R112). -/
def trackingError (c : Configuration) (q g : Nat) : Int :=
  (q : Int) - 4 * ((c.treeLoopTime : Int) + g)

/-- An error of more than 256 quarters is misaligned (R112). -/
def isMisaligned (e : Int) : Bool :=
  256 < e.natAbs

/-- A grant cycle, converted to a local count, lies before the effective cycle (R113), by R7's half-range comparison (log entry 33). -/
def beforeEffective (t : Timebase) (grant : TreeCycle) (effective : LocalCount) : Bool :=
  !reached (localOf t grant) effective

/-- Th, 32 times the drift threshold (R117, R118). -/
def driftLimit (c : Configuration) : Nat :=
  32 * c.driftThreshold

/-- A drift sum over 32, rounded half away from zero (R118 step 1). -/
def driftDelta (drift : Int) : Int :=
  if 0 ≤ drift then (drift + 16) / 32 else -((-drift + 16) / 32)

/-- A proposed launch delay clamped to 0 and the bound, and where the clamp acted (R118 step 3, R119). -/
def clampDelay (bound : Nat) (proposed : Int) : Correction :=
  if proposed < 0 then ⟨0, some .low⟩
  else if (bound : Int) < proposed then ⟨bound, some .high⟩
  else ⟨proposed.toNat, none⟩

/-- The correction of a new drift sum: none below Th in magnitude (R118). -/
def correctionFor (c : Configuration) (delay : Nat) (drift : Int) : Option Correction :=
  if drift.natAbs < driftLimit c then none
  else some (clampDelay (launchBound c) ((delay : Int) - driftDelta drift))

/-- An aligned error taken into the drift sum (R117, R118). -/
def alignedResult (c : Configuration) (count : LocalCount) (t : Tracking) (e : Int) : TrackerResult :=
  let drift := t.drift - t.drift / 8 + e
  .aligned drift count (correctionFor c t.launchDelay drift)

/-- The result of an input against a tracked record; `none` where R113 discards it, and for a misaligned entry sample, which is
not taken by the tracker (R116). -/
def trackerResult (c : Configuration) (time : Timebase) (t : Tracking) : TrackerInputKind → Option TrackerResult
  | .burst grant g q =>
    if t.correctionPending || beforeEffective time grant t.effective then none
    else if isMisaligned (trackingError c q g) then
      some (if t.misalignedRun = 0 then .misaligned else .rerange)
    else some (alignedResult c time.localCount t (trackingError c q g))
  | .missing grant =>
    if t.correctionPending || beforeEffective time grant t.effective then none
    else some (if t.missingRun + 1 < c.missingLimit then .missing (t.missingRun + 1) else .lost)
  | .entrySample e =>
    if t.correctionPending || isMisaligned e then none else some (alignedResult c time.localCount t e)

/-! ### Results applied (R115 to R120) -/

/-- The same record with other tracking fields; only ACTIVE and OFFERING hold any (R15). -/
def Record.withTracking (t : Tracking) : Record → Record
  | .active x _ => .active x t
  | .offering x _ peer deadline => .offering x t peer deadline
  | .free => .free
  | .pending x heard d => .pending x heard d
  | .ranging x r => .ranging x r
  | .leaving x delay peer g d => .leaving x delay peer g d
  | .arriving x delay peer d retry => .arriving x delay peer d retry
  | .lost x delay lastGood d => .lost x delay lastGood d

/-- The tracking fields of a handle's record written. -/
def setTracking (h : Handle) (t : Tracking) (s : State) : State :=
  setRecord h ((recordAt s h).withTracking t) s

/-- The fields R117 and R119 write whatever becomes of the correction. -/
def alignedFields (t : Tracking) (drift : Int) (lastGood : LocalCount) (c : Option Correction) : Tracking :=
  { t with
    drift := drift, lastGood := lastGood, missingRun := 0, misalignedRun := 0
    atLimit := match c with
      | some k => k.clamped.isSome
      | none => t.atLimit }

/-- The correction's own outcome, R120's three rows. -/
def applyCorrection (h : Handle) (x : Identity) (t : Tracking) (k : Correction) (s : State) : State :=
  if k.newDelay = t.launchDelay then setTracking h { t with drift := 0 } s
  else if backlogRoom s then
    queueMessage (.setDelay h k.newDelay) (some x) (setTracking h { t with correctionPending := true } s)
  else queueMessage (.setDelay h k.newDelay) (some x) (setTracking h { t with drift := 0 } s)

/-- DELAY-LIMIT, raised by a clamped correction of a record whose flag was no (R119). -/
def raiseLimit (h : Handle) (x : Identity) (was : Bool) (k : Correction) (s : State) : State :=
  match k.clamped with
  | some limit => if was then s else raise (.delayLimit h x limit) s
  | none => s

/-- A result applied to a record with identity `x` and tracking fields `t` (R115, R116, R117, R119, R120). -/
def applyTracked (h : Handle) (x : Identity) (t : Tracking) (r : TrackerResult) (s : State) : State :=
  match r with
  | .missing run => setTracking h { t with missingRun := run } s
  | .lost => declareLost h s
  | .misaligned => setTracking h { t with missingRun := 0, misalignedRun := 1 } s
  | .rerange => enterReranging h .misaligned s
  | .aligned drift lastGood none => setTracking h (alignedFields t drift lastGood none) s
  | .aligned drift lastGood (some k) =>
    raiseLimit h x t.atLimit k (applyCorrection h x (alignedFields t drift lastGood (some k)) k s)

/-- The oldest tracker result handed for a handle. -/
def trackedFor (h : Handle) : Handoff → Option (Identity × TrackedState × TrackerResult)
  | .tracked g x found r => if g = h then some (x, found, r) else none
  | .notice _ _ | .hearing _ | .crossHeard _ | .rangeResult _ | .verification _ | .trackerInput _ | .outcome _ _ _
  | .placed _ _ _ _ | .delivered _ => none

/-- A result applied where the record still holds the identity in the state it was computed against, else dropped (R17,
R111). -/
def takeTracked (h : Handle) (x : Identity) (found : TrackedState) (r : TrackerResult) (s : State) : State :=
  match recordAt s h, found with
  | .active y t, .active => if y = x then applyTracked h x t r s else s
  | .offering y t _ _, .offering => if y = x then applyTracked h x t r s else s
  | _, _ => s

/-- The result handed for a handle taken, where one is. -/
def takeTrackedFor (h : Handle) (s : State) : State :=
  match takeHanded (trackedFor h) s with
  | some ((x, found, r), t) => takeTracked h x found r t
  | none => s

/-! ### Inputs (R111, R113) -/

/-- The result of an input, handed to the registration controller with the state the record had (R111). -/
def handResult (i : TrackerInput) (found : TrackedState) (x : Identity) (t : Tracking) (s : State) : State :=
  if x = i.identity then
    match trackerResult s.host.config s.time t i.kind with
    | some r => hand (.tracked i.handle x found r) s
    | none => s
  else s

/-- An input taken against the record as it stands; in any state but ACTIVE and OFFERING it is discarded (R113). -/
def takeInput (i : TrackerInput) (s : State) : State :=
  match recordAt s i.handle with
  | .active x t => handResult i .active x t s
  | .offering x t _ _ => handResult i .offering x t s
  | .free | .pending _ _ _ | .ranging _ _ | .leaving _ _ _ _ _ | .arriving _ _ _ _ _ | .lost _ _ _ _ => s

/-- One input taken: it waits no longer, and it is computed against the fields "as the result of the previous input of that handle left
them" (R111), so a result still waiting for the handle is applied first (log entry 8). -/
def takeOneInput (i : TrackerInput) (s : State) : State :=
  takeInput i (takeTrackedFor i.handle (takeEvent (.trackerInput i) s))

/-- An input waiting for a handle. -/
def inputFor (h : Handle) : Handoff → Option TrackerInput
  | .trackerInput i => if i.handle = h then some i else none
  | .notice _ _ | .hearing _ | .crossHeard _ | .rangeResult _ | .verification _ | .outcome _ _ _ | .placed _ _ _ _
  | .tracked _ _ _ _ | .delivered _ => none

/-- The inputs of the handle that reached the tracker before `i` and wait still, oldest first. -/
def olderInputs (i : TrackerInput) (s : State) : List TrackerInput :=
  olderHanded (inputFor i.handle) i s

/-! ### Meanings -/

/-- TRACKER_INPUT (R111 to R118): "The tracker takes the inputs of one handle in the order they reach it", so the older ones that wait
are taken first (log entry 4). -/
def execTrackerInput (i : TrackerInput) (s : State) : Host.Outcome State Fault Refusal :=
  .next (if running s then takeInOrder (inputFor i.handle) takeOneInput i s else s)

/-- TRACKER_RESULT_APPLIED (R17, R115 to R120): the result handed for the handle; with none handed there is nothing to apply. -/
def execTrackerResultApplied (h : Handle) (s : State) : Host.Outcome State Fault Refusal :=
  .next (if running s then takeTrackedFor h s else s)

end Sys2Proof.Machine
end

