-- ==== Sys2Proof/Machine/Handover.lean ====
section
/-! DEFINITION. Handover between channels: the offer's answers at the source, leaving, arriving and verification (R157 to R169). -/

namespace Sys2Proof.Machine

/-! ### The target's answer (R159, R160) -/

/-- The reason codes of DECLINE (R190). -/
def declineCode : DeclinedBy → BitVec 4
  | .full => 0
  | .barred => 1
  | .present => 2
  | .notRunning => 3
  | .unknown => 4
  | .noAnswer => 5

/-- The reason a DECLINE's code names, UNKNOWN for 4 to 15 (R162, R190). -/
def declineReason (code : BitVec 4) : DeclinedBy :=
  match code.toNat with
  | 0 => .full
  | 1 => .barred
  | 2 => .present
  | 3 => .notRunning
  | _ => .unknown

/-- DECLINE queued to the source (R159). -/
def answerDecline (p : Channel) (x : Identity) (reason : DeclinedBy) (s : State) : State :=
  queueNotice (.decline x p (declineCode reason)) s

/-- The VERIFY placement of an ARRIVING record asked for (R160). -/
def askVerify (h : Handle) (x : Identity) (s : State) : State :=
  request ⟨.verify, h, x⟩ s

/-- A HANDOFF accepted under handle `h`: the ARRIVING record, ACCEPT, and the first VERIFY request (R160, R19). -/
def acceptHandoff (h : Handle) (p : Channel) (x : Identity) (delay : Nat) (s : State) : State :=
  let kept := min delay (launchBound s.host.config)
  askVerify h x <| queueNotice (.accept x p h) <|
    setRecord h (.arriving x kept p (ahead s s.host.config.handoverTime) none) s

/-- A HANDOFF decided, its contested entry removed already (R159). -/
def answerHandoff (p : Channel) (x : Identity) (delay : Nat) (s : State) : State :=
  if !runningFlag s.link then answerDecline p x .notRunning s
  else if isBarred s x then answerDecline p x .barred s
  else if (holder s x).isSome then answerDecline p x .present s
  else
    match lowestFree s with
    | none => answerDecline p x .full s
    | some h => acceptHandoff h p x delay s

/-- A HANDOFF for `x` from `p`: its contested entry is removed before it is decided (R25, R159). -/
def takeHandoff (p : Channel) (x : Identity) (delay : BitVec 21) (s : State) : State :=
  answerHandoff p x delay.toNat (uncontest x s)

/-! ### The source receives the answer (R161, R162) -/

/-- An ACCEPT: RETUNE and LEAVING from an offer to that channel, else WITHDRAW to it (R161, R163). -/
def takeAccept (p : Channel) (x : Identity) (newHandle : Handle) (s : State) : State :=
  match holder s x with
  | none => queueNotice (.withdraw x p) s
  | some h =>
    match recordAt s h with
    | .offering _ t peer _ =>
      if peer = p then
        queueMessage (.retune h p newHandle) (some x)
          (setRecord h (.leaving x t.launchDelay p newHandle (ahead s s.host.config.handoverTime)) s)
      else queueNotice (.withdraw x p) s
    | .free | .pending _ _ _ | .ranging _ _ | .active _ _ | .leaving _ _ _ _ _ | .arriving _ _ _ _ _ | .lost _ _ _ _ =>
      queueNotice (.withdraw x p) s

/-- An OFFERING record returned to ACTIVE with its tracking fields, and HANDOVER-DECLINED (R162). -/
def endOffer (h : Handle) (x : Identity) (t : Tracking) (peer : Channel) (reason : DeclinedBy) (s : State) : State :=
  raise (.handoverDeclined h x peer reason) (setRecord h (.active x t) s)

/-- A DECLINE from the peer channel of an OFFERING record; else it is ignored (R162). -/
def takeDecline (p : Channel) (x : Identity) (reason : BitVec 4) (s : State) : State :=
  match holder s x with
  | none => s
  | some h =>
    match recordAt s h with
    | .offering _ t peer _ => if peer = p then endOffer h x t peer (declineReason reason) s else s
    | .free | .pending _ _ _ | .ranging _ _ | .active _ _ | .leaving _ _ _ _ _ | .arriving _ _ _ _ _ | .lost _ _ _ _ => s

/-- The offer deadline of an OFFERING record, where it is reached (R162). -/
def serveOffer (h : Handle) (s : State) : State :=
  match recordAt s h with
  | .offering x t peer deadline => if due s deadline then endOffer h x t peer .noAnswer s else s
  | .free | .pending _ _ _ | .ranging _ _ | .active _ _ | .leaving _ _ _ _ _ | .arriving _ _ _ _ _ | .lost _ _ _ _ => s

/-! ### Leaving (R163) -/

/-- A record freed by TAKEN: no DROP and no RELEASE (R163). -/
def handoverDone (h : Handle) (x : Identity) (target : Channel) (newHandle : Handle) (s : State) : State :=
  raise (.handoverDone h x target newHandle) (freeRecord h s)

/-- TAKEN for an identity: it frees a LEAVING record, or a LOST one with the sender as target. A LOST record holds no peer
handle for the event to carry, so the new handle is a free value there (R163, log entry 2). -/
def takeTaken (p : Channel) (x : Identity) (s : State) : State :=
  match holder s x with
  | none => s
  | some h =>
    match recordAt s h with
    | .leaving _ _ peer peerHandle _ => handoverDone h x peer peerHandle s
    | .lost _ _ _ _ =>
      handoverDone h x p (Config.takenFromLostHandle s.freeCount) { s with freeCount := s.freeCount + 1 }
    | .free | .pending _ _ _ | .ranging _ _ | .active _ _ | .offering _ _ _ _ | .arriving _ _ _ _ _ => s

/-- A LEAVING record made LOST, taking now as its last good cycle, with HANDOVER-LAPSED at the source end (R163). -/
def lapseSource (h : Handle) (x : Identity) (delay : Nat) (peer : Channel) (cause : LapsedBy) (s : State) : State :=
  raise (.handoverLapsed h x .source peer cause) (makeLost h x delay (now s) s)

/-- LAPSED from the peer channel of a LEAVING record; else it is ignored (R163). -/
def takeLapsed (p : Channel) (x : Identity) (s : State) : State :=
  match holder s x with
  | none => s
  | some h =>
    match recordAt s h with
    | .leaving _ delay peer _ _ => if peer = p then lapseSource h x delay peer .notice s else s
    | .free | .pending _ _ _ | .ranging _ _ | .active _ _ | .offering _ _ _ _ | .arriving _ _ _ _ _ | .lost _ _ _ _ => s

/-- The handover deadline of a LEAVING record, where it is reached (R163). -/
def serveHandoverSource (h : Handle) (s : State) : State :=
  match recordAt s h with
  | .leaving x delay peer _ deadline => if due s deadline then lapseSource h x delay peer .deadline s else s
  | .free | .pending _ _ _ | .ranging _ _ | .active _ _ | .offering _ _ _ _ | .arriving _ _ _ _ _ | .lost _ _ _ _ => s

/-! ### Arriving (R160, R164 to R166) -/

/-- The handover deadline of an ARRIVING record, where it is reached (R166). -/
def serveHandoverTarget (h : Handle) (s : State) : State :=
  match recordAt s h with
  | .arriving x _ peer deadline _ =>
    if due s deadline then
      raise (.handoverLapsed h x .target peer .deadline) (queueNotice (.lapsed x peer) (freeRecord h s))
    else s
  | .free | .pending _ _ _ | .ranging _ _ | .active _ _ | .offering _ _ _ _ | .leaving _ _ _ _ _ | .lost _ _ _ _ => s

/-- WITHDRAW from the peer channel of an ARRIVING record; else it is ignored (R166). -/
def takeWithdraw (p : Channel) (x : Identity) (s : State) : State :=
  match holder s x with
  | none => s
  | some h =>
    match recordAt s h with
    | .arriving _ _ peer _ _ =>
      if peer = p then raise (.handoverLapsed h x .target peer .withdrawn) (freeRecord h s) else s
    | .free | .pending _ _ _ | .ranging _ _ | .active _ _ | .offering _ _ _ _ | .leaving _ _ _ _ _ | .lost _ _ _ _ => s

/-- The retry deadline of an ARRIVING record, where it is reached: it ceases to exist and a new VERIFY placement is asked for
(R160). -/
def serveVerifyRetry (h : Handle) (s : State) : State :=
  match recordAt s h with
  | .arriving x delay peer deadline (some retry) =>
    if due s retry then askVerify h x (setRecord h (.arriving x delay peer deadline none) s) else s
  | .arriving _ _ _ _ none => s
  | .free | .pending _ _ _ | .ranging _ _ | .active _ _ | .offering _ _ _ _ | .leaving _ _ _ _ _ | .lost _ _ _ _ => s

/-- The tracking fields of a record that becomes ACTIVE (R41, R164). -/
def freshTracking (delay : Nat) (effective lastGood : LocalCount) : Tracking where
  launchDelay := delay
  effective := effective
  drift := 0
  correctionPending := false
  atLimit := false
  missingRun := 0
  misalignedRun := 0
  lastGood := lastGood

/-- An aligned first verification burst with error `e`: ACTIVE, TAKEN, REGISTERED, and the entry sample handed (R164). -/
def verified (h : Handle) (x : Identity) (delay : Nat) (source : Channel) (e : Int) (s : State) : State :=
  let entry : TrackerInput := { handle := h, identity := x, found := .active, kind := .entrySample e }
  hand (.trackerInput entry) <| raise (.registered h x (.handover source)) <| queueNotice (.taken x source) <|
    setRecord h (.active x (freshTracking delay (ahead s 1) (now s))) (withdrawRequest h s)

/-- A VERIFY burst handed for an ARRIVING record; a record that has moved on drops it (R164, R165, R17). -/
def takeVerification (v : VerificationBurst) (s : State) : State :=
  match recordAt s v.handle with
  | .arriving x delay source _ _ =>
    if x = v.identity then
      let e := trackingError s.host.config v.arrival v.offset
      if isMisaligned e then enterReranging v.handle .misaligned (queueNotice (.taken x source) s)
      else verified v.handle x delay source e s
    else s
  | .free | .pending _ _ _ | .ranging _ _ | .active _ _ | .offering _ _ _ _ | .leaving _ _ _ _ _ | .lost _ _ _ _ => s

/-- One VERIFY burst taken: it waits no longer. -/
def takeOneVerification (v : VerificationBurst) (s : State) : State :=
  takeVerification v (takeEvent (.verification v) s)

/-- A VERIFY burst waiting for a handle. -/
def verificationFor (h : Handle) : Handoff → Option VerificationBurst
  | .verification v => if v.handle = h then some v else none
  | .notice _ _ | .hearing _ | .crossHeard _ | .rangeResult _ | .trackerInput _ | .outcome _ _ _ | .placed _ _ _ _
  | .tracked _ _ _ _ | .delivered _ => none

/-- The VERIFY bursts of the handle that were handed before `v` and wait still, oldest first. -/
def olderVerifications (v : VerificationBurst) (s : State) : List VerificationBurst :=
  olderHanded (verificationFor v.handle) v s

/-! ### Meanings -/

/-- OFFER_DEADLINE (R162). -/
def execOfferDeadline (h : Handle) (s : State) : Host.Outcome State Fault Refusal :=
  .next (if running s then serveOffer h s else s)

/-- HANDOVER_DEADLINE_SOURCE (R163). -/
def execHandoverDeadlineSource (h : Handle) (s : State) : Host.Outcome State Fault Refusal :=
  .next (if running s then serveHandoverSource h s else s)

/-- HANDOVER_DEADLINE_TARGET (R166). -/
def execHandoverDeadlineTarget (h : Handle) (s : State) : Host.Outcome State Fault Refusal :=
  .next (if running s then serveHandoverTarget h s else s)

/-- VERIFY_RETRY_DEADLINE (R160). -/
def execVerifyRetryDeadline (h : Handle) (s : State) : Host.Outcome State Fault Refusal :=
  .next (if running s then serveVerifyRetry h s else s)

/-- VERIFICATION_BURST (R164, R165). The first burst decides the arrival, so the handle's older ones that wait are taken first (log
entry 4). -/
def execVerificationBurst (v : VerificationBurst) (s : State) : Host.Outcome State Fault Refusal :=
  .next (if running s then takeInOrder (verificationFor v.handle) takeOneVerification v s else s)

end Sys2Proof.Machine
end

