-- ==== Sys2Proof/Machine/LaneWords.lean ====
section
/-! DEFINITION. Lane words and notices in their layouts (R125, R190). -/

namespace Sys2Proof.Machine

/-- The types of a lane word (R190). -/
inductive WordType where
  | fill
  | head
  | body
  deriving DecidableEq, Repr

/-- The type a word's bits 31 and 30 name; 11 names none (R190). -/
def wordType (w : LaneWord) : Option WordType :=
  match (w.extractLsb' 30 2).toNat with
  | 0 => some .fill
  | 1 => some .head
  | 2 => some .body
  | _ => none

/-- The 28-bit payload (R190). -/
def wordPayload (w : LaneWord) : BitVec 28 :=
  w.extractLsb' 2 28

/-- The alternation bit (R190). -/
def wordAlternation (w : LaneWord) : Bool :=
  w.getLsbD 1

/-- The 32 bits hold an even number of 1s (R125). -/
def evenParity (w : LaneWord) : Bool :=
  (List.range 32).foldl (fun even i => if w.getLsbD i then !even else even) true

/-- The word with this type and payload and this alternation bit, its parity bit making the number of 1s even (R125, R190). -/
def makeWord (typed : BitVec 30) (alternation : Bool) : LaneWord :=
  let w : BitVec 32 := typed ++ BitVec.ofBool alternation ++ 0#1
  if evenParity w then w else w ^^^ 1#32

/-- The fields of a FILL's payload (R127, R190). -/
structure FillFields where
  sender : Channel
  info : FillInfo
  cycle : TreeCycle
  deriving DecidableEq, Repr

/-- Reads a FILL's payload (R190). -/
def fillFields (p : BitVec 28) : FillFields where
  sender := Fin.ofNat 4 (p.extractLsb' 26 2).toNat
  info := { mask := p.extractLsb' 22 4, digest := p.extractLsb' 18 4, running := p.getLsbD 1 }
  cycle := p.extractLsb' 2 16

/-- A FILL's type and payload; the spare bit is 0 (R127, R190). -/
def fillTyped (f : FillFields) : BitVec 30 :=
  0b00#2 ++ BitVec.ofNat 2 f.sender.val ++ f.info.mask ++ f.info.digest ++ f.cycle ++ BitVec.ofBool f.info.running ++ 0#1

/-- The identity from a first field and a first BODY (R190). -/
def noticeIdentity (firstField : BitVec 22) (body : BitVec 28) : Identity :=
  firstField ++ body.extractLsb' 2 26

/-- The detail of a first BODY (R190). -/
def noticeDetail (body : BitVec 28) : Channel :=
  Fin.ofNat 4 (body.extractLsb' 0 2).toNat

/-- The notice an assembly of all its words spells. `none` where the kind code names no kind or the number of words is not the
kind's (R140, R190). -/
def Assembly.notice? (a : Assembly) : Option Notice :=
  match a.kind.toNat, a.bodies with
  | 1, [b, c] => some (.claim (noticeIdentity a.firstField b) (c.extractLsb' 12 16))
  | 2, [b] => some (.object (noticeIdentity a.firstField b) (noticeDetail b))
  | 3, [b] => some (.release (noticeIdentity a.firstField b))
  | 4, [] => some (.quiet (a.firstField.extractLsb' 6 16) (a.firstField.extractLsb' 2 4))
  | 5, [b] => some (.cross (noticeIdentity a.firstField b) (noticeDetail b))
  | 6, [b, c] => some (.handoff (noticeIdentity a.firstField b) (noticeDetail b) (c.extractLsb' 0 21))
  | 7, [b, c] => some (.accept (noticeIdentity a.firstField b) (noticeDetail b) (Fin.ofNat 128 (c.extractLsb' 0 7).toNat))
  | 8, [b, c] => some (.decline (noticeIdentity a.firstField b) (noticeDetail b) (c.extractLsb' 0 4))
  | 9, [b] => some (.taken (noticeIdentity a.firstField b) (noticeDetail b))
  | 10, [b] => some (.lapsed (noticeIdentity a.firstField b) (noticeDetail b))
  | 11, [b] => some (.withdraw (noticeIdentity a.firstField b) (noticeDetail b))
  | _, _ => none

/-- A HEAD's type and payload (R190). -/
def headTyped (kind : BitVec 4) (bodyCount : BitVec 2) (firstField : BitVec 22) : BitVec 30 :=
  0b01#2 ++ kind ++ bodyCount ++ firstField

/-- A BODY's type and payload (R190). -/
def bodyTyped (payload : BitVec 28) : BitVec 30 :=
  0b10#2 ++ payload

/-- HEAD and first BODY of a notice that names an identity, with its second BODY where it has one (R190). -/
def identityWords (kind : BitVec 4) (x : Identity) (detail : Channel) (second : List (BitVec 28)) : List (BitVec 30) :=
  headTyped kind (BitVec.ofNat 2 (1 + second.length)) (x.extractLsb' 26 22) ::
    bodyTyped (x.extractLsb' 0 26 ++ BitVec.ofNat 2 detail.val) :: second.map bodyTyped

/-- The words of a notice, type and payload, in the order sent. Bits left unused are 0 (R190). -/
def Notice.words : Notice → List (BitVec 30)
  | .claim x heard => identityWords 1 x 0 [heard ++ 0#12]
  | .object x claimant => identityWords 2 x claimant []
  | .release x => identityWords 3 x 0 []
  | .quiet first length => [headTyped 4 0 (first ++ length ++ 0#2)]
  | .cross x down => identityWords 5 x down []
  | .handoff x target delay => identityWords 6 x target [0#7 ++ delay]
  | .accept x source newHandle => identityWords 7 x source [0#21 ++ BitVec.ofNat 7 newHandle.val]
  | .decline x source reason => identityWords 8 x source [0#24 ++ reason]
  | .taken x source => identityWords 9 x source []
  | .lapsed x source => identityWords 10 x source []
  | .withdraw x target => identityWords 11 x target []

/-- The channel an addressed notice names; CLAIM, RELEASE and QUIET are broadcast (R141). -/
def Notice.addressee : Notice → Option Channel
  | .claim _ _ => none
  | .object _ claimant => some claimant
  | .release _ => none
  | .quiet _ _ => none
  | .cross _ down => some down
  | .handoff _ target _ => some target
  | .accept _ source _ => some source
  | .decline _ source _ => some source
  | .taken _ source => some source
  | .lapsed _ source => some source
  | .withdraw _ target => some target

/-- A notice is meant for the part on channel `own`: broadcast, or addressed to it (R141). -/
def Notice.meantFor (own : Channel) (n : Notice) : Bool :=
  match n.addressee with
  | none => true
  | some c => c == own

end Sys2Proof.Machine
end

