-- ==== Sys2Proof/Machine/Lanes.lean ====
section
/-! DEFINITION. The peer link unit: the transmitter, the lane receivers, notice assembly and delivery (R125 to R142). -/

namespace Sys2Proof.Machine

/-! ### The transmitter (R127, R130, R131) -/

/-- The fields of a FILL that begins now (R127). -/
def ownFill (s : State) : FillFields where
  sender := s.host.ownChannel
  info :=
    { mask := hearingMask s.host.ownChannel s.link.lanes
      digest := digest s.host.config
      running := runningFlag s.link }
  cycle := s.time.treeCycle

/-- The link after it has sent a word: the word stands on the lane and the alternation bit turns (R130). -/
def sendWord (typed : BitVec 30) (l : PeerLink) : PeerLink :=
  { l with laneOut := some (makeWord typed l.nextAlt), nextAlt := !l.nextAlt }

/-- One more word time since the last strobe, counted as far as the running flag needs (R131). -/
def countWordTime (l : PeerLink) : PeerLink :=
  { l with strobeWords := min 320 (l.strobeWords + 1) }

/-- A FILL sent (R130 rule 2). -/
def sendFill (s : State) : State :=
  { s with link := { sendWord (fillTyped (ownFill s)) s.link with sinceFill := 0 } }

/-- A word of a notice sent, `rest` of it to follow (R130 rules 1 and 3). -/
def sendNoticeWord (typed : BitVec 30) (rest : List (BitVec 30)) (s : State) : State :=
  { s with link := { sendWord typed s.link with sending := rest, sinceFill := s.link.sinceFill + 1 } }

/-- The word of one word time, by R130's three rules in order. -/
def sendNext (s : State) : State :=
  match s.link.sending with
  | w :: rest => sendNoticeWord w rest s
  | [] =>
    if 16 ≤ s.link.sinceFill then sendFill s
    else
      match s.link.outbound with
      | [] => sendFill s
      | n :: queue =>
        match n.words with
        | [] => sendFill s
        | head :: bodies => sendNoticeWord head bodies { s with link := { s.link with outbound := queue } }

/-- One word time of the transmitter (R130, R131). -/
def transmitWord (s : State) : State :=
  sendNext { s with link := countWordTime s.link }

/-! ### The word test (R126) -/

/-- A word passes the alternation test; with none expected it passes (R126). -/
def alternationFits (expected : Option Bool) (w : LaneWord) : Bool :=
  match expected with
  | none => true
  | some b => wordAlternation w == b

/-- The expected alternation after a word (R126). -/
def nextExpected (expected : Option Bool) (w : LaneWord) : Option Bool :=
  if evenParity w then some (!wordAlternation w) else expected.map (!·)

/-- The type, sender and cycle tests (R126). -/
def contentFits (s : State) (l : LaneNo) (w : LaneWord) : Bool :=
  match wordType w with
  | none => false
  | some .head => true
  | some .body => true
  | some .fill =>
    let f := fillFields (wordPayload w)
    f.sender == laneChannel s.host.ownChannel l && (f.cycle == s.time.treeCycle || f.cycle == s.time.treeCycle - 1)

/-- A word is good when no test of R126 finds it bad. -/
def goodWord (s : State) (l : LaneNo) (w : LaneWord) : Bool :=
  evenParity w && alternationFits s.link.lanes[l].expected w && contentFits s l w

/-! ### Lane state changes (R134, R137, R139, R140) -/

/-- The receiver of a lane. -/
def laneAt (s : State) (l : LaneNo) : Lane :=
  s.link.lanes[l]

/-- A receiver written. -/
def setLane (l : LaneNo) (v : Lane) (s : State) : State :=
  { s with link := { s.link with lanes := s.link.lanes.set l v } }

/-- A notice in assembly discarded and counted; nothing where none is (R140). -/
def discardAssembly (l : LaneNo) (s : State) : State :=
  match (laneAt s l).assembly with
  | some _ => bump .noticesDiscarded (setLane l { laneAt s l with assembly := none } s)
  | none => s

/-- A change of lane state, `next` giving the receiver's fields in the state entered: LANE-CHANGE is raised, and a notice in assembly
is discarded, since no state but UP keeps one (R139, R140). -/
def changeLane (l : LaneNo) (entered : LaneState) (next : Lane → Lane) (s : State) : State :=
  let s := discardAssembly l s
  raise (.laneChange (laneChannel s.host.ownChannel l) (laneAt s l).state entered)
    (setLane l (next { laneAt s l with state := entered }) s)

/-- The fields on entry to SEEKING: runs at 0, no absence deadline (R134, R137). The other fields stand (log entry 32). -/
def seekingFields (v : Lane) : Lane :=
  { v with absence := none, badRun := false, fillRun := 0, goodCount := 0 }

/-- The fields on entry to HEARD (R135, R136). -/
def heardFields (v : Lane) : Lane :=
  { v with fillRun := 0, mismatchCount := 0, mismatchRaised := false }

/-- The fields on entry to UP (R135). -/
def upFields (v : Lane) : Lane :=
  { v with fillRun := 0 }

/-- The fields on entry to HOLD. R137 sets the good-word count; that the bad-word run and the FILL run, which nothing reads in HOLD, go
to 0 is the model's choice (log entry 32). -/
def holdFields (v : Lane) : Lane :=
  { v with goodCount := 0, badRun := false, fillRun := 0 }

/-- The fields on entry to SILENT in RUNNING: the absence deadline set, the expected alternation absent (R134). That the runs, the
good-word count and the silence timer go to 0, which nothing reads in SILENT, is the model's choice (log entry 32). -/
def silentFields (absence : LocalCount) (v : Lane) : Lane :=
  { v with absence := some absence, expected := none, badRun := false, fillRun := 0, goodCount := 0, silence := 0 }

/-- A lane goes silent (R138, R134). -/
def goSilent (l : LaneNo) (s : State) : State :=
  changeLane l .silent (silentFields (ahead s s.host.config.absenceTime)) s

/-! ### The lane state machine (R134 to R138) -/

/-- The two FILL tests of HEARD: the digest test, whose second differing FILL raises CONFIG-MISMATCH once per entry, then the UP test
(R135). -/
def heardMismatch (l : LaneNo) (f : FillInfo) (s : State) : State :=
  let own := digest s.host.config
  let v := laneAt s l
  if f.digest = own then setLane l { v with mismatchCount := 0 } s
  else
    let count := min 2 (v.mismatchCount + 1)
    let t := setLane l { v with mismatchCount := count, mismatchRaised := v.mismatchRaised || count == 2 } s
    if count = 2 ∧ v.mismatchRaised = false then
      attend .lane (raise (.configMismatch (laneChannel s.host.ownChannel l) own f.digest) t)
    else t

/-- A good FILL in HEARD given the UP test (R135). -/
def heardUpTest (l : LaneNo) (f : FillInfo) (s : State) : State :=
  let v := laneAt s l
  if upTest s.host.ownChannel (digest s.host.config) f then
    if v.fillRun = 0 then setLane l { v with fillRun := 1 } s else changeLane l .up upFields s
  else setLane l { v with fillRun := 0 } s

/-- A good FILL in UP (R136). -/
def upFill (l : LaneNo) (f : FillInfo) (s : State) : State :=
  let v := laneAt s l
  if upTest s.host.ownChannel (digest s.host.config) f then setLane l { v with fillRun := 0 } s
  else if v.fillRun = 0 then setLane l { v with fillRun := 1 } s
  else changeLane l .heard heardFields s

/-- A good FILL in SEEKING (R135). -/
def seekingFill (l : LaneNo) (s : State) : State :=
  let v := laneAt s l
  if v.fillRun = 0 then setLane l { v with fillRun := 1 } s else changeLane l .heard heardFields s

/-- A good word of any type in HOLD (R137). -/
def holdGood (l : LaneNo) (s : State) : State :=
  let v := laneAt s l
  if v.goodCount + 1 < 128 then setLane l { v with goodCount := v.goodCount + 1 } s
  else changeLane l .seeking seekingFields s

/-- A good word taken by the lane state machine; `fill` holds the fields of a FILL (R134 to R137). -/
def goodStep (l : LaneNo) (fill : Option FillInfo) (s : State) : State :=
  match (laneAt s l).state, fill with
  | .silent, _ => changeLane l .seeking seekingFields s
  | .absent, _ => changeLane l .seeking seekingFields s
  | .hold, _ => holdGood l s
  | .seeking, some _ => seekingFill l s
  | .heard, some f => heardUpTest l f (heardMismatch l f s)
  | .up, some f => upFill l f s
  | .seeking, none => s
  | .heard, none => s
  | .up, none => s

/-- A bad word in SEEKING, HEARD or UP: the first sets the runs back, the second in a row moves the lane to HOLD and sets LANE
(R135 to R137). That it sets the mismatch count back in SEEKING and UP too, as R135 has it in HEARD, is the model's choice (log entry 32). -/
def badRunStep (l : LaneNo) (s : State) : State :=
  let v := laneAt s l
  if v.badRun then attend .lane (changeLane l .hold holdFields s)
  else setLane l { v with badRun := true, fillRun := 0, mismatchCount := 0 } s

/-- A bad word taken by the lane state machine (R134, R137). In SILENT, ABSENT and HOLD the bad-word run stays 0, the model's choice
(log entry 32). -/
def badStep (l : LaneNo) (s : State) : State :=
  match (laneAt s l).state with
  | .silent => s
  | .absent => s
  | .hold => setLane l { laneAt s l with goodCount := 0 } s
  | .seeking => badRunStep l s
  | .heard => badRunStep l s
  | .up => badRunStep l s

/-- A bad word is one word time more without a good one: the 64th sends the lane to SILENT (R138). -/
def countSilence (l : LaneNo) (s : State) : State :=
  let v := laneAt s l
  match v.state with
  | .silent => s
  | .absent => s
  | .seeking | .heard | .up | .hold =>
    if v.silence + 1 < 64 then setLane l { v with silence := v.silence + 1 } s else goSilent l s

/-! ### Notice assembly and delivery (R140, R141) -/

/-- A notice that passed assembly: broadcast or addressed to own channel, it is handed to its owner; else it is ignored (R141). -/
def deliverNotice (l : LaneNo) (n : Notice) (s : State) : State :=
  if n.meantFor s.host.ownChannel then hand (.notice (laneChannel s.host.ownChannel l) n) s else s

/-- A notice with all its words: checked, and delivered or discarded and counted (R140). -/
def completeNotice (l : LaneNo) (a : Assembly) (s : State) : State :=
  match a.notice? with
  | some n => deliverNotice l n s
  | none => bump .noticesDiscarded s

/-- A notice with the words it has so far: complete when it holds its body count, else kept in assembly (R140). -/
def placeAssembly (l : LaneNo) (a : Assembly) (s : State) : State :=
  if a.bodies.length = a.bodyCount.toNat then completeNotice l a (setLane l { laneAt s l with assembly := none } s)
  else setLane l { laneAt s l with assembly := some a } s

/-- The notice a HEAD begins (R190). -/
def headOf (p : BitVec 28) : Assembly where
  kind := p.extractLsb' 24 4
  bodyCount := p.extractLsb' 22 2
  firstField := p.extractLsb' 0 22
  bodies := []

/-- A good HEAD (R140). -/
def assembleHead (l : LaneNo) (p : BitVec 28) (s : State) : State :=
  if (laneAt s l).state = .up then placeAssembly l (headOf p) (discardAssembly l s) else bump .noticesDiscarded s

/-- A good BODY (R140). -/
def assembleBody (l : LaneNo) (p : BitVec 28) (s : State) : State :=
  match (laneAt s l).assembly with
  | some a => placeAssembly l { a with bodies := a.bodies ++ [p] } s
  | none => s

/-! ### A word taken (R126) -/

/-- A good word's own marks: the silence timer restarts, the bad-word run ends and a FILL's fields are kept (R127, R137, R138). -/
def markGood (l : LaneNo) (fill : Option FillInfo) (s : State) : State :=
  let v := laneAt s l
  setLane l
    { v with
      silence := 0, badRun := false
      lastFill := match fill with
        | some f => some f
        | none => v.lastFill } s

/-- A good word: assembly, then the lane state machine (R126, R140). -/
def takeGood (l : LaneNo) (w : LaneWord) (s : State) : State :=
  match wordType w with
  | some .fill =>
    let f := (fillFields (wordPayload w)).info
    goodStep l (some f) (discardAssembly l (markGood l (some f) s))
  | some .head => goodStep l none (assembleHead l (wordPayload w) (markGood l none s))
  | some .body => goodStep l none (assembleBody l (wordPayload w) (markGood l none s))
  | none => s

/-- A bad word: counted, the notice in assembly discarded, then the lane state machine and its silence timer (R126, R140). -/
def takeBad (l : LaneNo) (s : State) : State :=
  countSilence l (badStep l (discardAssembly l (bump (.badWords l) s)))

/-- A word taken by a configured receiver: the tests are made on the state as it stands, then the expected alternation is updated
(R126). -/
def takeWord (l : LaneNo) (w : LaneWord) (s : State) : State :=
  let t := setLane l { laneAt s l with expected := nextExpected (laneAt s l).expected w } s
  if goodWord s l w then takeGood l w t else takeBad l t

/-- 64 word times have passed without a good word (R138). -/
def takeSilence (l : LaneNo) (s : State) : State :=
  match (laneAt s l).state with
  | .silent => s
  | .absent => s
  | .seeking | .heard | .up | .hold => goSilent l s

/-- The absence deadline of a SILENT lane, where it is reached (R134). -/
def serveAbsence (l : LaneNo) (s : State) : State :=
  match (laneAt s l).state, (laneAt s l).absence with
  | .silent, some d => if due s d then changeLane l .absent (fun v => { v with absence := none }) s else s
  | .silent, none => s
  | .seeking, _ => s
  | .heard, _ => s
  | .up, _ => s
  | .hold, _ => s
  | .absent, _ => s

/-! ### Meanings -/

/-- TRANSMIT_WORD_TIME (R130); outside RUNNING the transmitter is silent. -/
def execTransmitWordTime (s : State) : Host.Outcome State Fault Refusal :=
  .next (if running s then transmitWord s else s)

/-- RUNNING_FLAG_TIMEOUT: the count of word times since the last strobe has reached 320 (R131). -/
def execRunningFlagTimeout (s : State) : Host.Outcome State Fault Refusal :=
  .next (if running s then { s with link := { s.link with strobeWords := 320 } } else s)

/-- LANE_WORD (R126); an unused receiver, or one outside RUNNING, takes no words (R132, R133). -/
def execLaneWord (l : LaneNo) (w : LaneWord) (s : State) : Host.Outcome State Fault Refusal :=
  .next (if running s && laneConfigured s.host l then takeWord l w s else s)

/-- LANE_SILENCE_TIMEOUT (R138). -/
def execLaneSilenceTimeout (l : LaneNo) (s : State) : Host.Outcome State Fault Refusal :=
  .next (if running s && laneConfigured s.host l then takeSilence l s else s)

/-- LANE_ABSENCE_DEADLINE (R134). -/
def execLaneAbsenceDeadline (l : LaneNo) (s : State) : Host.Outcome State Fault Refusal :=
  .next (if running s && laneConfigured s.host l then serveAbsence l s else s)

end Sys2Proof.Machine
end

