-- ==== Sys2Proof/Machine/Slate.lean ====
section
/-! DEFINITION. The slate builder: the control slate of each strobe and its delivery notices (R170 to R177). -/

namespace Sys2Proof.Machine

/-- A record's handle is in the grantable set of the slate whose cycle has local count `count`: ACTIVE or OFFERING, its effective
cycle at or before it (R174). How two local counts compare across the wrap of the 32-bit count R174 does not say; R7's half-range
comparison is used, the model's choice (log entry 33). -/
def grantable (count : LocalCount) : Record → Bool
  | .active _ t => reached count t.effective
  | .offering _ t _ _ => reached count t.effective
  | .free | .pending _ _ _ | .ranging _ _ | .leaving _ _ _ _ _ | .arriving _ _ _ _ _ | .lost _ _ _ _ => false

/-- The grantable set of the slate for now + 1, in ascending order of handle (R174). -/
def grantableSet (s : State) : List Handle :=
  (List.finRange 128).filter fun h => grantable (ahead s 1) (recordAt s h)

/-- A directed grant as a slate lists it (R69, R191). -/
def slateGrant (g : DirectedGrant) : SlateGrant :=
  .directed g.kind g.handle g.offset

/-- The grants listed for a cycle: the DISCOVER grant, then the directed grants in the order placed (R172 step 2). -/
def slateGrants (r : TreeCycle) (calendar : List Grant) : List SlateGrant :=
  discoverIn r calendar ++ (directedIn r calendar).map slateGrant

/-- The delivery notice of a listed message, for the slate of cycle `c`; DROP and TUNE give none. RETUNE and SET-DELAY are queued with
their tag, so its absence stands for no reachable case (R175). -/
def deliveryOf (c : TreeCycle) (q : Queued) : Option Handoff :=
  match q.message, q.tag with
  | .assign x h, _ => some (.delivered (.assign h x c))
  | .setDelay h delay, some x => some (.delivered (.setDelay h x delay c))
  | .retune h _ _, some x => some (.delivered (.retune h x c))
  | .setDelay _ _, none => none
  | .retune _ _ _, none => none
  | .drop _ _, _ => none
  | .tune _ _, _ => none

/-- The slate for now + 1 in RUNNING (R172 steps 1, 2, 4, 5 and 6). -/
def runningSlate (s : State) : Slate :=
  let c := s.time.treeCycle + 1
  { cycle := c
    grants := slateGrants c s.sched.calendar
    messages := (s.builder.backlog.take 24).map Queued.message
    reservations := s.builder.reservations
    grantable := grantableSet s }

/-- The build at a strobe in RUNNING: the calendar's entry for now + 1 leaves it, its directed grants join the issued-grant table, the
24 oldest messages and all reservations leave, and delivery notices are handed in the listed order (R172, R171, R173, R175, R82). -/
def buildRunning (s : State) : State :=
  let c := s.time.treeCycle + 1
  { s with
    sched := { s.sched with calendar := s.sched.calendar.filter fun g => g.cycle != c }
    classifier := { s.classifier with issued := s.classifier.issued ++ directedIn c s.sched.calendar }
    builder := { backlog := s.builder.backlog.drop 24, reservations := [], slate := runningSlate s }
    handed := s.handed ++ (s.builder.backlog.take 24).filterMap (deliveryOf c) }

/-- The empty slate of a strobe in INIT or ALIGNING, carrying the tree cycle number as it stands (R176). -/
def emptySlate (s : State) : Slate where
  cycle := s.time.treeCycle
  grants := []
  messages := []
  reservations := []
  grantable := []

/-- The slate build of one CYCLE strobe, by part state (R172, R176). -/
def buildSlate (s : State) : State :=
  let s := { s with time := { s.time with owesBuild := false } }
  if s.host.part = .running then buildRunning s
  else { s with builder := { s.builder with slate := emptySlate s } }

end Sys2Proof.Machine
end

