-- ==== Sys2Proof/Machine/Strobe.lean ====
section
/-! DEFINITION. The CYCLE strobe with its parts (R4, R5, R7, R77, R172), and the reset pin (R188). -/

namespace Sys2Proof.Machine

/-! ### What a strobe left to be done (log entries 5 and 7) -/

/-- A record's reached deadlines served, by its state (R7). Of an ARRIVING record whose handover deadline and retry deadline are both left
over, the handover deadline is served first: R168 allows either order, and this one is the model's choice (log entry 7). -/
def serveRecord (s : State) (h : Handle) : State :=
  match recordAt s h with
  | .pending _ _ _ => serveSettle h s
  | .offering _ _ _ _ => serveOffer h s
  | .leaving _ _ _ _ _ => serveHandoverSource h s
  | .arriving _ _ _ _ _ => serveVerifyRetry h (serveHandoverTarget h s)
  | .lost _ _ _ _ => serveRetention h s
  | .free => s
  | .ranging _ _ => s
  | .active _ _ => s

/-- A configured lane's reached absence deadline served; an unused lane holds none (R132, R134). -/
def serveLane (s : State) (l : LaneNo) : State :=
  if laneConfigured s.host l then serveAbsence l s else s

/-- The expiry of one issued-grant entry, where it has come (R82). -/
def serveEntry (s : State) (e : DirectedGrant) : State :=
  serveExpiry e.kind e.handle e.cycle s

/-- The deadlines reached at the last strobe that no command has taken since: contested entries, records in handle order, lanes, and
the expiries of issued grants (R7, log entry 7). -/
def serveLeftovers (s : State) : State :=
  let s := s.table.contested.foldl (fun s c => serveContestedExpiry c.identity s) s
  let s := (List.finRange 128).foldl serveRecord s
  let s := (List.finRange 3).foldl serveLane s
  s.classifier.issued.foldl serveEntry s

/-- The build of a strobe, where it is owed (R172, R176). -/
def owedBuild (s : State) : State :=
  if s.time.owesBuild then buildSlate s else s

/-- The strobe last taken is finished: before the next strobe, and before RESTART, is taken (R6, R177, log entries 5 and 7). -/
def finishStrobe (s : State) : State :=
  let s := owedBuild (owedScheduler s)
  if s.host.part = .running then serveLeftovers s else s

/-! ### The counts (R4, R5) -/

/-- A strobe taken in RUNNING: both counts advance, the word count since the last strobe restarts, and the scheduler's work and the
build are owed (R4, R131). -/
def advanceCounts (s : State) : State :=
  { s with
    time := ⟨s.time.treeCycle + 1, s.time.localCount + 1, true, true⟩
    link := { s.link with strobeWords := 0 } }

/-- A receiver at the alignment strobe: a configured one sets its absence deadline (R133). -/
def alignLane (hp : HostPort) (l : LaneNo) (v : Lane) : Lane :=
  if laneConfigured hp l then { v with absence := some (BitVec.ofNat 32 hp.config.absenceTime) } else v

/-- The alignment strobe: both counts become 0, the part becomes RUNNING, discovery is due, the transmitter begins with a FILL of
alternation bit 0, and each configured receiver sets its absence deadline (R5, R58, R130, R133). -/
def align (s : State) : State :=
  { s with
    time := ⟨0, 0, true, true⟩
    host := { s.host with part := .running }
    sched := { s.sched with due := true, dueDeadline := none }
    link :=
      { s.link with
        nextAlt := false, sinceFill := 16, strobeWords := 0
        lanes := Vector.ofFn fun l => alignLane s.host l s.link.lanes[l] } }

/-- The counts' part of a strobe, by part state (R4, R5). In INIT and ALIGNING the counts stand and only the empty slate is owed
(R176). -/
def strobeCounts (epoch : Bool) (s : State) : State :=
  match s.host.part with
  | .running => advanceCounts s
  | .aligning => if epoch then align s else { s with time := { s.time with owesBuild := true } }
  | .init => { s with time := { s.time with owesBuild := true } }

/-- A CYCLE strobe, or the part of one that the command takes (log entry 5). -/
def takeStrobe (epoch : Bool) (part : StrobePart) (s : State) : State :=
  match part with
  | .whole => owedBuild (owedScheduler (strobeCounts epoch (finishStrobe s)))
  | .counts => strobeCounts epoch (finishStrobe s)
  | .scheduler => owedScheduler s
  | .build => owedBuild s

/-! ### Meanings -/

/-- CYCLE_STROBE (R4, R5, R77, R172, R176); a part held in reset takes no strobe (R188). -/
def execCycleStrobe (epoch : Bool) (part : StrobePart) (s : State) : Host.Outcome State Fault Refusal :=
  .next (if s.host.held then s else takeStrobe epoch part s)

/-- RESET_PIN_EVENT: every block takes its reset value, the straps are sampled into own channel (R188, R14). The queue of commands and
the model's own count of free values stand. -/
def execResetPinEvent (straps : BitVec 2) (s : State) : Host.Outcome State Fault Refusal :=
  .next { State.afterPin (Fin.ofNat 4 straps.toNat) with pending := s.pending, freeCount := s.freeCount }

/-- RESET_HELD: the part is inactive until the pin is released: no strobe, word, report or command is taken, no response is given, and
the outbound lane is silent (R188). What the registers hold meanwhile is not seen (log entry 15). -/
def execResetHeld (s : State) : Host.Outcome State Fault Refusal :=
  .next { s with
    host := { s.host with held := true, response := none }
    link := { s.link with laneOut := none } }

end Sys2Proof.Machine
end

