-- ==== Sys2Proof/Machine/Commands.lean ====
section
/-! DEFINITION. The host commands (R178 to R188, with R22, R23, R26, R27, R50, R51, R60, R73 and R157). -/

namespace Sys2Proof.Machine

/-- A frame decided: WRONG-STATE in a part state not listed for it, else by the command's own rule (R179). -/
def answer (taken : PartState → Bool) (decide : State → State) (s : State) : State :=
  if taken s.host.part then decide s else respond .wrongState s

/-- A frame taken: nothing while the reset pin is held (R188); else it is decided between strobes, the scheduler's part of the strobe
last taken done first (R77). -/
def command (taken : PartState → Bool) (decide : State → State) (s : State) : State :=
  if s.host.held then s else answer taken decide (owedScheduler s)

/-- Taken in every part state (R179). -/
def anyState (_ : PartState) : Bool :=
  true

/-- Taken in INIT alone (R179). -/
def inInit (p : PartState) : Bool :=
  p == .init

/-- Taken in RUNNING alone (R179). -/
def inRunning (p : PartState) : Bool :=
  p == .running

/-- Taken in INIT and RUNNING (R179). -/
def inInitOrRunning (p : PartState) : Bool :=
  p == .init || p == .running

/-- OK without data. -/
def respondOk (s : State) : State :=
  respond (.ok .nothing) s

/-! ### READ-STATUS (R183) -/

/-- The window's figures (R79). -/
def windowStatus (w : Window) : WindowReport where
  stage := w.stage
  grantCycle := w.grantCycle
  first := w.first
  length := (cycleDiff w.last w.first + 1).toNat
  bursts := w.bursts

/-- An inbound lane's figures (R139). -/
def laneStatus (s : State) (l : LaneNo) : LaneReport where
  lane := l
  channel := laneChannel s.host.ownChannel l
  configured := laneConfigured s.host l
  state := s.link.lanes[l].state
  lastFill := s.link.lanes[l].lastFill

/-- The spans of one kind code (R79, R191). -/
def spansOfKind (s : State) (code : Nat) : Nat :=
  s.sched.spans.countP fun x => x.kind.code == code

/-- The slots that `sel` selects (R110). -/
def slotCount (s : State) (sel : Slot → Bool) : Nat :=
  (List.finRange 128).countP fun h => sel (slotAt s h)

/-- A slot is ASKED. -/
def Slot.isAsked : Slot → Bool
  | .asked _ => true
  | .idle => false
  | .out _ _ _ => false
  | .answered _ => false

/-- A slot is OUT. -/
def Slot.isOut : Slot → Bool
  | .out _ _ _ => true
  | .idle => false
  | .asked _ => false
  | .answered _ => false

/-- A slot is ANSWERED. -/
def Slot.isAnswered : Slot → Bool
  | .answered _ => true
  | .idle => false
  | .asked _ => false
  | .out _ _ _ => false

/-- A record waits for its next attempt: ATTEMPTING with fewer than 4 attempts and an IDLE slot (R76, R110). -/
def awaitsAttempt (s : State) (h : Handle) : Bool :=
  match recordAt s h with
  | .ranging _ r => r.stage == .attempting && r.attempts < 4 && slotAt s h == .idle
  | .free | .pending _ _ _ | .active _ _ | .offering _ _ _ _ | .leaving _ _ _ _ _ | .arriving _ _ _ _ _ | .lost _ _ _ _ =>
    false

/-- The records held by ranging suspension (R110). -/
def heldByRanging (s : State) : Nat :=
  if isHeld .ranging s then (List.finRange 128).countP (awaitsAttempt s) else 0

/-- The items of READ-STATUS at one instant (R183). -/
def statusOf (s : State) : StatusReport where
  part := s.host.part
  ownChannel := s.host.ownChannel
  config := s.host.config
  digest := digest s.host.config
  treeCycle := s.time.treeCycle
  localCount := s.time.localCount
  eventCount := s.host.events.length
  intAsserted := intAsserted s.host
  attention := s.host.attention
  capture := s.classifier.capture
  window := s.sched.window.map windowStatus
  due := s.sched.due
  dueDeadline := if s.sched.due then none else s.sched.dueDeadline
  stack := s.sched.stack
  ownSpans := spansOfKind s 0
  peerSpans := spansOfKind s 1
  rangeSpans := spansOfKind s 2
  verifySpans := spansOfKind s 3
  placementCount := s.sched.placements.length
  slotsAsked := slotCount s Slot.isAsked
  slotsOut := slotCount s Slot.isOut
  slotsAnswered := slotCount s Slot.isAnswered
  heldByRanging := heldByRanging s
  outboundCount := s.link.outbound.length
  lanes := (List.finRange 3).map (laneStatus s)
  backlogCount := s.builder.backlog.length
  reservationCount := s.builder.reservations.length
  slateCycle := s.builder.slate.cycle
  slateGrants := s.builder.slate.grants.length
  slateMessages := s.builder.slate.messages.length
  slateGrantable := s.builder.slate.grantable.length

/-- READ-STATUS changes nothing but the response (R183). -/
def readStatus (s : State) : State :=
  respond (.ok (.status (statusOf s))) s

/-! ### CONFIGURE, START, RESTART (R180 to R182) -/

/-- CONFIGURE, checked in table order; refused, it keeps the configuration in force whole (R180). -/
def configure (f : ConfigFrame) (s : State) : State :=
  match configProblem s.host.ownChannel f with
  | some n => respond (.badParameter n) s
  | none => respondOk (s.onHost fun hp => { hp with config := configOfFrame f })

/-- START (R181, R14). -/
def startPart (s : State) : State :=
  if s.host.config.channelCount ≤ s.host.ownChannel.val then respond (.badParameter 0) s
  else respondOk (s.onHost fun hp => { hp with part := .aligning })

/-- What RESTART empties, block by block; the barred list, the configuration, own channel, the counts, the event queue, the counters,
the attention conditions, the capture and the last slate's figures stand (R182, R6, R29, R78, R96, R97, R129, R130, R133, R177). -/
def emptyBlocks (s : State) : State :=
  { s with
    time := { s.time with owesScheduler := false }
    table := { s.table with records := Vector.replicate 128 .free, contested := [] }
    sched := .atReset
    classifier := { s.classifier with issued := [] }
    slots := slotsAtReset
    link := .atReset
    builder := { s.builder with backlog := [], reservations := [] }
    host := { s.host with part := .init }
    handed := [] }

/-- RESTART (R182). A strobe taken before it is finished first: its deadlines are served and its slate is built and handed before their
holders are emptied (R6, R177). -/
def restartPart (s : State) : State :=
  respondOk (emptyBlocks (finishStrobe s))

/-! ### READ-EVENT, READ-COUNTERS, CLEAR-ATTENTION (R185 to R187) -/

/-- READ-EVENT (R185). -/
def readEvent (s : State) : State :=
  match s.host.events with
  | [] => respond .empty s
  | e :: rest => respond (.ok (.event e)) (s.onHost fun hp => { hp with events := rest })

/-- READ-COUNTERS (R186); a clear flag that is neither no nor yes fails its check (log entry 12). -/
def readCounters (clear : Byte) (s : State) : State :=
  match clearByte clear with
  | none => respond (.badParameter 1) s
  | some yes =>
    let kept := if yes then Vector.replicate 18 0 else s.host.counters
    respond (.ok (.counters s.host.counters)) (s.onHost fun hp => { hp with counters := kept })

/-- The conditions set, less the named ones (R187). -/
def Attention.without (a named : Attention) : Attention where
  header := a.header && !named.header
  duplicate := a.duplicate && !named.duplicate
  lane := a.lane && !named.lane
  overrun := a.overrun && !named.overrun

/-- CLEAR-ATTENTION; naming HEADER also arms the capture (R187, R86). -/
def clearAttention (conditions : Byte) (s : State) : State :=
  match conditionsByte conditions with
  | none => respond (.badParameter 1) s
  | some named =>
    let capture := if named.header then none else s.classifier.capture
    respondOk
      ({ s with classifier := { s.classifier with capture := capture } }.onHost fun hp =>
        { hp with attention := hp.attention.without named })

/-! ### BAR, UNBAR, READ-RECORD, FIND (R22, R23, R26, R27) -/

/-- An identity joins the barred list (R22). -/
def addBarred (x : Identity) (s : State) : State :=
  { s with table := { s.table with barred := s.table.barred ++ [x] } }

/-- BAR against the record that holds the identity: BUSY in a handover, else the record is freed first (R22, R52). -/
def barHeld (h : Handle) (x : Identity) (s : State) : State :=
  match recordAt s h with
  | .offering _ _ _ _ | .leaving _ _ _ _ _ | .arriving _ _ _ _ _ => respond .busy s
  | .free | .pending _ _ _ | .ranging _ _ | .active _ _ | .lost _ _ _ _ =>
    respondOk (addBarred x (dropAndRelease h x .barred s))

/-- BAR (R22). In INIT no record holds an identity. -/
def bar (x : Identity) (s : State) : State :=
  if isBarred s x then respondOk s
  else if 16 ≤ s.table.barred.length then respond .full s
  else
    match holder s x with
    | some h => barHeld h x s
    | none => respondOk (addBarred x s)

/-- UNBAR (R23). -/
def unbar (x : Identity) (s : State) : State :=
  respondOk { s with table := { s.table with barred := s.table.barred.filter (· != x) } }

/-- READ-RECORD: the record itself, which holds exactly the fields present in its state (R26). -/
def readRecord (hb : Byte) (s : State) : State :=
  match handleByte hb with
  | none => respond (.badParameter 1) s
  | some h => respond (.ok (.record (recordAt s h))) s

/-- What FIND reports (R27). -/
def findOf (x : Identity) (s : State) : FindReport where
  held := (holder s x).map fun h => (h, (recordAt s h).state)
  barred := isBarred s x
  contested := (contestedEntry s x).map Contested.expiry

/-- FIND (R27). -/
def findIdentity (x : Identity) (s : State) : State :=
  respond (.ok (.found (findOf x s))) s

/-! ### DEREGISTER, RERANGE, HANDOVER (R50, R51, R157) -/

/-- DEREGISTER of a record (R50). -/
def deregisterRecord (h : Handle) (s : State) : State :=
  match recordAt s h with
  | .free => respond .noSuchHandle s
  | .offering _ _ _ _ | .leaving _ _ _ _ _ | .arriving _ _ _ _ _ => respond .busy s
  | .pending x _ _ | .ranging x _ | .active x _ | .lost x _ _ _ => respondOk (dropAndRelease h x .host s)

/-- DEREGISTER (R50). -/
def deregister (hb : Byte) (s : State) : State :=
  match handleByte hb with
  | none => respond (.badParameter 1) s
  | some h => deregisterRecord h s

/-- RERANGE of a record (R51). -/
def rerangeRecord (h : Handle) (s : State) : State :=
  match recordAt s h with
  | .free => respond .noSuchHandle s
  | .pending _ _ _ | .ranging _ _ | .leaving _ _ _ _ _ | .arriving _ _ _ _ _ => respond .busy s
  | .active _ _ | .offering _ _ _ _ | .lost _ _ _ _ => respondOk (enterReranging h .host s)

/-- RERANGE (R51). -/
def rerange (hb : Byte) (s : State) : State :=
  match handleByte hb with
  | none => respond (.badParameter 1) s
  | some h => rerangeRecord h s

/-- A target a HANDOVER may name: another channel below the channel count (R157). -/
def handoverTarget (hp : HostPort) (tb : Byte) : Option Channel :=
  (channelByte tb).filter fun c => c != hp.ownChannel && decide (c.val < hp.config.channelCount)

/-- The inbound lane wired to a channel is UP (R157). -/
def laneUp (s : State) (c : Channel) : Bool :=
  match laneOf s.host.ownChannel c with
  | some l => s.link.lanes[l].state == .up
  | none => false

/-- The offer made: HANDOFF queued, the record OFFERING with its tracking fields (R157). -/
def makeOffer (h : Handle) (x : Identity) (t : Tracking) (target : Channel) (s : State) : State :=
  setRecord h (.offering x t target (ahead s 16)) (queueNotice (.handoff x target (BitVec.ofNat 21 t.launchDelay)) s)

/-- HANDOVER of a record to a target that exists (R157). -/
def handoverRecord (h : Handle) (target : Channel) (s : State) : State :=
  match recordAt s h with
  | .free => respond .noSuchHandle s
  | .active x t => if laneUp s target then respondOk (makeOffer h x t target s) else respond .laneDown s
  | .pending _ _ _ | .ranging _ _ | .offering _ _ _ _ | .leaving _ _ _ _ _ | .arriving _ _ _ _ _ | .lost _ _ _ _ =>
    respond .busy s

/-- HANDOVER, R157's cases in order. -/
def handover (hb tb : Byte) (s : State) : State :=
  match handleByte hb, handoverTarget s.host tb with
  | none, _ => respond (.badParameter 1) s
  | some _, none => respond (.badParameter 2) s
  | some h, some target => handoverRecord h target s

/-! ### SUSPEND, RESUME, DISCOVER-NOW (R73 to R76, R60) -/

/-- Every waiting RANGE request withdrawn; its slot becomes IDLE (R75, R101). -/
def withdrawRangeRequests (s : State) : State :=
  (s.sched.placements.filter Request.isRange).foldl (fun s r => withdrawRequest r.handle s) s

/-- A kind pushed on top of the stack (R73, R75). -/
def pushHold (k : Hold) (s : State) : State :=
  let t := { s with sched := { s.sched with stack := s.sched.stack ++ [k] } }
  match k with
  | .ranging => withdrawRangeRequests t
  | .discovery => t

/-- SUSPEND (R73). -/
def suspend (kb : Byte) (s : State) : State :=
  match holdByte kb with
  | none => respond (.badParameter 1) s
  | some k => if isHeld k s then respond .busy s else respondOk (pushHold k s)

/-- The RANGE placements of the records that waited are asked for in handle order: the first by R70, and the others join the queue
behind it (R76, log entry 24). -/
def askWaiting (s : State) : State :=
  match (List.finRange 128).filter (awaitsAttempt s) with
  | [] => s
  | first :: others => others.foldl (fun s h => queueRange h s) (askRange first s)

/-- The effects of the popped entry end (R74, R76). -/
def endHold (k : Hold) (s : State) : State :=
  match k with
  | .ranging => askWaiting s
  | .discovery => s

/-- RESUME pops the top entry (R73). -/
def resume (s : State) : State :=
  match s.sched.stack.getLast? with
  | none => respond .empty s
  | some k => respondOk (endHold k { s with sched := { s.sched with stack := s.sched.stack.dropLast } })

/-- DISCOVER-NOW (R60). -/
def discoverNow (s : State) : State :=
  if s.sched.window.isSome then respond .busy s
  else if s.sched.due then respondOk s
  else respondOk { s with sched := { s.sched with due := true, dueDeadline := none } }

/-! ### Meanings -/

/-- READ_STATUS (R183). -/
def execReadStatus (s : State) : Host.Outcome State Fault Refusal :=
  .next (command anyState readStatus s)

/-- CONFIGURE (R180). -/
def execConfigure (f : ConfigFrame) (s : State) : Host.Outcome State Fault Refusal :=
  .next (command inInit (configure f) s)

/-- START (R181). -/
def execStart (s : State) : Host.Outcome State Fault Refusal :=
  .next (command inInit startPart s)

/-- RESTART (R182). -/
def execRestart (s : State) : Host.Outcome State Fault Refusal :=
  .next (command anyState restartPart s)

/-- READ_EVENT (R185). -/
def execReadEvent (s : State) : Host.Outcome State Fault Refusal :=
  .next (command anyState readEvent s)

/-- READ_COUNTERS (R186). -/
def execReadCounters (clear : Byte) (s : State) : Host.Outcome State Fault Refusal :=
  .next (command anyState (readCounters clear) s)

/-- CLEAR_ATTENTION (R187). -/
def execClearAttention (conditions : Byte) (s : State) : Host.Outcome State Fault Refusal :=
  .next (command anyState (clearAttention conditions) s)

/-- BAR (R22). -/
def execBar (x : Identity) (s : State) : Host.Outcome State Fault Refusal :=
  .next (command inInitOrRunning (bar x) s)

/-- UNBAR (R23). -/
def execUnbar (x : Identity) (s : State) : Host.Outcome State Fault Refusal :=
  .next (command inInitOrRunning (unbar x) s)

/-- READ_RECORD (R26). -/
def execReadRecord (h : Byte) (s : State) : Host.Outcome State Fault Refusal :=
  .next (command inRunning (readRecord h) s)

/-- FIND (R27). -/
def execFind (x : Identity) (s : State) : Host.Outcome State Fault Refusal :=
  .next (command inRunning (findIdentity x) s)

/-- DEREGISTER (R50). -/
def execDeregister (h : Byte) (s : State) : Host.Outcome State Fault Refusal :=
  .next (command inRunning (deregister h) s)

/-- RERANGE (R51). -/
def execRerange (h : Byte) (s : State) : Host.Outcome State Fault Refusal :=
  .next (command inRunning (rerange h) s)

/-- HANDOVER (R157). -/
def execHandover (h target : Byte) (s : State) : Host.Outcome State Fault Refusal :=
  .next (command inRunning (handover h target) s)

/-- SUSPEND (R73). -/
def execSuspend (kind : Byte) (s : State) : Host.Outcome State Fault Refusal :=
  .next (command inRunning (suspend kind) s)

/-- RESUME (R73, R76). -/
def execResume (s : State) : Host.Outcome State Fault Refusal :=
  .next (command inRunning resume s)

/-- DISCOVER_NOW (R60). -/
def execDiscoverNow (s : State) : Host.Outcome State Fault Refusal :=
  .next (command inRunning discoverNow s)

/-- BAD_FRAME: a code that names no command, or a length that is not the command's, is answered BAD-PARAMETER 0 in every state
(R179). -/
def execBadFrame (_code _length : Byte) (s : State) : Host.Outcome State Fault Refusal :=
  .next (command anyState (respond (.badParameter 0)) s)

/-- FRAME_DISCARDED: no response and no effect (R179). -/
def execFrameDiscarded (s : State) : Host.Outcome State Fault Refusal :=
  .next (s.onHost fun hp => { hp with response := none })

end Sys2Proof.Machine
end

