-- ==== Sys2Proof/Machine/Delivery.lean ====
section
/-! DEFINITION. Delivery notices taken by the registration controller (R39, R41, R45, R121, R175), with the three delivery rows. -/

namespace Sys2Proof.Machine

/-- A delivery notice waiting. -/
def deliveryNotice : Handoff → Option Delivery
  | .delivered d => some d
  | .notice _ _ | .hearing _ | .crossHeard _ | .rangeResult _ | .verification _ | .trackerInput _ | .outcome _ _ _
  | .placed _ _ _ _ | .tracked _ _ _ _ => none

/-- An ASSIGN notice of a handle. -/
def Delivery.isAssign (h : Handle) : Delivery → Bool
  | .assign g _ _ => g == h
  | .setDelay _ _ _ _ => false
  | .retune _ _ _ => false

/-- A SET-DELAY notice of a handle. -/
def Delivery.isSetDelay (h : Handle) : Delivery → Bool
  | .setDelay g _ _ _ => g == h
  | .assign _ _ _ => false
  | .retune _ _ _ => false

/-- A RETUNE notice of a handle. -/
def Delivery.isRetune (h : Handle) : Delivery → Bool
  | .retune g _ _ => g == h
  | .assign _ _ _ => false
  | .setDelay _ _ _ _ => false

/-- ASSIGN delivered: a record of that handle and identity in AWAIT-ASSIGN enters ATTEMPTING and the ranging unit is told (R39, R99);
else nothing (R45). -/
def assignDelivered (h : Handle) (x : Identity) (s : State) : State :=
  match recordAt s h with
  | .ranging y r =>
    if y = x ∧ r.stage = .awaitAssign then
      beginAttempts h (setRecord h (.ranging y { r with stage := .attempting }) s)
    else s
  | .free | .pending _ _ _ | .active _ _ | .offering _ _ _ _ | .leaving _ _ _ _ _ | .arriving _ _ _ _ _ | .lost _ _ _ _ => s

/-- The REGISTERED detail of an origin (R41). -/
def Origin.registered : Origin → RegisteredAs
  | .fresh => .fresh
  | .rerange => .rerange

/-- A correction applied to tracking fields (R121). -/
def correctedTracking (t : Tracking) (delay : Nat) (effective : LocalCount) : Tracking :=
  { t with launchDelay := delay, effective := effective, drift := 0, correctionPending := false }

/-- SET-DELAY delivered in the slate for cycle `c`: it activates a matching record in AWAIT-SET-DELAY (R41), else applies a pending
correction (R121), else does nothing (R45). The effective cycle is the one after `c`, and the strobe that built the slate is the one
before. -/
def setDelayDelivered (h : Handle) (x : Identity) (delay : Nat) (c : TreeCycle) (s : State) : State :=
  let effective := localOf s.time c + 1
  match recordAt s h with
  | .ranging y r =>
    if y = x ∧ r.stage = .awaitSetDelay ∧ r.launchDelay = some delay then
      raise (.registered h x r.origin.registered)
        (setRecord h (.active x (freshTracking delay effective (localOf s.time c - 1))) s)
    else s
  | .active y t =>
    if y = x ∧ t.correctionPending = true then setRecord h (.active y (correctedTracking t delay effective)) s else s
  | .offering y t peer deadline =>
    if y = x ∧ t.correctionPending = true then
      setRecord h (.offering y (correctedTracking t delay effective) peer deadline) s
    else s
  | .free | .pending _ _ _ | .leaving _ _ _ _ _ | .arriving _ _ _ _ _ | .lost _ _ _ _ => s

/-- What the registration controller makes of a delivery notice; a RETUNE's has no effect on any record (R175's table, R163). -/
def actOnDelivery : Delivery → State → State
  | .assign h x _ => assignDelivered h x
  | .setDelay h x delay c => setDelayDelivered h x delay c
  | .retune _ _ _ => id

/-- One delivery notice taken: it waits no longer, and it acts on the record it matches. -/
def takeDelivery (d : Delivery) (s : State) : State :=
  actOnDelivery d (takeEvent (.delivered d) s)

/-- The row of the oldest waiting notice that `sel` selects. The notices are handed in the order their slates listed the messages
(R175), and R45 rests on that order, so every notice handed before it is taken first. -/
def deliveryRow (sel : Delivery → Bool) (s : State) : State :=
  if running s then takeWantedInOrder deliveryNotice sel takeDelivery s else s

/-! ### Meanings -/

/-- ASSIGN_DELIVERY_NOTICE (R39, R175). -/
def execAssignDeliveryNotice (h : Handle) (s : State) : Host.Outcome State Fault Refusal :=
  .next (deliveryRow (Delivery.isAssign h) s)

/-- SET_DELAY_DELIVERY_NOTICE (R41, R121, R175). -/
def execSetDelayDeliveryNotice (h : Handle) (s : State) : Host.Outcome State Fault Refusal :=
  .next (deliveryRow (Delivery.isSetDelay h) s)

/-- RETUNE_DELIVERY_NOTICE (R175, R163). -/
def execRetuneDeliveryNotice (h : Handle) (s : State) : Host.Outcome State Fault Refusal :=
  .next (deliveryRow (Delivery.isRetune h) s)

end Sys2Proof.Machine
end

