-- ==== Sys2Proof/Machine/Notices.lean ====
section
/-! DEFINITION. The tree notices CLAIM, OBJECT, RELEASE and CROSS, and the cross-heard burst (R143 to R156). -/

namespace Sys2Proof.Machine

/-- A tracked record is fresh at a CLAIM: now − last good cycle, modulo 2^32, is at most the freshness (R146). R124's third row has the
CLAIM free the stale record after an aligned burst was taken, which it is where the freshness has passed since that burst; within it R117's
step 3 has made the record fresh, and the model follows R117 and R146 (log entry 26). -/
def isFresh (s : State) (t : Tracking) : Bool :=
  (now s - t.lastGood).toNat ≤ s.host.config.freshness

/-- A record freed on a CLAIM from `p`: the DROP where `drop` says so, WITHDRAW to `offeredTo`, RELEASE, then RELEASED
(R147). -/
def freeForClaim (h : Handle) (x : Identity) (p : Channel) (drop : Bool) (offeredTo : Option Channel) (s : State) : State :=
  let s := if drop then queueDrop h .peer s else s
  let s :=
    match offeredTo with
    | some peer => queueNotice (.withdraw x peer) s
    | none => s
  raise (.released h x (.peerClaim p)) (freeRecord h (queueNotice (.release x) s))

/-- This part yields to a CLAIM with this heard cycle from `p`: the earlier hearing wins, in the same cycle the lower channel
(R145). -/
def yields (own p : Channel) (ownHeard claimHeard : TreeCycle) : Bool :=
  cycleDiff claimHeard ownHeard < 0 || (cycleDiff claimHeard ownHeard == 0 && p < own)

/-- A CLAIM for `x` from `p`, decided by the state of the record that holds `x` (R144). -/
def takeClaim (p : Channel) (x : Identity) (heard : TreeCycle) (s : State) : State :=
  match holder s x with
  | none => s
  | some h =>
    match recordAt s h with
    | .pending _ own _ =>
      if yields s.host.ownChannel p own.cycle heard then raise (.claimYielded h x p) (freeRecord h s) else s
    | .active _ t =>
      if isFresh s t then queueNotice (.object x p) s else freeForClaim h x p true none s
    | .offering _ t peer _ =>
      if isFresh s t then queueNotice (.object x p) s else freeForClaim h x p true (some peer) s
    | .ranging _ _ => freeForClaim h x p true none s
    | .lost _ _ _ _ | .leaving _ _ _ _ _ | .arriving _ _ _ _ _ => freeForClaim h x p false none s
    | .free => s

/-- An OBJECT for `x` from `q`: a PENDING record is freed into the contested list with DUPLICATE; anything else ignores it
(R149). -/
def takeObject (q : Channel) (x : Identity) (s : State) : State :=
  match holder s x with
  | none => s
  | some h =>
    match recordAt s h with
    | .pending _ _ _ => attend .duplicate (raise (.duplicate h x q) (contest x (freeRecord h s)))
    | .free | .ranging _ _ | .active _ _ | .offering _ _ _ _ | .leaving _ _ _ _ _ | .arriving _ _ _ _ _ | .lost _ _ _ _ => s

/-- A CROSS for `x` from `p`: TUNE toward an identity not held, with TUNE-SENT where the backlog takes it (R154). -/
def takeCross (p : Channel) (x : Identity) (s : State) : State :=
  match holder s x with
  | some _ => s
  | none =>
    let t := queueMessage (.tune x p) none s
    if backlogRoom s then raise (.tuneSent x p) t else t

/-- A cross-heard burst: CROSS to a channel that exists, with CROSS-HEARD; else a stray report (R153). -/
def takeCrossHeard (b : CrossHeard) (s : State) : State :=
  if b.downChannel.val < s.host.config.channelCount then
    raise (.crossHeard b.identity b.downChannel b.attemptCount) (queueNotice (.cross b.identity b.downChannel) s)
  else bump .strayReports s

/-! ### Meanings -/

/-- CROSS_HEARD_BURST (R153). -/
def execCrossHeardBurst (b : CrossHeard) (s : State) : Host.Outcome State Fault Refusal :=
  .next (if running s then takeCrossHeard b (takeEvent (.crossHeard b) s) else s)

end Sys2Proof.Machine
end

