-- ==== Sys2Proof/Machine/NoticeRows.lean ====
section
/-! DEFINITION. The eleven rows of the tree notices: what the owner of a notice makes of it, and the order in which the notices of one
lane are taken (R141, R143). -/

namespace Sys2Proof.Machine

/-- What the owner of a notice from `p` makes of it (R141's table). -/
def actOn (p : Channel) : Notice → State → State
  | .claim x heard => takeClaim p x heard
  | .object x _ => takeObject p x
  | .release x => uncontest x
  | .quiet first length => takeQuiet p first length
  | .cross x _ => takeCross p x
  | .handoff x _ delay => takeHandoff p x delay
  | .accept x _ newHandle => takeAccept p x newHandle
  | .decline x _ reason => takeDecline p x reason
  | .taken x _ => takeTaken p x
  | .lapsed x _ => takeLapsed p x
  | .withdraw x _ => takeWithdraw p x

/-- One notice from `p` taken: it waits no longer, and its owner acts on it; one meant for another part is ignored (R141). -/
def takeNotice (p : Channel) (n : Notice) (s : State) : State :=
  let s := takeEvent (.notice p n) s
  if n.meantFor s.host.ownChannel then actOn p n s else s

/-- A notice waiting from `p`. -/
def noticeFrom (p : Channel) : Handoff → Option Notice
  | .notice q n => if q = p then some n else none
  | .hearing _ | .crossHeard _ | .rangeResult _ | .verification _ | .trackerInput _ | .outcome _ _ _ | .placed _ _ _ _
  | .tracked _ _ _ _ | .delivered _ => none

/-- The notices from `p` that completed before `n` and wait still, oldest first; all that wait where `n` itself does not. -/
def olderNotices (p : Channel) (n : Notice) (s : State) : List Notice :=
  olderHanded (noticeFrom p) n s

/-- The row of a notice: "Notices from one lane are delivered in the order they completed" (R141, R143), so those before it are taken
first (log entry 4). Outside RUNNING no notice arrives, and one meant for another part is ignored (R30, R141). -/
def noticeRow (p : Channel) (n : Notice) (s : State) : State :=
  if running s && n.meantFor s.host.ownChannel then takeInOrder (noticeFrom p) (takeNotice p) n s else s

/-! ### Meanings -/

/-- CLAIM (R144 to R147). -/
def execClaim (p : Channel) (x : Identity) (heard : TreeCycle) (s : State) : Host.Outcome State Fault Refusal :=
  .next (noticeRow p (.claim x heard) s)

/-- OBJECT (R149). -/
def execObject (p : Channel) (x : Identity) (claimant : Channel) (s : State) : Host.Outcome State Fault Refusal :=
  .next (noticeRow p (.object x claimant) s)

/-- RELEASE (R151). -/
def execRelease (p : Channel) (x : Identity) (s : State) : Host.Outcome State Fault Refusal :=
  .next (noticeRow p (.release x) s)

/-- QUIET (R67, R68). -/
def execQuiet (p : Channel) (first : TreeCycle) (length : BitVec 4) (s : State) : Host.Outcome State Fault Refusal :=
  .next (noticeRow p (.quiet first length) s)

/-- CROSS (R154). -/
def execCross (p : Channel) (x : Identity) (down : Channel) (s : State) : Host.Outcome State Fault Refusal :=
  .next (noticeRow p (.cross x down) s)

/-- HANDOFF (R159, R160, R25). -/
def execHandoff (p : Channel) (x : Identity) (target : Channel) (delay : BitVec 21) (s : State) :
    Host.Outcome State Fault Refusal :=
  .next (noticeRow p (.handoff x target delay) s)

/-- ACCEPT (R161). -/
def execAccept (p : Channel) (x : Identity) (source : Channel) (newHandle : Handle) (s : State) :
    Host.Outcome State Fault Refusal :=
  .next (noticeRow p (.accept x source newHandle) s)

/-- DECLINE (R162). -/
def execDecline (p : Channel) (x : Identity) (source : Channel) (reason : BitVec 4) (s : State) :
    Host.Outcome State Fault Refusal :=
  .next (noticeRow p (.decline x source reason) s)

/-- TAKEN (R163). -/
def execTaken (p : Channel) (x : Identity) (source : Channel) (s : State) : Host.Outcome State Fault Refusal :=
  .next (noticeRow p (.taken x source) s)

/-- LAPSED (R163). -/
def execLapsed (p : Channel) (x : Identity) (source : Channel) (s : State) : Host.Outcome State Fault Refusal :=
  .next (noticeRow p (.lapsed x source) s)

/-- WITHDRAW (R166). -/
def execWithdraw (p : Channel) (x : Identity) (target : Channel) (s : State) : Host.Outcome State Fault Refusal :=
  .next (noticeRow p (.withdraw x target) s)

end Sys2Proof.Machine
end

