-- ==== Sys2Proof/Machine/Dispatch.lean ====
section
/-! DEFINITION. The effect of every command, one arm per constructor of `Instr`. -/

namespace Sys2Proof.Machine

open Sys2Proof

/-- The effect of a command on everything but the queue. -/
def exec (i : Instr) (s : State) : Host.Outcome State Fault Refusal :=
  match i with
  | .resetPinEvent straps => Sys2Proof.Machine.execResetPinEvent straps s
  | .resetHeld => Sys2Proof.Machine.execResetHeld s
  | .cycleStrobe epoch part => Sys2Proof.Machine.execCycleStrobe epoch part s
  | .settleDeadline h => Sys2Proof.Machine.execSettleDeadline h s
  | .offerDeadline h => Sys2Proof.Machine.execOfferDeadline h s
  | .handoverDeadlineSource h => Sys2Proof.Machine.execHandoverDeadlineSource h s
  | .handoverDeadlineTarget h => Sys2Proof.Machine.execHandoverDeadlineTarget h s
  | .retentionDeadline h => Sys2Proof.Machine.execRetentionDeadline h s
  | .discoveryDueDeadline => Sys2Proof.Machine.execDiscoveryDueDeadline s
  | .windowStartDeadline => Sys2Proof.Machine.execWindowStartDeadline s
  | .windowCloseDeadline => Sys2Proof.Machine.execWindowCloseDeadline s
  | .verifyRetryDeadline h => Sys2Proof.Machine.execVerifyRetryDeadline h s
  | .contestedExpiry x => Sys2Proof.Machine.execContestedExpiry x s
  | .laneAbsenceDeadline l => Sys2Proof.Machine.execLaneAbsenceDeadline l s
  | .issuedGrantExpiry k h r => Sys2Proof.Machine.execIssuedGrantExpiry k h r s
  | .runningFlagTimeout => Sys2Proof.Machine.execRunningFlagTimeout s
  | .transmitWordTime => Sys2Proof.Machine.execTransmitWordTime s
  | .laneWord l w => Sys2Proof.Machine.execLaneWord l w s
  | .laneSilenceTimeout l => Sys2Proof.Machine.execLaneSilenceTimeout l s
  | .claim p x heard => Sys2Proof.Machine.execClaim p x heard s
  | .object p x claimant => Sys2Proof.Machine.execObject p x claimant s
  | .release p x => Sys2Proof.Machine.execRelease p x s
  | .quiet p first length => Sys2Proof.Machine.execQuiet p first length s
  | .cross p x down => Sys2Proof.Machine.execCross p x down s
  | .handoff p x target delay => Sys2Proof.Machine.execHandoff p x target delay s
  | .accept p x source newHandle => Sys2Proof.Machine.execAccept p x source newHandle s
  | .decline p x source reason => Sys2Proof.Machine.execDecline p x source reason s
  | .taken p x source => Sys2Proof.Machine.execTaken p x source s
  | .lapsed p x source => Sys2Proof.Machine.execLapsed p x source s
  | .withdraw p x target => Sys2Proof.Machine.execWithdraw p x target s
  | .burstReport r => Sys2Proof.Machine.execBurstReport r s
  | .endOfWindowSummary r => Sys2Proof.Machine.execEndOfWindowSummary r s
  | .hearing e => Sys2Proof.Machine.execHearing e s
  | .crossHeardBurst b => Sys2Proof.Machine.execCrossHeardBurst b s
  | .rangeAttemptResult r => Sys2Proof.Machine.execRangeAttemptResult r s
  | .rangingOutcomeApplied h => Sys2Proof.Machine.execRangingOutcomeApplied h s
  | .attemptPlaced h => Sys2Proof.Machine.execAttemptPlaced h s
  | .trackerInput t => Sys2Proof.Machine.execTrackerInput t s
  | .trackerResultApplied h => Sys2Proof.Machine.execTrackerResultApplied h s
  | .verificationBurst v => Sys2Proof.Machine.execVerificationBurst v s
  | .assignDeliveryNotice h => Sys2Proof.Machine.execAssignDeliveryNotice h s
  | .setDelayDeliveryNotice h => Sys2Proof.Machine.execSetDelayDeliveryNotice h s
  | .retuneDeliveryNotice h => Sys2Proof.Machine.execRetuneDeliveryNotice h s
  | .readStatus => Sys2Proof.Machine.execReadStatus s
  | .configure f => Sys2Proof.Machine.execConfigure f s
  | .start => Sys2Proof.Machine.execStart s
  | .restart => Sys2Proof.Machine.execRestart s
  | .readEvent => Sys2Proof.Machine.execReadEvent s
  | .readCounters clear => Sys2Proof.Machine.execReadCounters clear s
  | .clearAttention conditions => Sys2Proof.Machine.execClearAttention conditions s
  | .bar x => Sys2Proof.Machine.execBar x s
  | .unbar x => Sys2Proof.Machine.execUnbar x s
  | .readRecord h => Sys2Proof.Machine.execReadRecord h s
  | .find x => Sys2Proof.Machine.execFind x s
  | .deregister h => Sys2Proof.Machine.execDeregister h s
  | .rerange h => Sys2Proof.Machine.execRerange h s
  | .handover h target => Sys2Proof.Machine.execHandover h target s
  | .suspend kind => Sys2Proof.Machine.execSuspend kind s
  | .resume => Sys2Proof.Machine.execResume s
  | .discoverNow => Sys2Proof.Machine.execDiscoverNow s
  | .badFrame code length => Sys2Proof.Machine.execBadFrame code length s
  | .frameDiscarded => Sys2Proof.Machine.execFrameDiscarded s

end Sys2Proof.Machine
end

