-- ==== Sys2Proof/Machine/SlateRecord.lean ====
section
/-! DEFINITION. The record in which the slate builder hands a slate to the framer (R191). R191 gives no width for the kind codes, the
counts, the reason codes and the addressing flag, and no value for that flag, so these stand as numbers and as a choice of two
(log entry 28). -/

namespace Sys2Proof.Machine

/-- A grant as the framer port carries it (R191). -/
structure GrantItem where
  kind : Nat
  handle : Option (BitVec 7)
  offset : BitVec 19
  pattern : Option Byte
  deriving DecidableEq, Repr

/-- The addressing flag of a DROP with the name it announces (R191). -/
inductive NamedBy where
  | handle (h : BitVec 7)
  | identity (x : Identity)
  deriving DecidableEq, Repr

/-- The fields of a message, by kind (R191). -/
inductive MessageFields where
  | assign (x : Identity) (h : BitVec 7)
  | setDelay (h : BitVec 7) (delay : BitVec 21)
  | retune (oldHandle : BitVec 7) (target : Channel) (newHandle : BitVec 7)
  | drop (named : NamedBy) (reason : Nat)
  | tune (x : Identity) (landing : Channel)
  deriving DecidableEq, Repr

/-- A message as the framer port carries it: its kind code, then its fields (R191). -/
structure MessageItem where
  kind : Nat
  fields : MessageFields
  deriving DecidableEq, Repr

/-- The tag of a reservation (R173, R191). -/
inductive TagItem where
  | channel (c : Channel)
  | handle (h : BitVec 7)
  deriving DecidableEq, Repr

/-- A reservation as the framer port carries it (R191). -/
structure ReservationItem where
  kind : Nat
  startCycle : TreeCycle
  startOffset : BitVec 19
  endCycle : TreeCycle
  endOffset : BitVec 19
  tag : Option TagItem
  deriving DecidableEq, Repr

/-- The record of one slate: the header with its three counts, the three lists, and the grantable set (R191). -/
structure SlateRecord where
  cycle : TreeCycle
  grantCount : Nat
  messageCount : Nat
  reservationCount : Nat
  grants : List GrantItem
  messages : List MessageItem
  reservations : List ReservationItem
  grantable : BitVec 128
  deriving DecidableEq, Repr

/-- A handle in 7 bits (R191). -/
def handleBits (h : Handle) : BitVec 7 :=
  BitVec.ofNat 7 h.val

/-- An offset in 19 bits (R191). -/
def offsetBits (g : Nat) : BitVec 19 :=
  BitVec.ofNat 19 g

/-- The kind code of a directed grant (R191). -/
def directedCode : DirectedKind → Nat
  | .range => 1
  | .verify => 2

/-- A listed grant: DISCOVER 0, RANGE 1, VERIFY 2; the training pattern goes with DISCOVER (R191). -/
def SlateGrant.item : SlateGrant → GrantItem
  | .discover g pattern => { kind := 0, handle := none, offset := offsetBits g, pattern := some pattern }
  | .directed k h g => { kind := directedCode k, handle := some (handleBits h), offset := offsetBits g, pattern := none }

/-- The code of a DROP's reason (R191). -/
def DropReason.code : DropReason → Nat
  | .host => 0
  | .barred => 1
  | .ranging => 2
  | .retention => 3
  | .peer => 4

/-- How a DROP names its terminal (R32, R191). -/
def Address.item : Address → NamedBy
  | .byHandle h => .handle (handleBits h)
  | .byIdentity x => .identity x

/-- A listed message: ASSIGN 0, SET-DELAY 1, RETUNE 2, DROP 3, TUNE 4 (R191). -/
def Message.item : Message → MessageItem
  | .assign x h => ⟨0, .assign x (handleBits h)⟩
  | .setDelay h delay => ⟨1, .setDelay (handleBits h) (BitVec.ofNat 21 delay)⟩
  | .retune old target new => ⟨2, .retune (handleBits old) target (handleBits new)⟩
  | .drop named reason => ⟨3, .drop named.item reason.code⟩
  | .tune x landing => ⟨4, .tune x landing⟩

/-- The tag of a reserved span: the announcing channel of a PEER-QUIET, the handle of a directed span (R173, R191). -/
def SpanKind.tag : SpanKind → Option TagItem
  | .ownDiscovery => none
  | .peerQuiet p => some (.channel p)
  | .range h => some (.handle (handleBits h))
  | .verify h => some (.handle (handleBits h))

/-- A listed reservation (R191). -/
def Span.item (x : Span) : ReservationItem where
  kind := x.kind.code
  startCycle := x.first.cycle
  startOffset := offsetBits x.first.offset
  endCycle := x.last.cycle
  endOffset := offsetBits x.last.offset
  tag := x.kind.tag

/-- The grantable set as 128 bits: bit h is yes when handle h is in the set (R191). -/
def grantableBits (handles : List Handle) : BitVec 128 :=
  handles.foldl (fun bits h => bits ||| (1#128 <<< h.val)) 0#128

/-- The record of a slate (R191). -/
def Slate.record (x : Slate) : SlateRecord where
  cycle := x.cycle
  grantCount := x.grants.length
  messageCount := x.messages.length
  reservationCount := x.reservations.length
  grants := x.grants.map SlateGrant.item
  messages := x.messages.map Message.item
  reservations := x.reservations.map Span.item
  grantable := grantableBits x.grantable

/-- The slate output: the record of the last slate built, and silence while the reset pin is held (R172 step 7, R188, R191).
Until a strobe has built a slate since the reset-pin event it is the empty record of cycle 0 (log entry 29). -/
def slateOutput (s : State) : Option SlateRecord :=
  if s.host.held then none else some s.builder.slate.record

end Sys2Proof.Machine
end

