-- ==== Sys2Proof/Safety.lean ====
section
/-! DEFINITION. The laws the manual states of the part's state, each a property that every step keeps (02 R18, R19, R22, R24; 04 R55,
R57, R70, R73; 07 R115, R117; 08 section 8.5, R130; 11 R170; 12 R178, R180, R184; 01 R4). -/

namespace Sys2Proof.Machine

/-! ### Commands named in the statements -/

/-- Commands taken one after another. -/
def runAll : List Instr → State → Host.Outcome State Fault Refusal
  | [], s => .next s
  | c :: rest, s =>
    match exec c s with
    | .next t => runAll rest t
    | .fault r => .fault r
    | .refused r => .refused r

/-- The deadline and expiry rows that serve what a strobe reached and no command has taken, in the order of log entry 7. -/
def leftoverRows (s : State) : List Instr :=
  s.table.contested.map (fun c => .contestedExpiry c.identity) ++
    (List.finRange 128).flatMap (fun h =>
      [.settleDeadline h, .offerDeadline h, .retentionDeadline h, .handoverDeadlineSource h, .handoverDeadlineTarget h,
        .verifyRetryDeadline h]) ++
    (List.finRange 3).map Instr.laneAbsenceDeadline ++
    s.classifier.issued.map fun e => .issuedGrantExpiry e.kind e.handle e.cycle

/-- The rows that are host commands (R179). -/
def hostCommand : Instr → Bool
  | .readStatus | .configure _ | .start | .restart | .readEvent | .readCounters _ | .clearAttention _ | .bar _ | .unbar _
  | .readRecord _ | .find _ | .deregister _ | .rerange _ | .handover _ _ | .suspend _ | .resume | .discoverNow
  | .badFrame _ _ => true
  | .resetPinEvent _ | .resetHeld | .cycleStrobe _ _ | .settleDeadline _ | .offerDeadline _ | .handoverDeadlineSource _
  | .handoverDeadlineTarget _ | .retentionDeadline _ | .discoveryDueDeadline | .windowStartDeadline | .windowCloseDeadline
  | .verifyRetryDeadline _ | .contestedExpiry _ | .laneAbsenceDeadline _ | .issuedGrantExpiry _ _ _ | .runningFlagTimeout
  | .transmitWordTime | .laneWord _ _ | .laneSilenceTimeout _ | .claim _ _ _ | .object _ _ _ | .release _ _ | .quiet _ _ _
  | .cross _ _ _ | .handoff _ _ _ _ | .accept _ _ _ _ | .decline _ _ _ _ | .taken _ _ _ | .lapsed _ _ _ | .withdraw _ _ _
  | .burstReport _ | .endOfWindowSummary _ | .hearing _ | .crossHeardBurst _ | .rangeAttemptResult _
  | .rangingOutcomeApplied _ | .attemptPlaced _ | .trackerInput _ | .trackerResultApplied _ | .verificationBurst _
  | .assignDeliveryNotice _ | .setDelayDeliveryNotice _ | .retuneDeliveryNotice _ | .frameDiscarded => false

/-- The rows that act in RUNNING alone: deadlines and expiries, word times and lane words, notices, framer reports, and what one block
hands another (R4, R30, R80, R130, R133, R178). -/
def actsInRunning : Instr → Bool
  | .settleDeadline _ | .offerDeadline _ | .handoverDeadlineSource _ | .handoverDeadlineTarget _ | .retentionDeadline _
  | .discoveryDueDeadline | .windowStartDeadline | .windowCloseDeadline | .verifyRetryDeadline _ | .contestedExpiry _
  | .laneAbsenceDeadline _ | .issuedGrantExpiry _ _ _ | .runningFlagTimeout | .transmitWordTime | .laneWord _ _
  | .laneSilenceTimeout _ | .claim _ _ _ | .object _ _ _ | .release _ _ | .quiet _ _ _ | .cross _ _ _ | .handoff _ _ _ _
  | .accept _ _ _ _ | .decline _ _ _ _ | .taken _ _ _ | .lapsed _ _ _ | .withdraw _ _ _ | .burstReport _
  | .endOfWindowSummary _ | .hearing _ | .crossHeardBurst _ | .rangeAttemptResult _ | .rangingOutcomeApplied _
  | .attemptPlaced _ | .trackerInput _ | .trackerResultApplied _ | .verificationBurst _ | .assignDeliveryNotice _
  | .setDelayDeliveryNotice _ | .retuneDeliveryNotice _ => true
  | .resetPinEvent _ | .resetHeld | .cycleStrobe _ _ | .readStatus | .configure _ | .start | .restart | .readEvent
  | .readCounters _ | .clearAttention _ | .bar _ | .unbar _ | .readRecord _ | .find _ | .deregister _ | .rerange _
  | .handover _ _ | .suspend _ | .resume | .discoverNow | .badFrame _ _ | .frameDiscarded => false

/-- The row that takes a notice from channel `p`. -/
def Notice.row (p : Channel) : Notice → Instr
  | .claim x heard => .claim p x heard
  | .object x claimant => .object p x claimant
  | .release x => .release p x
  | .quiet first length => .quiet p first length
  | .cross x down => .cross p x down
  | .handoff x target delay => .handoff p x target delay
  | .accept x source newHandle => .accept p x source newHandle
  | .decline x source reason => .decline p x source reason
  | .taken x source => .taken p x source
  | .lapsed x source => .lapsed p x source
  | .withdraw x target => .withdraw p x target

/-- The row of a delivery notice. -/
def Delivery.row : Delivery → Instr
  | .assign h _ _ => .assignDeliveryNotice h
  | .setDelay h _ _ _ => .setDelayDeliveryNotice h
  | .retune h _ _ => .retuneDeliveryNotice h

/-! ### The table (R18, R22, R24) -/

/-- No two non-FREE records hold the same identity (R18). -/
def IdentitiesOnce (s : State) : Prop :=
  ∀ g h : Handle, (recordAt s g).identity?.isSome → (recordAt s g).identity? = (recordAt s h).identity? → g = h

/-- No identity of the list is held by a non-FREE record. -/
def NotHeld (s : State) (xs : List Identity) : Prop :=
  ∀ x ∈ xs, ∀ h : Handle, (recordAt s h).identity? ≠ some x

/-- The laws of the table: identities held once; barred and contested identities not held; neither list holds one twice (R18, R22,
R24). -/
structure TableLaws (s : State) : Prop where
  once : IdentitiesOnce s
  barredNotHeld : NotHeld s s.table.barred
  contestedNotHeld : NotHeld s (s.table.contested.map Contested.identity)
  barredOnce : s.table.barred.Nodup
  contestedOnce : (s.table.contested.map Contested.identity).Nodup

/-! ### The lists and queues -/

/-- The directed grants the calendar holds for a cycle. -/
def directedCount (s : State) (r : TreeCycle) : Nat :=
  (directedIn r s.sched.calendar).length

/-- The bounds kept by the operation that adds: 16 barred and 16 contested identities (R22, R24), 128 notices (R129), 256 messages
(R170), 64 events (R184), two different holds at most (R73), one request per record (R70), 32 directed spans and 2 PEER-QUIET spans per
channel (R55), 8 directed grants per cycle (R69) and 16 identity bursts per window (R64). The bounds that rest on the times at which
entries leave are in `WindowLaws`, `GrantLaws` and `AttemptLaws`. -/
structure WithinBounds (s : State) : Prop where
  barred : s.table.barred.length ≤ 16
  contested : s.table.contested.length ≤ 16
  outbound : s.link.outbound.length ≤ 128
  backlog : s.builder.backlog.length ≤ 256
  events : s.host.events.length ≤ 64
  stack : s.sched.stack.Nodup
  requests : (s.sched.placements.map Request.handle).Nodup
  directed : directedSpans s ≤ 32
  quiet : ∀ p : Channel, quietSpansOf p s ≤ 2
  grants : ∀ r : TreeCycle, directedCount s r ≤ 8
  bursts : ∀ w ∈ s.sched.window, w.bursts ≤ 16

/-- No OWN-DISCOVERY span overlaps a RANGE or VERIFY span (R57). -/
def DiscoveryClear (s : State) : Prop :=
  ∀ a ∈ s.sched.spans, ∀ b ∈ s.sched.spans, a.kind = .ownDiscovery → b.isDirected = true → a.overlaps b = false

/-! ### The part states (R4, R178, R180) -/

/-- Outside RUNNING the tables, queues and lists stay as the last reset or RESTART left them (R178, R30, R78, R97, R133, R176). -/
structure QuietOutsideRunning (s : State) : Prop where
  records : s.table.records = Vector.replicate 128 .free
  contested : s.table.contested = []
  sched : s.sched = .atReset
  issued : s.classifier.issued = []
  slots : s.slots = slotsAtReset
  outbound : s.link.outbound = []
  silent : s.link.laneOut = none
  lanes : s.link.lanes = Vector.replicate 3 Lane.fresh
  backlog : s.builder.backlog = []
  reservations : s.builder.reservations = []
  handed : s.handed = []
  owed : s.time.owesScheduler = false

/-- A part that is not RUNNING is quiet. -/
def QuietLaw (s : State) : Prop :=
  s.host.part ≠ .running → QuietOutsideRunning s

/-- In RUNNING the tree cycle number is the local cycle count modulo 65,536 (R4). -/
def CountsAgree (s : State) : Prop :=
  s.host.part = .running → s.time.treeCycle = s.time.localCount.setWidth 16

/-- The ranges of R180 for the configuration in force; own channel plays no part, since the defaults may lie below it (R14, R181). -/
structure ConfigWithin (c : Configuration) : Prop where
  channelCount : 1 ≤ c.channelCount ∧ c.channelCount ≤ 4
  treeLoopTime : 400000 ≤ c.treeLoopTime ∧ c.treeLoopTime ≤ 2137151
  minLoopDelay : c.minLoopDelay ≤ c.maxLoopDelay
  maxLoopDelay : c.maxLoopDelay + responseOffset ≤ c.treeLoopTime ∧ c.maxLoopDelay - c.minLoopDelay ≤ 1250000
  lead : 8 ≤ c.lead ∧ c.lead ≤ 15 ∧ (c.treeLoopTime + cycleLength - 1) / cycleLength + 2 ≤ c.lead
  discoveryPeriod : 100 ≤ c.discoveryPeriod ∧ c.discoveryPeriod ≤ 60000
  fastPeriod : 20 ≤ c.fastPeriod ∧ c.fastPeriod ≤ 1000
  settleTime : 4 ≤ c.settleTime ∧ c.settleTime ≤ 64
  rangingTolerance : 1 ≤ c.rangingTolerance ∧ c.rangingTolerance ≤ 16
  driftThreshold : 1 ≤ c.driftThreshold ∧ c.driftThreshold ≤ 16
  missingLimit : 2 ≤ c.missingLimit ∧ c.missingLimit ≤ 15
  freshness : 8 ≤ c.freshness ∧ c.freshness ≤ 1000
  retention : 1 ≤ c.retention ∧ c.retention ≤ 60000
  handoverTime : 50 ≤ c.handoverTime ∧ c.handoverTime ≤ 10000
  absenceTime : 1000 ≤ c.absenceTime ∧ c.absenceTime ≤ 60000

/-! ### The lanes (chapter 8) -/

/-- A receiver's runs and counts keep to the ranges of section 8.5, and it holds a notice in assembly only in UP, short of its body
count (R140). -/
structure LaneWithin (v : Lane) : Prop where
  fillRun : v.fillRun ≤ 1
  goodCount : v.goodCount ≤ 127
  mismatchCount : v.mismatchCount ≤ 2
  silence : v.silence ≤ 63
  assembling : ∀ a ∈ v.assembly, v.state = .up ∧ a.bodies.length < a.bodyCount.toNat

/-- The receivers keep to their ranges; at most 18 words pass between two FILLs, the words still to come of a notice counted in
(R130); the word count since the last strobe stops at 320 (R131). -/
structure LinkLaws (s : State) : Prop where
  lanes : ∀ l : LaneNo, LaneWithin s.link.lanes[l]
  sending : s.link.sending.length ≤ 2
  fillGap : s.link.sinceFill + s.link.sending.length ≤ 18
  strobeWords : s.link.strobeWords ≤ 320

/-- The lane words that carry these types and payloads one after another, the first with alternation bit `a` (R125). -/
def alternating : List (BitVec 30) → Bool → List LaneWord
  | [], _ => []
  | w :: rest, a => makeWord w a :: alternating rest (!a)

/-- Lane words taken one after another by the receiver of a lane. -/
def takeAll (l : LaneNo) (words : List LaneWord) (s : State) : Host.Outcome State Fault Refusal :=
  runAll (words.map (Instr.laneWord l)) s

/-! ### Launch delays and tracking (R19, R115, R117) -/

/-- The launch delay a record holds (R15). -/
def Record.launchDelay? : Record → Option Nat
  | .ranging _ r => r.launchDelay
  | .active _ t => some t.launchDelay
  | .offering _ t _ _ => some t.launchDelay
  | .leaving _ delay _ _ _ => some delay
  | .arriving _ delay _ _ _ => some delay
  | .lost _ delay _ _ => some delay
  | .free => none
  | .pending _ _ _ => none

/-- The tracking fields a record holds (R15). -/
def Record.tracking? : Record → Option Tracking
  | .active _ t => some t
  | .offering _ t _ _ => some t
  | .free => none
  | .pending _ _ _ => none
  | .ranging _ _ => none
  | .leaving _ _ _ _ _ => none
  | .arriving _ _ _ _ _ => none
  | .lost _ _ _ _ => none

/-- The launch delay a backlog entry carries. -/
def Queued.delay? (q : Queued) : Option Nat :=
  match q.message with
  | .setDelay _ delay => some delay
  | .assign _ _ => none
  | .retune _ _ _ => none
  | .drop _ _ => none
  | .tune _ _ => none

/-- The launch delay a hand-off carries to a record: an agreement, a correction, or a delivered SET-DELAY. -/
def Handoff.delay? : Handoff → Option Nat
  | .outcome _ _ (.agreement _ delay) => some delay
  | .outcome _ _ (.proceed _ _) => none
  | .outcome _ _ (.failure _) => none
  | .tracked _ _ _ (.aligned _ _ correction) => correction.map Correction.newDelay
  | .tracked _ _ _ (.missing _) => none
  | .tracked _ _ _ .lost => none
  | .tracked _ _ _ .misaligned => none
  | .tracked _ _ _ .rerange => none
  | .delivered (.setDelay _ _ delay _) => some delay
  | .delivered (.assign _ _ _) => none
  | .delivered (.retune _ _ _) => none
  | .notice _ _ => none
  | .hearing _ => none
  | .crossHeard _ => none
  | .rangeResult _ => none
  | .verification _ => none
  | .trackerInput _ => none
  | .placed _ _ _ _ => none

/-- Every launch delay in a record, and every one on its way to a record, is at most tree loop time − 40,000 (R19). The law needs the
quiet of a part that may be configured anew. -/
structure DelayLaw (s : State) : Prop where
  quiet : QuietLaw s
  records : ∀ h : Handle, ∀ d ∈ (recordAt s h).launchDelay?, d ≤ launchBound s.host.config
  backlog : ∀ q ∈ s.builder.backlog, ∀ d ∈ q.delay?, d ≤ launchBound s.host.config
  handed : ∀ x ∈ s.handed, ∀ d ∈ x.delay?, d ≤ launchBound s.host.config

/-- Tracking fields within the law of the runs (R115) and the bound of the drift sum (R117): a record with no correction pending has a
sum below Th in magnitude. -/
structure TrackingWithin (c : Configuration) (t : Tracking) : Prop where
  missingRun : t.missingRun < c.missingLimit
  misalignedRun : t.misalignedRun ≤ 1
  drift : t.drift.natAbs ≤ driftLimit c + 255
  settled : t.correctionPending = false → t.drift.natAbs < driftLimit c

/-- A tracker result on its way to a record keeps to the same bounds. -/
def TrackerResult.within (c : Configuration) : TrackerResult → Prop
  | .missing run => run < c.missingLimit
  | .aligned drift _ none => drift.natAbs < driftLimit c
  | .aligned drift _ (some _) => drift.natAbs ≤ driftLimit c + 255
  | .lost => True
  | .misaligned => True
  | .rerange => True

/-- A hand-off keeps the tracking bounds. -/
def Handoff.trackingWithin (c : Configuration) : Handoff → Prop
  | .tracked _ _ _ r => r.within c
  | .notice _ _ => True
  | .hearing _ => True
  | .crossHeard _ => True
  | .rangeResult _ => True
  | .verification _ => True
  | .trackerInput _ => True
  | .outcome _ _ _ => True
  | .placed _ _ _ _ => True
  | .delivered _ => True

/-- The law of the runs and of the drift sum (R115, R117), with what it rests on: the quiet of a part that may be configured anew, and
a configuration within its ranges. -/
structure TrackingLaw (s : State) : Prop where
  quiet : QuietLaw s
  config : ConfigWithin s.host.config
  records : ∀ h : Handle, ∀ t ∈ (recordAt s h).tracking?, TrackingWithin s.host.config t
  handed : ∀ x ∈ s.handed, x.trackingWithin s.host.config

/-! ### The discovery window (R55, R56, R63 to R65, R69) -/

/-- A span of this part's discovery window. -/
def Span.isOwn (x : Span) : Bool :=
  x.kind == .ownDiscovery

/-- A DISCOVER grant. -/
def Grant.isDiscover : Grant → Bool
  | .discover _ _ => true
  | .directed _ => false

/-- The cycles from now to cycle `r`. -/
def cyclesTo (s : State) (r : TreeCycle) : Nat :=
  (r - s.time.treeCycle).toNat

/-- A deadline lies within `most` cycles, and ahead of now once the strobe's scheduler work is done. -/
def deadlineWithin (s : State) (most : Nat) (deadline : LocalCount) : Prop :=
  (if s.time.owesScheduler then 0 else 1) ≤ (deadline - s.time.localCount).toNat ∧
    (deadline - s.time.localCount).toNat ≤ most

/-- The grant cycle, the last cycle and the deadlines of the window in progress follow from its first cycle (R63, R64, R65), and the
deadline it waits for is near. -/
structure WindowWithin (s : State) (w : Window) : Prop where
  grantCycle : w.grantCycle = w.first - BitVec.ofNat 16 (grantLead s.host.config)
  last : w.last = w.first + BitVec.ofNat 16 (windowLength s.host.config) - 1
  start : w.startDeadline.setWidth 16 = w.first
  close : w.closeDeadline = w.startDeadline + BitVec.ofNat 32 (windowLength s.host.config + 1)
  opening : w.stage = .announced → deadlineWithin s 40 w.startDeadline
  closing : deadlineWithin s 40 w.closeDeadline

/-- At most one OWN-DISCOVERY span is listed, that of the window in progress or one that the owed scheduler work removes (R55, R56,
R65); the calendar holds at most one DISCOVER grant, that of the window in progress, and every entry is for a cycle ahead, up to
now + 16 (R69); with no PEER-QUIET span under the part's own number at most 39 spans are listed (R55). -/
structure WindowLaws (s : State) : Prop where
  quiet : QuietLaw s
  counts : CountsAgree s
  config : ConfigWithin s.host.config
  bounds : WithinBounds s
  window : ∀ w ∈ s.sched.window, WindowWithin s w
  own : ∀ x ∈ s.sched.spans, x.isOwn = true →
    (∃ w ∈ s.sched.window, x = windowSpan w) ∨
      (s.time.owesScheduler = true ∧ 2 ≤ cycleDiff s.time.treeCycle x.last.cycle)
  ownOnce : s.sched.spans.countP Span.isOwn ≤ 1
  spans : quietSpansOf s.host.ownChannel s = 0 → s.sched.spans.length ≤ 39
  calendar : ∀ g ∈ s.sched.calendar, (if s.time.owesBuild then 1 else 2) ≤ cyclesTo s g.cycle ∧ cyclesTo s g.cycle ≤ 16
  discover : ∀ g ∈ s.sched.calendar, g.isDiscover = true → ∃ w ∈ s.sched.window, w.grantCycle = g.cycle
  discoverOnce : s.sched.calendar.countP Grant.isDiscover ≤ 1

/-! ### The grants out and the reservations (R69, R82, R173) -/

/-- A coarse loop delay that a hearing may bring, and so an expected loop delay E (R13, R88, R98). -/
def loopWithin (e : Int) : Prop :=
  -64 ≤ e ∧ e ≤ 2097215

/-- The coarse loop delay a record holds (R15). -/
def Record.coarse? : Record → Option Int
  | .pending _ heard _ => some heard.coarse
  | .ranging _ r => r.heard.map HeardAt.coarse
  | .free => none
  | .active _ _ => none
  | .offering _ _ _ _ => none
  | .leaving _ _ _ _ _ => none
  | .arriving _ _ _ _ _ => none
  | .lost _ _ _ _ => none

/-- A directed grant of the calendar. -/
def Grant.directed? : Grant → Option DirectedGrant
  | .directed g => some g
  | .discover _ _ => none

/-- The directed grants placed and not yet answered: in the calendar, or in the issued-grant table. -/
def grantsOut (s : State) : List DirectedGrant :=
  s.sched.calendar.filterMap Grant.directed? ++ s.classifier.issued

/-- The issued-grant table, with the grants that the owed build will add to it. -/
def grantsIssued (s : State) : List DirectedGrant :=
  s.classifier.issued ++ if s.time.owesBuild then directedIn (s.time.treeCycle + 1) s.sched.calendar else []

/-- The issued-grant table holds at most 32 entries, and each grant out has its span listed until the strobe that removes it (R82, R56);
every pending reservation but a PEER-QUIET one is listed in the span list, so that there are at most 33 of them: 39 with the 6 PEER-QUIET
spans of three lanes (R173). -/
structure GrantLaws (s : State) : Prop where
  window : WindowLaws s
  delay : DelayLaw s
  loops : ∀ h : Handle, ∀ e ∈ (recordAt s h).coarse?, loopWithin e
  requests : ∀ q ∈ s.sched.placements, ∀ e, q.wanted = .range e → loopWithin e
  calendar : ∀ g ∈ s.sched.calendar.filterMap Grant.directed?,
    g.span.isDirected = true ∧ (g.span.last.cycle - g.cycle).toNat ≤ 8
  issued : ∀ g ∈ s.classifier.issued,
    g.span.isDirected = true ∧ -2 ≤ cycleDiff g.span.last.cycle s.time.treeCycle ∧
      cycleDiff g.span.last.cycle s.time.treeCycle ≤ 24
  listed : ∀ x : Span, cycleDiff s.time.treeCycle x.last.cycle < 2 →
    ((grantsOut s).map DirectedGrant.span).count x ≤ s.sched.spans.count x
  issuedBound : (grantsIssued s).length ≤ 32
  ahead : ∀ x ∈ s.builder.reservations, (x.isOwn || x.isDirected) = true →
    (if s.time.owesBuild then 1 else 2) ≤ cyclesTo s x.last.cycle ∧ cyclesTo s x.last.cycle ≤ 40
  reserved : ∀ x : Span, (x.isOwn || x.isDirected) = true → s.builder.reservations.count x ≤ s.sched.spans.count x
  reservations : s.builder.reservations.countP (fun x => x.isOwn || x.isDirected) ≤ 33

/-! ### The attempts (R15, R70, R97 to R108) -/

/-- The RANGE placements of a handle asked for and not yet taken by the ranging unit: requests waiting and placements handed. -/
def placementsAsked (s : State) (h : Handle) : Nat :=
  s.sched.placements.countP (fun q => q.handle == h && q.isRange) +
    s.handed.countP fun x => (placementFor h x).isSome

/-- The outcomes handed for a handle and not yet applied. -/
def outcomesHanded (s : State) (h : Handle) : List (Identity × RangingOutcome) :=
  s.handed.filterMap (outcomeFor h)

/-- An outcome of a sequence of at most 4 attempts (R104, R107). -/
def RangingOutcome.within : RangingOutcome → Prop
  | .proceed samples attempts => samples.length ≤ attempts ∧ attempts ≤ 3
  | .agreement samples _ => samples.length ≤ 4
  | .failure _ => True

/-- The slot of a record in ATTEMPTING says what is under way for it (R97): a placement asked for, with fewer than 4 attempts made; a
grant out, whose answer may give one more sample; an answer, whose outcome is handed; or nothing. -/
def SlotSays (s : State) (h : Handle) (x : Identity) (r : RangingFields) : Prop :=
  match slotAt s h with
  | .idle => placementsAsked s h = 0 ∧ outcomesHanded s h = []
  | .asked y => y = x ∧ placementsAsked s h = 1 ∧ outcomesHanded s h = [] ∧ r.attempts ≤ 3
  | .out y _ _ => y = x ∧ placementsAsked s h = 0 ∧ outcomesHanded s h = [] ∧ r.samples.length < r.attempts
  | .answered y => y = x ∧ placementsAsked s h = 0 ∧ ∃ o, outcomesHanded s h = [(x, o)] ∧ o.within

/-- The samples, the attempts and the slot of a RANGING record, by stage (R15, R37, R40, R97). -/
def AttemptsWithin (s : State) (h : Handle) (x : Identity) (r : RangingFields) : Prop :=
  r.attempts ≤ 4 ∧ r.samples.length ≤ 4 ∧
    match r.stage with
    | .awaitAssign => r.attempts = 0 ∧ r.samples = []
    | .attempting =>
      r.samples.length ≤ r.attempts ∧ SlotSays s h x r ∧
        ∀ p ∈ s.handed.filterMap (placementFor h), p.1 = x
    | .awaitSetDelay => True

/-- The record a request was made for still waits for its placement (R70). -/
def requestStands (s : State) (q : Request) : Prop :=
  match q.wanted, recordAt s q.handle with
  | .range _, .ranging x r => x = q.identity ∧ r.stage = .attempting
  | .verify, .arriving x _ _ _ _ => x = q.identity
  | .range _, _ => False
  | .verify, _ => False

/-- A sequence has at most 4 attempts and 4 samples, its slot agrees with what is under way, and every waiting request, one per record at
most, is that of a record that waits for it (R15, R70, R97, R100, R104). -/
structure AttemptLaws (s : State) : Prop where
  quiet : QuietLaw s
  handles : (s.sched.placements.map Request.handle).Nodup
  requests : ∀ q ∈ s.sched.placements, requestStands s q
  attempts : ∀ (h : Handle) (x : Identity) (r : RangingFields), recordAt s h = .ranging x r → AttemptsWithin s h x r

end Sys2Proof.Machine
end

