-- ==== Sys2Proof/WellFormed.lean ====
section
/-! DEFINITION. Which commands the outside can send: operand values that the spec's sender could give. The meanings do not read
it; a command that is not well formed has a meaning too. -/

namespace Sys2Proof

/-- A directed grant offset is a multiple of 1,024 up to 312,320 (R71). -/
def directedOffset (g : Nat) : Bool :=
  g % 1024 == 0 && g ≤ 312320

/-- An arrival is 28 bits of quarters (R191). -/
def arrivalFits (q : Nat) : Bool :=
  q < 2 ^ 28

/-- A RANGE answer's arrival fits its field. -/
def RangeAnswer.wellFormed : RangeAnswer → Bool
  | .arrival q => arrivalFits q
  | .noSample _ => true

/-- A tracker input's offset is an offset of a cycle (R80) and its arrival fits its field. -/
def TrackerInputKind.wellFormed : TrackerInputKind → Bool
  | .burst _ g q => g < 312500 && arrivalFits q
  | .missing _ => true
  | .entrySample e => -256 ≤ e && e ≤ 256

/-- The operand checks, one line per row. -/
def Instr.wellFormed : Instr → Bool
  -- EPOCH is sampled at the CYCLE strobe (R4), so it stands only in the part of the strobe that advances the counts.
  | .cycleStrobe epoch part => !epoch || part == .whole || part == .counts
  -- A coarse loop delay that passed the out-of-band test (R13, R33, R88).
  | .hearing e => -64 ≤ e.coarse && e.coarse ≤ 2097215
  | .rangeAttemptResult r => directedOffset r.offset && r.answer.wellFormed
  | .trackerInput i => i.kind.wellFormed
  | .verificationBurst v => directedOffset v.offset && arrivalFits v.arrival
  -- A frame that fits no command (R179).
  | .badFrame code len => frameLength code != some len.toNat
  | .resetPinEvent _ | .resetHeld | .settleDeadline _ | .offerDeadline _ | .handoverDeadlineSource _
  | .handoverDeadlineTarget _ | .retentionDeadline _ | .discoveryDueDeadline | .windowStartDeadline | .windowCloseDeadline
  | .verifyRetryDeadline _ | .contestedExpiry _ | .laneAbsenceDeadline _ | .issuedGrantExpiry _ _ _ | .runningFlagTimeout
  | .transmitWordTime | .laneWord _ _ | .laneSilenceTimeout _ | .claim _ _ _ | .object _ _ _ | .release _ _ | .quiet _ _ _
  | .cross _ _ _ | .handoff _ _ _ _ | .accept _ _ _ _ | .decline _ _ _ _ | .taken _ _ _ | .lapsed _ _ _ | .withdraw _ _ _
  | .burstReport _ | .endOfWindowSummary _ | .crossHeardBurst _ | .rangingOutcomeApplied _ | .attemptPlaced _
  | .trackerResultApplied _ | .assignDeliveryNotice _ | .setDelayDeliveryNotice _ | .retuneDeliveryNotice _ | .readStatus
  | .configure _ | .start | .restart | .readEvent | .readCounters _ | .clearAttention _ | .bar _ | .unbar _
  | .readRecord _ | .find _ | .deregister _ | .rerange _ | .handover _ _ | .suspend _ | .resume | .discoverNow
  | .frameDiscarded => true

end Sys2Proof
end

