-- ==== Sys2Proof/Certificates/Slice0/Obligations.lean ====
section
/-! DEFINITION. The statements for the provers. Each effect is an equation on the whole next state where it can be, so that it is the
completion, the result and the frame of its command at once; the shared actions named in them (`raise`, `queueNotice`,
`queueMessage`, `freeRecord`, ...) have statements of their own. -/

open Sys2Proof Sys2Proof.Machine

/-! ### Steps and resets -/

/-- A step runs the command at the front of the queue with the queue's rest; with no command waiting the part idles (the model's
choice, log entry 16). -/
def Obligations.StepTakesTheFrontCommand : Prop :=
  (∀ (c : Instr) (rest : List Instr) (s : State), s.pending = c :: rest → step s = exec c { s with pending := rest }) ∧
  ∀ s : State, s.pending = [] → step s = .next s

/-- Every command answers a next state, and leaves the queue of commands as it was. -/
def Obligations.EveryCommandCompletes : Prop :=
  ∀ (c : Instr) (s : State), ∃ t, exec c s = .next t ∧ t.pending = s.pending

/-- The reset-pin event from any state, held or not (R188, R14, R28, R78, R96, R97, R129, R133, R177). The machine after power-on is
that event with the straps reading 0 (the model's choice of straps, log entry 1). The values that the equation with State.reset, and the
clause that no notice is in assembly, give where no rule states one are the model's choice too: the flags of what a strobe owes (log
entry 5), no response standing (log entry 13), the transmitter's next alternation bit and its two word counts (log entry 20), the empty
slate as the last one, whose figures alone R177 gives (log entry 29), and a receiver's mismatch-raised flag clear, silence timer 0 and
no notice in assembly (log entry 31). The model's own counter of free values stands (log entry 2). -/
def Obligations.ResetPinLeavesResetValues : Prop :=
  (∀ s : State, exec (.resetPinEvent 0) s = .next { State.reset with pending := s.pending, freeCount := s.freeCount }) ∧
  ∀ (straps : BitVec 2) (s : State), ∃ t, exec (.resetPinEvent straps) s = .next t ∧
    t.host.ownChannel.val = straps.toNat ∧ t.host.config = .defaults ∧ t.host.part = .init ∧ t.host.held = false ∧
    t.host.events = [] ∧ (∀ i : Fin 18, t.host.counters[i] = 0) ∧ t.host.attention = .clear ∧
    t.time.treeCycle = 0 ∧ t.time.localCount = 0 ∧
    (∀ h : Handle, recordAt t h = .free) ∧ t.table.barred = [] ∧ t.table.contested = [] ∧
    t.sched.spans = [] ∧ t.sched.window = none ∧ t.sched.lastClosed = none ∧ t.sched.due = false ∧
    t.sched.dueDeadline = none ∧ t.sched.calendar = [] ∧ t.sched.placements = [] ∧ t.sched.stack = [] ∧
    t.classifier.issued = [] ∧ t.classifier.capture = none ∧ (∀ h : Handle, slotAt t h = .idle) ∧
    t.link.outbound = [] ∧ t.link.sending = [] ∧ t.link.laneOut = none ∧
    (∀ l : LaneNo, t.link.lanes[l].state = .silent ∧ t.link.lanes[l].expected = none ∧ t.link.lanes[l].absence = none ∧
      t.link.lanes[l].lastFill = none ∧ t.link.lanes[l].assembly = none) ∧
    t.builder.backlog = [] ∧ t.builder.reservations = [] ∧ t.builder.slate = ⟨0, [], [], [], []⟩ ∧
    t.pending = s.pending

/-! ### The CYCLE strobe -/

/-- A strobe, whole or its counts alone, by part state: RUNNING counts, INIT and ALIGNING do not, and EPOCH is used in ALIGNING alone
(R4, R5, R131). The alignment strobe also makes discovery due, sets the transmitter to begin with a FILL of alternation bit 0, and sets
the absence deadline of each configured receiver (R58, R130, R133). That a part of a strobe may be commanded alone is the model's choice
(log entry 5). -/
def Obligations.StrobeCounts : Prop :=
  ∀ (epoch : Bool) (part : StrobePart) (s : State), s.host.held = false → (part = .whole ∨ part = .counts) →
    (s.host.part = .running → ∃ t, exec (.cycleStrobe epoch part) s = .next t ∧ t.host.part = .running ∧
      t.time.treeCycle = s.time.treeCycle + 1 ∧ t.time.localCount = s.time.localCount + 1 ∧ t.link.strobeWords = 0 ∧
      exec (.cycleStrobe false part) s = .next t) ∧
    (s.host.part = .init → ∃ t, exec (.cycleStrobe epoch part) s = .next t ∧ t.host.part = .init ∧
      t.time.treeCycle = s.time.treeCycle ∧ t.time.localCount = s.time.localCount) ∧
    (s.host.part = .aligning → epoch = false → ∃ t, exec (.cycleStrobe epoch part) s = .next t ∧ t.host.part = .aligning ∧
      t.time.treeCycle = s.time.treeCycle ∧ t.time.localCount = s.time.localCount) ∧
    (s.host.part = .aligning → epoch = true → ∃ t, exec (.cycleStrobe epoch part) s = .next t ∧ t.host.part = .running ∧
      t.time.treeCycle = 0 ∧ t.time.localCount = 0 ∧
      (part = .counts → t.sched.due = true ∧ t.sched.dueDeadline = none ∧ t.link.nextAlt = false ∧ t.link.sinceFill = 16 ∧
        ∀ l : LaneNo, laneConfigured s.host l = true →
          t.link.lanes[l].absence = some (BitVec.ofNat 32 s.host.config.absenceTime)))

/-- The whole strobe is its counts, then the scheduler's work in R77's order, then the build (R172); each part may be commanded alone, and
what is left of a strobe is finished before the next one (the model's reading of R7 and R173, log entries 5 and 7): the scheduler's work
and the build where they are owed, then each reached deadline and come expiry as its own row serves it. In RUNNING the counts then advance
by one (R4) and the running flag's word count restarts (R131). "Peer QUIETs, host commands and new requests reach the scheduler between
strobes" (R77): where the scheduler's work is still to come, it is done before each of them. -/
def Obligations.StrobeParts : Prop :=
  ((∀ (epoch : Bool) (s t u v : State), exec (.cycleStrobe epoch .counts) s = .next t →
    exec (.cycleStrobe epoch .scheduler) t = .next u → exec (.cycleStrobe epoch .build) u = .next v →
    exec (.cycleStrobe epoch .whole) s = .next v) ∧
  (∀ (epoch : Bool) (s : State), running s = true →
    (let u := finishStrobe s;
      exec (.cycleStrobe epoch .counts) s = .next
        { u with
          time := ⟨u.time.treeCycle + 1, u.time.localCount + 1, true, true⟩, link := { u.link with strobeWords := 0 } }) ∧
    (s.time.owesScheduler = true → exec (.cycleStrobe epoch .scheduler) s = .next (schedulerWork s)) ∧
    (s.time.owesScheduler = false → exec (.cycleStrobe epoch .scheduler) s = .next s) ∧
    (s.time.owesBuild = true → exec (.cycleStrobe epoch .build) s = .next (buildSlate s)) ∧
    (s.time.owesBuild = false → exec (.cycleStrobe epoch .build) s = .next s) ∧
    exec .windowStartDeadline s = .next (serveWindowStart s) ∧ exec .windowCloseDeadline s = .next (serveWindowClose s) ∧
    exec .discoveryDueDeadline s = .next (serveDiscoveryDue s)) ∧
  (∀ s : State, schedulerWork s =
    retryPlacements (tryAnnounce (serveDiscoveryDue (serveWindowClose (serveWindowStart
      { s with
        time := { s.time with owesScheduler := false }
        sched := { s.sched with spans := s.sched.spans.filter fun x => cycleDiff s.time.treeCycle x.last.cycle < 2 } }))))) ∧
  (∀ s : State, running s = true →
    (s.time.owesScheduler = false → s.time.owesBuild = false → runAll (leftoverRows s) s = .next (finishStrobe s)) ∧
    (s.time.owesScheduler = true → finishStrobe s = finishStrobe (schedulerWork s)) ∧
    (s.time.owesScheduler = false → s.time.owesBuild = true → finishStrobe s = finishStrobe (buildSlate s))) ∧
  ∀ s : State, s.host.part ≠ .running → finishStrobe s = if s.time.owesBuild then buildSlate s else s) ∧
  (∀ (c : Instr) (s : State), running s = true → s.time.owesScheduler = true → hostCommand c = true →
    exec c s = exec c (schedulerWork s)) ∧
  (∀ (q : Request) (s : State), running s = true → s.time.owesScheduler = true → request q s = request q (schedulerWork s)) ∧
  ∀ (p : Channel) (first : TreeCycle) (length : BitVec 4) (s : State), running s = true → s.time.owesScheduler = true →
    takeQuiet p first length s = takeQuiet p first length (schedulerWork s)

/-- At each slate build the oldest messages, up to 24, leave the backlog and are listed in backlog order, the rest stay in theirs
(R171); the grantable set is exactly the handles of the ACTIVE and OFFERING records whose effective cycle is at or before the slate's
cycle (R174), the two local counts compared by the half range of their 32 bits, which is the model's choice (log entry 33). That a part
of a strobe may be commanded alone is the model's choice (log entry 5). -/
def Obligations.SlateListsMessagesAndGrantableHandles : Prop :=
  ∀ s : State, running s = true → s.time.owesBuild = true → ∀ epoch : Bool,
    ∃ t, exec (.cycleStrobe epoch .build) s = .next t ∧ t.builder.slate.cycle = s.time.treeCycle + 1 ∧
      t.builder.slate.messages = (s.builder.backlog.take 24).map Queued.message ∧
      t.builder.backlog = s.builder.backlog.drop 24 ∧
      ∀ h : Handle, h ∈ t.builder.slate.grantable ↔
        ∃ x f, (recordAt s h = .active x f ∨ ∃ peer d, recordAt s h = .offering x f peer d) ∧
          (s.time.localCount + 1 - f.effective).toNat < 2 ^ 31

/-- The other steps of the build in RUNNING: the calendar entry of the slate's cycle is listed, DISCOVER first, and leaves the calendar;
its directed grants join the issued-grant table; the reservations are listed and emptied; delivery notices follow in the listed order;
records, link and host port stand (R172, R173, R175, R82). The record handed to the framer carries the slate's items with R191's kind
and reason codes, 7-bit handles, 19-bit offsets, a 21-bit launch delay and a 128-bit grantable set; the widths R191 leaves out are log
entry 28. That a part of a strobe may be commanded alone is the model's choice (log entry 5). -/
def Obligations.SlateCarriesGrantsAndReservations : Prop :=
  (∀ (c : TreeCycle) (calendar : List Grant),
    discoverIn c calendar = (calendar.filterMap fun
      | .discover r pattern => if r = c then some (SlateGrant.discover 0 pattern) else none
      | .directed _ => none) ∧
    directedIn c calendar = calendar.filterMap fun
      | .directed g => if g.cycle = c then some g else none
      | .discover _ _ => none) ∧
  (∀ (c : TreeCycle) (x : Identity) (h g : Handle) (delay : Nat) (p : Channel) (named : Address) (reason : DropReason),
    deliveryOf c ⟨.assign x h, none⟩ = some (.delivered (.assign h x c)) ∧
    deliveryOf c ⟨.setDelay h delay, some x⟩ = some (.delivered (.setDelay h x delay c)) ∧
    deliveryOf c ⟨.retune h p g, some x⟩ = some (.delivered (.retune h x c)) ∧
    deliveryOf c ⟨.drop named reason, none⟩ = none ∧ deliveryOf c ⟨.tune x p, none⟩ = none) ∧
  ∀ s : State, running s = true → s.time.owesBuild = true → ∀ epoch : Bool,
    ∃ t, exec (.cycleStrobe epoch .build) s = .next t ∧
      t.builder.slate.grants =
        discoverIn (s.time.treeCycle + 1) s.sched.calendar ++
          (directedIn (s.time.treeCycle + 1) s.sched.calendar).map (fun g => .directed g.kind g.handle g.offset) ∧
      (∀ g, g ∈ t.sched.calendar ↔ g ∈ s.sched.calendar ∧ g.cycle ≠ s.time.treeCycle + 1) ∧
      t.classifier.issued = s.classifier.issued ++ directedIn (s.time.treeCycle + 1) s.sched.calendar ∧
      t.builder.slate.reservations = s.builder.reservations ∧ t.builder.reservations = [] ∧
      t.handed = s.handed ++ (s.builder.backlog.take 24).filterMap (deliveryOf (s.time.treeCycle + 1)) ∧
      t.table = s.table ∧ t.link = s.link ∧ t.host = s.host ∧ t.slots = s.slots ∧
      t.classifier.capture = s.classifier.capture ∧
      ∃ r, slateOutput t = some r ∧ r.cycle = t.builder.slate.cycle ∧
        (r.grantCount = r.grants.length ∧ r.messageCount = r.messages.length ∧ r.reservationCount = r.reservations.length) ∧
        (r.grants = t.builder.slate.grants.map fun
          | .discover g pattern => ⟨0, none, BitVec.ofNat 19 g, some pattern⟩
          | .directed .range h g => ⟨1, some (BitVec.ofNat 7 h.val), BitVec.ofNat 19 g, none⟩
          | .directed .verify h g => ⟨2, some (BitVec.ofNat 7 h.val), BitVec.ofNat 19 g, none⟩) ∧
        (r.messages = t.builder.slate.messages.map fun
          | .assign x h => ⟨0, .assign x (BitVec.ofNat 7 h.val)⟩
          | .setDelay h delay => ⟨1, .setDelay (BitVec.ofNat 7 h.val) (BitVec.ofNat 21 delay)⟩
          | .retune old target new => ⟨2, .retune (BitVec.ofNat 7 old.val) target (BitVec.ofNat 7 new.val)⟩
          | .drop named reason =>
            let name : NamedBy := match named with
              | .byHandle h => .handle (BitVec.ofNat 7 h.val)
              | .byIdentity x => .identity x
            let code : Nat := match reason with
              | .host => 0
              | .barred => 1
              | .ranging => 2
              | .retention => 3
              | .peer => 4
            ⟨3, .drop name code⟩
          | .tune x landing => ⟨4, .tune x landing⟩) ∧
        (r.reservations = t.builder.slate.reservations.map fun x =>
          let coded : Nat × Option TagItem := match x.kind with
            | .ownDiscovery => (0, none)
            | .peerQuiet p => (1, some (.channel p))
            | .range h => (2, some (.handle (BitVec.ofNat 7 h.val)))
            | .verify h => (3, some (.handle (BitVec.ofNat 7 h.val)))
          ⟨coded.1, x.first.cycle, BitVec.ofNat 19 x.first.offset, x.last.cycle, BitVec.ofNat 19 x.last.offset, coded.2⟩) ∧
        ∀ h : Handle, r.grantable.getLsbD h.val = decide (h ∈ t.builder.slate.grantable)

/-- A strobe in INIT or ALIGNING hands over an empty slate with the tree cycle number as it stands, and takes nothing from the
backlog, the calendar or the reservations (R176). -/
def Obligations.EmptySlateOutsideRunning : Prop :=
  ∀ s : State, s.host.held = false → QuietLaw s →
    (s.host.part = .init ∨ s.host.part = .aligning) → ∀ epoch : Bool, (s.host.part = .aligning → epoch = false) →
    ∃ t, exec (.cycleStrobe epoch .whole) s = .next t ∧ t.builder.slate = ⟨s.time.treeCycle, [], [], [], []⟩ ∧
      t.builder.backlog = s.builder.backlog ∧ t.builder.reservations = s.builder.reservations ∧
      t.sched = s.sched ∧ t.classifier = s.classifier ∧ t.handed = s.handed

/-- The announcement, in R63's order: the start is the first cycle at or after now + lead that is clear of directed spans, and its grant
cycle is at most now + 16. The gate holds with DISCOVERY not suspended, every configured lane UP or ABSENT, and fewer than 120 outbound
notices (R61); `m`, the grant lead `k` and the window length `w` are R62's. Discovery due without a window stays due, and nothing is
announced, while the gate does not hold (R61, R74); and, the gate holding, at a strobe where no start clear of directed spans gives a
grant cycle at or before now + 16 (R63). With nothing due the strobe only removes the spans whose end lies two cycles back or more (R56,
R77). That a part of a strobe may be commanded alone is the model's choice (log entry 5). -/
def Obligations.WindowAnnouncement : Prop :=
  (∀ (epoch : Bool) (o : Nat) (s : State), running s = true → ConfigWithin s.host.config → s.time.owesScheduler = true →
    s.sched.window = none → s.sched.due = true → s.sched.dueDeadline = none → s.sched.placements = [] →
    (∀ x ∈ s.sched.spans, cycleDiff s.time.treeCycle x.last.cycle < 2) →
    Hold.discovery ∉ s.sched.stack →
    (∀ l : LaneNo, laneConfigured s.host l = true → s.link.lanes[l].state = .up ∨ s.link.lanes[l].state = .absent) →
    s.link.outbound.length < 120 →
    let c := s.host.config
    let m := 40000 + c.minLoopDelay
    let k := m / 312500
    let w := (m % 312500 + (c.maxLoopDelay - c.minLoopDelay) + 12032 + 320 + 64) / 312500 + 1
    let window := fun j : Nat =>
      let first := s.time.treeCycle + BitVec.ofNat 16 j
      (⟨.ownDiscovery, ⟨first, 0⟩, ⟨first + BitVec.ofNat 16 w - 1, 312499⟩⟩ : Span)
    let clear := fun j : Nat => ∀ x ∈ s.sched.spans, x.isDirected = true → x.overlaps (window j) = false
    c.lead ≤ o → clear o → (∀ j, c.lead ≤ j → j < o → ¬ clear j) → o ≤ 16 + k →
    let first := s.time.treeCycle + BitVec.ofNat 16 o
    let own := window o
    let g := first - BitVec.ofNat 16 k
    ∃ t, exec (.cycleStrobe epoch .scheduler) s = .next t ∧
      t.link.outbound = s.link.outbound ++ [.quiet first (BitVec.ofNat 4 w)] ∧
      t.sched.spans = insertSpan own s.sched.spans ∧ t.builder.reservations = s.builder.reservations ++ [own] ∧
      t.sched.calendar = s.sched.calendar ++ [.discover g s.host.config.trainingPattern] ∧
      t.sched.window = some
        { stage := .announced, grantCycle := g, first := first, last := first + BitVec.ofNat 16 w - 1, bursts := 0,
          activity := false, startDeadline := ahead s o, closeDeadline := ahead s (o + w + 1) } ∧
      t.sched.due = false ∧ t.host = s.host.bump .discoveryWindows ∧ t.table = s.table) ∧
  (∀ (epoch : Bool) (s : State), running s = true → s.time.owesScheduler = true → s.sched.window = none →
    s.sched.due = true → s.sched.placements = [] →
    (Hold.discovery ∈ s.sched.stack ∨
      (∃ l : LaneNo, laneConfigured s.host l = true ∧ s.link.lanes[l].state ≠ .up ∧ s.link.lanes[l].state ≠ .absent) ∨
      120 ≤ s.link.outbound.length) →
    ∃ t, exec (.cycleStrobe epoch .scheduler) s = .next t ∧ t.sched.window = none ∧ t.sched.due = true ∧ t.link = s.link ∧
      t.builder = s.builder ∧ t.host = s.host) ∧
  (∀ (epoch : Bool) (s : State), running s = true → s.time.owesScheduler = true → s.sched.window = none →
    s.sched.due = true → s.sched.dueDeadline = none → s.sched.placements = [] → Hold.discovery ∉ s.sched.stack →
    (∀ l : LaneNo, laneConfigured s.host l = true → s.link.lanes[l].state = .up ∨ s.link.lanes[l].state = .absent) →
    s.link.outbound.length < 120 →
    (∀ x ∈ s.sched.spans, cycleDiff s.time.treeCycle x.last.cycle < 2) →
    let c := s.host.config
    let m := 40000 + c.minLoopDelay
    let w := (m % 312500 + (c.maxLoopDelay - c.minLoopDelay) + 12032 + 320 + 64) / 312500 + 1
    let window := fun j : Nat =>
      let first := s.time.treeCycle + BitVec.ofNat 16 j
      (⟨.ownDiscovery, ⟨first, 0⟩, ⟨first + BitVec.ofNat 16 w - 1, 312499⟩⟩ : Span)
    (∀ o, c.lead ≤ o → o ≤ 16 + m / 312500 → ∃ x ∈ s.sched.spans, x.isDirected = true ∧ x.overlaps (window o) = true) →
    exec (.cycleStrobe epoch .scheduler) s = .next { s with time := { s.time with owesScheduler := false } }) ∧
  ∀ (epoch : Bool) (s : State), running s = true → s.time.owesScheduler = true → s.sched.window = none →
    s.sched.due = false → s.sched.dueDeadline = none → s.sched.placements = [] →
    exec (.cycleStrobe epoch .scheduler) s = .next
      { s with
        time := { s.time with owesScheduler := false }
        sched :=
          { s.sched with spans := s.sched.spans.filter fun x => cycleDiff s.time.treeCycle x.last.cycle < 2 } }

/-- A request made between strobes (R70): left out where its record has one waiting; appended untried to a queue that is not empty; else
tried at once, and appended where nothing fits. A try takes the first cycle from now + 2 to now + 16, and in it the first offset in
steps of 1,024, at which the calendar holds fewer than 8 directed grants for the cycle, the list fewer than 32 directed spans, and no
listed span overlaps the grant's (R71): the grant joins the calendar, its span the list and the reservations, and the requester is told,
by a hand-off for RANGE (R100) and by a retry deadline at now + 4 for VERIFY (R160), the RANGE placements that wait being taken before a
VERIFY one, in the order served (R72). At each strobe the waiting requests are tried, oldest first, after the announcement: one that is
placed leaves the queue, one that fails keeps its place and the next is tried (R72, R77); trying one alone is meeting it with an
otherwise empty queue. Positions are normalised into cycles of 312,500 and compared by the signed difference of their cycle numbers, and
spans overlap and contain with their ends included (R1, R57). That a part of a strobe may be commanded alone is the model's choice (log
entry 5). -/
def Obligations.Placement : Prop :=
  (∀ (c : TreeCycle) (offset : Int) (p q : Pos) (a b : Span),
    Pos.ofOffset c offset = ⟨c + BitVec.ofInt 16 (offset / 312500), (offset % 312500).toNat⟩ ∧
    (p.le q = true ↔ (p.cycle - q.cycle).toInt * 312500 + ((p.offset : Int) - q.offset) ≤ 0) ∧
    (a.overlaps b = true ↔ a.first.le b.last = true ∧ b.first.le a.last = true) ∧
    (a.contains p = true ↔ a.first.le p = true ∧ p.le a.last = true) ∧
    (a.isDirected = true ↔ ∃ h, a.kind = .range h ∨ a.kind = .verify h)) ∧
  (∀ (q : Request) (s : State), s.time.owesScheduler = false →
    let queued := { s with sched := { s.sched with placements := s.sched.placements ++ [q] } }
    let span := fun (r : TreeCycle) (g : Nat) =>
      match q.wanted with
      | .range e =>
        (⟨.range q.handle, Pos.ofOffset r ((g : Int) + 40000 + e - 128), Pos.ofOffset r ((g : Int) + 40000 + e + 448)⟩ : Span)
      | .verify =>
        ⟨.verify q.handle, Pos.ofOffset r ((g : Int) + s.host.config.treeLoopTime - 64),
          Pos.ofOffset r ((g : Int) + s.host.config.treeLoopTime + 384)⟩
    let cycle := fun i : Nat => s.time.treeCycle + BitVec.ofNat 16 (2 + i)
    let fits := fun i j : Nat =>
      (directedIn (cycle i) s.sched.calendar).length < 8 ∧ (s.sched.spans.filter Span.isDirected).length < 32 ∧
        ∀ x ∈ s.sched.spans, (span (cycle i) (1024 * j)).overlaps x = false
    ((∃ r ∈ s.sched.placements, r.handle = q.handle) → request q s = s) ∧
    ((∀ r ∈ s.sched.placements, r.handle ≠ q.handle) → s.sched.placements ≠ [] → request q s = queued) ∧
    (s.sched.placements = [] → (∀ i j, i < 15 → j < 306 → ¬ fits i j) → request q s = queued) ∧
    ∀ i j, s.sched.placements = [] → i < 15 → j < 306 → fits i j →
      (∀ a b, a < 15 → b < 306 → (a < i ∨ (a = i ∧ b < j)) → ¬ fits a b) →
      let placed := fun kind : DirectedKind =>
        { s with
          sched :=
            { s.sched with
              spans := insertSpan (span (cycle i) (1024 * j)) s.sched.spans
              calendar := s.sched.calendar ++
                [.directed ⟨kind, q.handle, q.identity, cycle i, 1024 * j, span (cycle i) (1024 * j)⟩] }
          builder := { s.builder with reservations := s.builder.reservations ++ [span (cycle i) (1024 * j)] } }
      (∀ e, q.wanted = .range e →
        request q s = hand (.placed q.handle q.identity (cycle i) (1024 * j)) (placed .range)) ∧
      (q.wanted = .verify → (∀ h x c o, Handoff.placed h x c o ∉ s.handed) →
        (∀ delay peer d retry, recordAt s q.handle = .arriving q.identity delay peer d retry → request q s =
          setRecord q.handle (.arriving q.identity delay peer d (some (ahead s 4))) (placed .verify)) ∧
        ((∀ delay peer d retry, recordAt s q.handle ≠ .arriving q.identity delay peer d retry) →
          request q s = placed .verify))) ∧
  (∀ (q : Request) (h : Handle) (x : Identity) (c : TreeCycle) (o : Nat) (before after : List Handoff) (s t : State),
    running s = true → s.time.owesScheduler = false → q.wanted = .verify → s.sched.placements = [] →
    (request q s).sched.placements = [] → s.handed = before ++ .placed h x c o :: after →
    (∀ g y d a, Handoff.placed g y d a ∉ before) → exec (.attemptPlaced h) s = .next t → request q s = request q t) ∧
  (∀ (epoch : Bool) (s : State), running s = true → s.time.owesScheduler = true → s.sched.window = none →
    s.sched.due = false → s.sched.dueDeadline = none →
    (∀ x ∈ s.sched.spans, cycleDiff s.time.treeCycle x.last.cycle < 2) →
    exec (.cycleStrobe epoch .scheduler) s = .next
      (s.sched.placements.foldl retryRequest { s with time := { s.time with owesScheduler := false } })) ∧
  ∀ (q : Request) (s : State), s.time.owesScheduler = false →
    let alone := { s with sched := { s.sched with placements := [] } }
    let others := s.sched.placements.filter fun r => r.handle != q.handle
    ((request q alone).sched.placements = [q] → retryRequest s q = s) ∧
    ((request q alone).sched.placements = [] → retryRequest s q =
      { request q alone with sched := { (request q alone).sched with placements := others } })

/-! ### The shared actions -/

/-- The actions that many rows share. An event handed to the host port is masked, queued as the newest, or dropped at 64 with its count
and OVERRUN (R184); the counting of R186; a notice meets the outbound queue (R129), and a message the backlog (R170). A freed record:
the handle is FREE, its waiting request is withdrawn, the slot of a withdrawn RANGE request is IDLE, and nothing else changes (R21, R70,
R101). An added span stands in the list after those that start at its start or earlier and before the rest, so that a list ordered by
start stays so (the starts within half the cycle range of one another), and joins the pending reservations (R55, R173). A search of the
table by identity finds the one record that holds it, and an allocation takes the lowest FREE handle (R18, R20). -/
def Obligations.SharedActions : Prop :=
  ((∀ (cycle : TreeCycle) (e : Event) (hp : HostPort),
    (e.masked hp.config = true → hp.raise cycle e = hp) ∧
    (e.masked hp.config = false → hp.events.length < 64 →
      hp.raise cycle e = { hp with events := hp.events ++ [⟨cycle, e⟩] }) ∧
    (e.masked hp.config = false → 64 ≤ hp.events.length →
      hp.raise cycle e = { (hp.bump .eventsLost) with attention := { hp.attention with overrun := true } })) ∧
  (∀ (c : Counter) (hp : HostPort),
    (hp.bump c).counters[c.index].toNat = min 65535 (hp.counters[c.index].toNat + 1) ∧
    (∀ d : Counter, d ≠ c → (hp.bump c).counters[d.index] = hp.counters[d.index]) ∧
    hp.bump c = { hp with counters := (hp.bump c).counters }) ∧
  ∀ (n : Notice) (m : Message) (tag : Option Identity) (s : State),
    (s.link.outbound.length < 128 →
      queueNotice n s = { s with link := { s.link with outbound := s.link.outbound ++ [n] } }) ∧
    (128 ≤ s.link.outbound.length → queueNotice n s =
      { s with host := { (s.host.bump .noticeOverruns) with attention := { s.host.attention with overrun := true } } }) ∧
    (s.builder.backlog.length < 256 →
      queueMessage m tag s = { s with builder := { s.builder with backlog := s.builder.backlog ++ [⟨m, tag⟩] } }) ∧
    (256 ≤ s.builder.backlog.length → queueMessage m tag s =
      { s with host := { (s.host.bump .messageOverruns) with attention := { s.host.attention with overrun := true } } })) ∧
  ((∀ (x : Span) (s : State),
    let earlier := fun y : Span => decide
      ((y.first.cycle - x.first.cycle).toInt * 312500 + ((y.first.offset : Int) - x.first.offset) ≤ 0)
    addSpan x s =
      { s with
        sched := { s.sched with spans := s.sched.spans.takeWhile earlier ++ x :: s.sched.spans.dropWhile earlier }
        builder := { s.builder with reservations := s.builder.reservations ++ [x] } } ∧
    insertSpan x s.sched.spans = (addSpan x s).sched.spans) ∧
  ∀ (x : Span) (c : TreeCycle) (l : List Span),
    (∀ y ∈ x :: l, 0 ≤ (y.first.cycle - c).toInt ∧ (y.first.cycle - c).toInt < 16384) →
    (l.Pairwise fun a b => a.first.le b.first = true) →
    (insertSpan x l).Pairwise fun a b => a.first.le b.first = true) ∧
  (∀ (h : Handle) (s : State),
    recordAt (freeRecord h s) h = .free ∧ (∀ g, g ≠ h → recordAt (freeRecord h s) g = recordAt s g) ∧
    (freeRecord h s).sched.placements = s.sched.placements.filter (fun r => r.handle != h) ∧
    slotAt (freeRecord h s) h =
      (if s.sched.placements.any (fun r => r.handle == h && r.isRange) then .idle else slotAt s h) ∧
    (∀ g, g ≠ h → slotAt (freeRecord h s) g = slotAt s g) ∧
    freeRecord h s =
      { s with
        table := (freeRecord h s).table, slots := (freeRecord h s).slots, sched := (freeRecord h s).sched } ∧
    (freeRecord h s).table.barred = s.table.barred ∧ (freeRecord h s).table.contested = s.table.contested ∧
    (freeRecord h s).sched = { s.sched with placements := (freeRecord h s).sched.placements } ∧
    freeRecord h s = setRecord h .free (withdrawRequest h s) ∧ (withdrawRequest h s).table = s.table) ∧
  ∀ s : State,
    (IdentitiesOnce s → ∀ (x : Identity) (h : Handle), holder s x = some h ↔ (recordAt s h).identity? = some x) ∧
    (∀ x : Identity, holder s x = none ↔ ∀ h, (recordAt s h).identity? ≠ some x) ∧
    (∀ x : Identity, contestedEntry s x = s.table.contested.find? fun c => c.identity == x) ∧
    (∀ h : Handle, lowestFree s = some h ↔ recordAt s h = .free ∧ ∀ g, g < h → recordAt s g ≠ .free) ∧
    (lowestFree s = none ↔ ∀ h, recordAt s h ≠ .free)

/-- A record enters re-ranging (R36, R44): the fields it takes, WITHDRAW from OFFERING, ASSIGN, RERANGE; and, where the backlog refuses
the ASSIGN, RANGING-FAILED and LOST. -/
def Obligations.EnteringReranging : Prop :=
  (∀ e : Hearing, (RerangeCause.heard e).heardAt = some ⟨e.heardCycle, e.coarse⟩ ∧
    (RerangeCause.heard e).detail = .heard e.attemptCount) ∧
  (RerangeCause.misaligned.heardAt = none ∧ RerangeCause.misaligned.detail = .misaligned ∧
    RerangeCause.host.heardAt = none ∧ RerangeCause.host.detail = .host) ∧
  ∀ (h : Handle) (x : Identity) (delay : Nat) (lastGood : LocalCount) (cause : RerangeCause) (first : State → State)
    (s : State),
    ((∃ t, recordAt s h = .active x t ∧ t.launchDelay = delay ∧ t.lastGood = lastGood ∧ first = id) ∨
      (∃ t peer d, recordAt s h = .offering x t peer d ∧ t.launchDelay = delay ∧ t.lastGood = lastGood ∧
        first = queueNotice (.withdraw x peer)) ∨
      (∃ d, recordAt s h = .lost x delay lastGood d ∧ first = id) ∨
      (∃ peer d retry, recordAt s h = .arriving x delay peer d retry ∧ lastGood = s.time.localCount ∧ first = id)) →
    let fields : RangingFields :=
      { heard := cause.heardAt, origin := .rerange, stage := .awaitAssign, samples := [], attempts := 0,
        launchDelay := some delay, lastGood := some lastGood }
    let t := raise (.rerange h x cause.detail) (queueMessage (.assign x h) none
      (first (setRecord h (.ranging x fields) (withdrawRequest h s))))
    (s.builder.backlog.length < 256 → enterReranging h cause s = t) ∧
    (256 ≤ s.builder.backlog.length → enterReranging h cause s =
      raise (.rangingFailed h x .notQueued)
        (setRecord h (.lost x delay lastGood (ahead s s.host.config.retention)) (withdrawRequest h t)))

/-! ### Deadlines -/

/-- A deadline set k cycles ahead is now + k, and is reached when (local count − deadline) modulo 2^32 is below 2^31 (R7). The deadlines
of a record: settle, with its ASSIGN and an ASSIGN refused (R37, R44), offer, handover at both ends, retention and VERIFY retry (R162,
R163, R166, R49, R160). A deadline not reached, or of another record state, does nothing. -/
def Obligations.RecordDeadlines : Prop :=
  (∀ (s : State) (d : LocalCount) (k : Nat), ahead s k = s.time.localCount + BitVec.ofNat 32 k ∧
    (due s d = true ↔ (s.time.localCount - d).toNat < 2 ^ 31)) ∧
  (∀ (h : Handle) (s : State), running s = true →
    (∀ x heard d, recordAt s h = .pending x heard d → due s d = true →
      let fields : RangingFields :=
        { heard := some heard, origin := .fresh, stage := .awaitAssign, samples := [], attempts := 0, launchDelay := none,
          lastGood := none }
      let t := queueMessage (.assign x h) none (setRecord h (.ranging x fields) s)
      (s.builder.backlog.length < 256 → exec (.settleDeadline h) s = .next t) ∧
      (256 ≤ s.builder.backlog.length → exec (.settleDeadline h) s = .next
        (raise (.rangingFailed h x .notQueued)
          (freeRecord h (queueNotice (.release x) (queueMessage (.drop (.byIdentity x) .ranging) none t)))))) ∧
    ((∀ x heard d, recordAt s h = .pending x heard d → due s d = false) → exec (.settleDeadline h) s = .next s)) ∧
  ∀ (h : Handle) (s : State), running s = true →
    (∀ x t peer d, recordAt s h = .offering x t peer d → due s d = true → exec (.offerDeadline h) s = .next
      (raise (.handoverDeclined h x peer .noAnswer) (setRecord h (.active x t) s))) ∧
    (∀ x delay peer g d, recordAt s h = .leaving x delay peer g d → due s d = true →
      exec (.handoverDeadlineSource h) s = .next (raise (.handoverLapsed h x .source peer .deadline)
        (setRecord h (.lost x delay s.time.localCount (ahead s s.host.config.retention)) s))) ∧
    (∀ x delay peer d retry, recordAt s h = .arriving x delay peer d retry → due s d = true →
      exec (.handoverDeadlineTarget h) s = .next (raise (.handoverLapsed h x .target peer .deadline)
        (queueNotice (.lapsed x peer) (freeRecord h s)))) ∧
    ((∀ x t peer d, recordAt s h = .offering x t peer d → due s d = false) → exec (.offerDeadline h) s = .next s) ∧
    ((∀ x delay peer g d, recordAt s h = .leaving x delay peer g d → due s d = false) →
      exec (.handoverDeadlineSource h) s = .next s) ∧
    ((∀ x delay peer d retry, recordAt s h = .arriving x delay peer d retry → due s d = false) →
      exec (.handoverDeadlineTarget h) s = .next s) ∧
    (∀ x delay lastGood d, recordAt s h = .lost x delay lastGood d → due s d = true →
      exec (.retentionDeadline h) s = .next (raise (.released h x .retention)
        (freeRecord h (queueNotice (.release x) (queueMessage (.drop (.byHandle h) .retention) none s))))) ∧
    ((∀ x delay lastGood d, recordAt s h = .lost x delay lastGood d → due s d = false) →
      exec (.retentionDeadline h) s = .next s) ∧
    (∀ x delay peer d r, recordAt s h = .arriving x delay peer d (some r) → due s r = true →
      exec (.verifyRetryDeadline h) s = .next
        (request ⟨.verify, h, x⟩ (setRecord h (.arriving x delay peer d none) s))) ∧
    ((∀ x delay peer d r, recordAt s h = .arriving x delay peer d (some r) → due s r = false) →
      exec (.verifyRetryDeadline h) s = .next s)

/-- The window scheduler's deadlines (R58, R64, R65). Where the scheduler's part of the strobe is still to come, the passed spans are
removed before each of them (R56, R77; log entry 6). -/
def Obligations.SchedulerDeadlines : Prop :=
  ∀ s : State, running s = true →
    let passed := fun x : Span => s.time.owesScheduler && decide (2 ≤ cycleDiff s.time.treeCycle x.last.cycle)
    let left := { s.sched with spans := s.sched.spans.filter fun x => !passed x }
    (∀ d, s.sched.dueDeadline = some d → due s d = true → exec .discoveryDueDeadline s = .next
      { s with sched := { left with due := true, dueDeadline := none } }) ∧
    ((∀ d, s.sched.dueDeadline = some d → due s d = false) → exec .discoveryDueDeadline s = .next s) ∧
    (∀ w, s.sched.window = some w → w.stage = .announced → due s w.startDeadline = true →
      exec .windowStartDeadline s = .next { s with sched := { left with window := some { w with stage := .opened } } }) ∧
    ((∀ w, s.sched.window = some w → w.stage = .announced → due s w.startDeadline = false) →
      exec .windowStartDeadline s = .next s) ∧
    (∀ w, s.sched.window = some w → w.stage = .opened → due s w.closeDeadline = true →
      exec .windowCloseDeadline s = .next (raise (.windowClosed w.bursts)
        { s with sched :=
          { left with
            window := none, lastClosed := some w.grantCycle
            dueDeadline :=
              some (ahead s (if w.activity then s.host.config.fastPeriod else s.host.config.discoveryPeriod)) } })) ∧
    ((∀ w, s.sched.window = some w → w.stage = .opened → due s w.closeDeadline = false) →
      exec .windowCloseDeadline s = .next s)

/-- A contested entry goes at its expiry, at a RELEASE of its identity, or at a HANDOFF of it to this part, which is then handled as for
an identity not contested; the entries after it keep their order, and nothing else follows from the removal (R25). A RELEASE
changes nothing but the contested list (R151). -/
def Obligations.ContestedEntryRemoval : Prop :=
  ∀ (x : Identity) (s : State), running s = true →
    let cleared := { s with table := { s.table with contested := s.table.contested.filter fun c => c.identity != x } }
    (∀ c, contestedEntry s x = some c → due s c.expiry = true → exec (.contestedExpiry x) s = .next cleared) ∧
    ((∀ c, contestedEntry s x = some c → due s c.expiry = false) → exec (.contestedExpiry x) s = .next s) ∧
    (∀ p, olderNotices p (.release x) s = [] →
      exec (.release p x) s = .next { cleared with handed := s.handed.erase (.notice p (.release x)) }) ∧
    (∀ p delay, olderNotices p (.handoff x s.host.ownChannel delay) s = [] → ∃ t, exec (.handoff p x s.host.ownChannel delay) s = .next t ∧
      t.table.contested = cleared.table.contested ∧
      exec (.handoff p x s.host.ownChannel delay) cleared = .next t) ∧
    ((∀ c ∈ s.table.contested, c.identity ≠ x) → cleared = s)

/-- The silence and absence of a configured lane (R134, R138, R139, R140); the premise is the invariant that only an UP lane holds a
notice in assembly. After 320 word times without a strobe the running flag of the FILLs is clear, until a strobe is taken (R131). That a
SILENT lane's runs, good-word count and silence timer are 0 is the model's choice (log entry 32). That the row of a time-out acts
whatever the word times counted is the model's reading (log entry 9). -/
def Obligations.LinkTimeouts : Prop :=
  (∀ s : State, running s = true →
    exec .runningFlagTimeout s = .next { s with link := { s.link with strobeWords := 320 } } ∧
    ∀ t, exec .runningFlagTimeout s = .next t → (ownFill t).info.running = false ∧
      ∀ (epoch : Bool) (u : State), exec (.cycleStrobe epoch .counts) t = .next u → (ownFill u).info.running = true) ∧
  ∀ (l : LaneNo) (s : State), running s = true → laneConfigured s.host l = true → LinkLaws s →
    let v := laneAt s l
    let ch := laneChannel s.host.ownChannel l
    (v.state ≠ .silent → v.state ≠ .absent → exec (.laneSilenceTimeout l) s = .next
      (raise (.laneChange ch v.state .silent)
        (setLane l
          { v with
            state := .silent, absence := some (ahead s s.host.config.absenceTime), expected := none, badRun := false,
            fillRun := 0, goodCount := 0, silence := 0, assembly := none }
          (if v.assembly.isSome then bump .noticesDiscarded s else s)))) ∧
    (v.state = .silent ∨ v.state = .absent → exec (.laneSilenceTimeout l) s = .next s) ∧
    (∀ d, v.state = .silent → v.absence = some d → due s d = true → exec (.laneAbsenceDeadline l) s = .next
      (raise (.laneChange ch .silent .absent) (setLane l { v with state := .absent, absence := none } s))) ∧
    ((v.state = .silent → ∀ d, v.absence = some d → due s d = false) → exec (.laneAbsenceDeadline l) s = .next s)

/-- The expiry of an issued grant is a NO-BURST report of it: the entry leaves, a RANGE result goes to the ranging unit, a missing burst
of a tracked record to the delay tracker (R82, R90, R92). It has come when the last cycle of the entry's span lies two cycles back or
more, the strobe at which the span is removed (R56, log entry 17). -/
def Obligations.IssuedGrantExpiries : Prop :=
  ∀ (k : DirectedKind) (h : Handle) (r : TreeCycle) (s : State), running s = true →
    let sel := fun e : DirectedGrant =>
      (e.kind == k && e.handle == h && e.cycle == r) && decide (2 ≤ (s.time.treeCycle - e.span.last.cycle).toInt)
    let gone := { s with classifier := { s.classifier with issued := s.classifier.issued.eraseP sel } }
    (∀ e, s.classifier.issued.find? sel = some e →
      (k = .range → exec (.issuedGrantExpiry k h r) s = .next
        { gone with handed := s.handed ++ [.rangeResult ⟨h, e.identity, r, e.offset, .noSample .noBurst⟩] }) ∧
      (k = .verify → (∃ f, recordAt s h = .active e.identity f) → exec (.issuedGrantExpiry k h r) s = .next
        { gone with handed := s.handed ++ [.trackerInput ⟨h, e.identity, .active, .missing r⟩] }) ∧
      (k = .verify → (∃ f p d, recordAt s h = .offering e.identity f p d) → exec (.issuedGrantExpiry k h r) s = .next
        { gone with handed := s.handed ++ [.trackerInput ⟨h, e.identity, .offering, .missing r⟩] }) ∧
      (k = .verify → (∀ f, recordAt s h ≠ .active e.identity f) → (∀ f p d, recordAt s h ≠ .offering e.identity f p d) →
        exec (.issuedGrantExpiry k h r) s = .next gone)) ∧
    (s.classifier.issued.find? sel = none → exec (.issuedGrantExpiry k h r) s = .next s)

/-! ### The peer lanes -/

/-- One word time of the transmitter: the next word of a notice partly sent; else a FILL, where nothing waits or 16 words have gone
since the last; else the HEAD of the oldest notice, which leaves the queue (R130, R127, R131). The hearing mask has the bit of exactly
the channels whose inbound lane is HEARD or UP; own channel's bit is clear (R127, R132). The digest is the XOR of the six nibbles of the
tree loop time, the lead and the channel count (R128). That this row counts the word times since the last strobe is the model's reading
(log entry 9). -/
def Obligations.TransmitterChoosesTheWord : Prop :=
  (∀ s : State,
    (∀ l : LaneNo, (ownFill s).info.mask.getLsbD (laneChannel s.host.ownChannel l).val =
      (s.link.lanes[l].state == .heard || s.link.lanes[l].state == .up)) ∧
    (ownFill s).info.mask.getLsbD s.host.ownChannel.val = false) ∧
  (∀ c : Configuration,
    let nibble := fun i : Nat => BitVec.ofNat 4 (c.treeLoopTime / 16 ^ i)
    digest c = nibble 5 ^^^ nibble 4 ^^^ nibble 3 ^^^ nibble 2 ^^^ nibble 1 ^^^ nibble 0 ^^^ BitVec.ofNat 4 c.lead ^^^
      BitVec.ofNat 4 c.channelCount) ∧
  ∀ s : State, running s = true →
    let words := min 320 (s.link.strobeWords + 1)
    (∀ w rest, s.link.sending = w :: rest → exec .transmitWordTime s = .next
      { s with link :=
        { s.link with
          laneOut := some (makeWord w s.link.nextAlt), nextAlt := !s.link.nextAlt, sending := rest,
          sinceFill := s.link.sinceFill + 1, strobeWords := words } }) ∧
    (s.link.sending = [] → (s.link.outbound = [] ∨ 16 ≤ s.link.sinceFill) → exec .transmitWordTime s = .next
      { s with link :=
        { s.link with
          laneOut := some (makeWord
            (fillTyped
              { sender := s.host.ownChannel
                info :=
                  { mask := hearingMask s.host.ownChannel s.link.lanes, digest := digest s.host.config
                    running := decide (words < 320) }
                cycle := s.time.treeCycle }) s.link.nextAlt)
          nextAlt := !s.link.nextAlt, sinceFill := 0, strobeWords := words } }) ∧
    (∀ n queue head bodies, s.link.sending = [] → s.link.sinceFill < 16 → s.link.outbound = n :: queue →
      n.words = head :: bodies → exec .transmitWordTime s = .next
        { s with link :=
          { s.link with
            laneOut := some (makeWord head s.link.nextAlt), nextAlt := !s.link.nextAlt, sending := bodies,
            outbound := queue, sinceFill := s.link.sinceFill + 1, strobeWords := words } })

/-- The word test of a configured receiver (R126): what makes a word bad, the bad-word counter, and the expected alternation, which
stands short of the 64th word time without a good word; the other receivers stand. Lane i is wired to the peer of channel (own channel +
i + 1) modulo 4, and configured when that is below the channel count; an unused receiver takes no words (R132). -/
def Obligations.LaneWordTest : Prop :=
  ∀ (l : LaneNo) (w : LaneWord) (s : State), running s = true →
    (laneChannel s.host.ownChannel l).val = (s.host.ownChannel.val + l.val + 1) % 4 ∧
    (laneConfigured s.host l = true ↔ (s.host.ownChannel.val + l.val + 1) % 4 < s.host.config.channelCount) ∧
    (laneConfigured s.host l = false → exec (.laneWord l w) s = .next s) ∧
    (laneConfigured s.host l = true →
      let v := laneAt s l
      let f := fillFields (wordPayload w)
      let bad : Prop := evenParity w = false ∨ (∃ b, v.expected = some b ∧ wordAlternation w ≠ b) ∨ wordType w = none ∨
        (wordType w = some .fill ∧ f.sender ≠ laneChannel s.host.ownChannel l) ∨
        (wordType w = some .fill ∧ f.cycle ≠ s.time.treeCycle ∧ f.cycle ≠ s.time.treeCycle - 1)
      (goodWord s l w = true ↔ ¬ bad) ∧ ∃ t, exec (.laneWord l w) s = .next t ∧
        (bad → t.host.counters[(Counter.badWords l).index] = countUp s.host.counters[(Counter.badWords l).index]) ∧
        (¬ bad → t.host.counters[(Counter.badWords l).index] = s.host.counters[(Counter.badWords l).index]) ∧
        (v.silence + 1 < 64 → (laneAt t l).expected =
          (if evenParity w then some (!wordAlternation w) else v.expected.map (!·))) ∧
        ∀ k : LaneNo, k ≠ l → laneAt t k = laneAt s k)

/-- Lane changes on good words: SILENT or ABSENT to SEEKING; the second good FILL to HEARD; the second FILL in a row that passes the UP
test to UP; the second that fails it out of UP to HEARD; the 128th good word in HOLD to SEEKING (R134 to R137). Each change raises
LANE-CHANGE with the lane's channel, the state left and the state entered (R139). A good HEAD or BODY leaves a SEEKING, HEARD or UP lane
in its state and its FILL run as it stood. Every good word ends the bad-word run and restarts the silence timer (R137, R138), and a
FILL's mask, digest and running flag are kept as those of the last good FILL, which other words leave (R127). The premise on the
assembly is the invariant that only an UP lane holds one. -/
def Obligations.LaneChangesOnGoodWords : Prop :=
  ∀ (l : LaneNo) (w : LaneWord) (s : State), running s = true → laneConfigured s.host l = true → goodWord s l w = true →
    let v := laneAt s l
    let f := (fillFields (wordPayload w)).info
    let passes := f.mask.getLsbD s.host.ownChannel.val && f.digest == digest s.host.config && f.running
    ∃ t, exec (.laneWord l w) s = .next t ∧
      (laneAt t l).badRun = false ∧ (laneAt t l).silence = 0 ∧
      (wordType w = some .fill → (laneAt t l).lastFill = some f) ∧
      (wordType w ≠ some .fill → (laneAt t l).lastFill = v.lastFill) ∧
      ((v.state = .silent ∨ v.state = .absent) →
        (laneAt t l).state = .seeking ∧ (laneAt t l).fillRun = 0 ∧ (laneAt t l).absence = none) ∧
      (v.state = .seeking → wordType w = some .fill →
        (v.fillRun = 0 → (laneAt t l).state = .seeking ∧ (laneAt t l).fillRun = 1) ∧
        (v.fillRun ≠ 0 → (laneAt t l).state = .heard ∧ (laneAt t l).fillRun = 0)) ∧
      (v.state = .heard → wordType w = some .fill →
        (passes = false → (laneAt t l).state = .heard ∧ (laneAt t l).fillRun = 0) ∧
        (passes = true → v.fillRun = 0 → (laneAt t l).state = .heard ∧ (laneAt t l).fillRun = 1) ∧
        (passes = true → v.fillRun ≠ 0 → (laneAt t l).state = .up ∧ (laneAt t l).fillRun = 0)) ∧
      (v.state = .up → wordType w = some .fill →
        (passes = true → (laneAt t l).state = .up ∧ (laneAt t l).fillRun = 0) ∧
        (passes = false → v.fillRun = 0 → (laneAt t l).state = .up ∧ (laneAt t l).fillRun = 1) ∧
        (passes = false → v.fillRun ≠ 0 → (laneAt t l).state = .heard ∧ (laneAt t l).fillRun = 0)) ∧
      (v.state = .hold →
        (v.goodCount < 127 → (laneAt t l).state = .hold ∧ (laneAt t l).goodCount = v.goodCount + 1) ∧
        (127 ≤ v.goodCount → (laneAt t l).state = .seeking ∧ (laneAt t l).fillRun = 0)) ∧
      ((v.state = .seeking ∨ v.state = .heard ∨ v.state = .up) → wordType w ≠ some .fill →
        (laneAt t l).state = v.state ∧ (laneAt t l).fillRun = v.fillRun) ∧
      ((v.assembly.isSome = true → v.state = .up) →
        ((laneAt t l).state ≠ v.state → ∃ hp, (hp = s.host ∨ hp = s.host.bump .noticesDiscarded) ∧
          t.host = hp.raise s.time.treeCycle
            (.laneChange (laneChannel s.host.ownChannel l) v.state (laneAt t l).state)) ∧
        ((laneAt t l).state = v.state → v.state ≠ .heard → t.host.events = s.host.events))

/-- Lane changes on bad words, short of the 64th word time: the first of a run leaves SEEKING, HEARD and UP with the FILL run back at 0;
the second moves the lane to HOLD and sets LANE; one in HOLD sets its count back; SILENT and ABSENT stay (R134 to R137). The 64th sends
the lane to SILENT; each before it adds one word time to the silence timer (R138). The first of a run sets the mismatch count back to 0:
in HEARD by R135; in SEEKING and UP, where nothing reads that count, this is the model's choice (log entry 32). The fields of the last
good FILL stand (R127). The word is counted on its lane, a notice in assembly is discarded and counted (R126, R140), and each change
raises LANE-CHANGE with the channel and both states (R139); nothing else reaches the host port. That bad words count the silence timer's
word times is the model's reading (log entry 9). -/
def Obligations.LaneChangesOnBadWords : Prop :=
  ∀ (l : LaneNo) (w : LaneWord) (s : State), running s = true → laneConfigured s.host l = true → goodWord s l w = false →
    let v := laneAt s l
    let change := fun (hp : HostPort) (left entered : LaneState) =>
      hp.raise s.time.treeCycle (.laneChange (laneChannel s.host.ownChannel l) left entered)
    let counted :=
      if v.assembly.isSome then (s.host.bump (.badWords l)).bump .noticesDiscarded else s.host.bump (.badWords l)
    let held := (change counted v.state .hold).attend .lane
    ∃ t, exec (.laneWord l w) s = .next t ∧ (laneAt t l).lastFill = v.lastFill ∧
      (v.silence + 1 < 64 → v.state ≠ .silent → v.state ≠ .absent → (laneAt t l).silence = v.silence + 1) ∧
      ((v.state = .silent ∨ v.state = .absent) → (laneAt t l).state = v.state ∧ t.host = counted) ∧
      (v.state ≠ .silent → v.state ≠ .absent → 64 ≤ v.silence + 1 →
        (laneAt t l).state = .silent ∧ (laneAt t l).absence = some (ahead s s.host.config.absenceTime) ∧
        (v.state = .hold → t.host = change counted .hold .silent) ∧
        (v.state ≠ .hold → v.badRun = false → t.host = change counted v.state .silent) ∧
        (v.state ≠ .hold → v.badRun = true → t.host = change held .hold .silent)) ∧
      (v.silence + 1 < 64 → v.state = .hold →
        (laneAt t l).state = .hold ∧ (laneAt t l).goodCount = 0 ∧ t.host = counted) ∧
      (v.silence + 1 < 64 → (v.state = .seeking ∨ v.state = .heard ∨ v.state = .up) →
        (v.badRun = false →
          (laneAt t l).state = v.state ∧ (laneAt t l).badRun = true ∧ (laneAt t l).fillRun = 0 ∧
          (laneAt t l).mismatchCount = 0 ∧ t.host = counted) ∧
        (v.badRun = true → (laneAt t l).state = .hold ∧ (laneAt t l).goodCount = 0 ∧ t.host = held))

/-- FILLs with a differing digest in HEARD (R135): the first of a run is only counted; the second raises CONFIG-MISMATCH and sets LANE
unless the lane has raised it since it entered HEARD; the third and later, the flag set, raise nothing more; the lane stays HEARD. A FILL
of equal digest sets the count back to 0. Each entry to HEARD, from SEEKING or from UP, begins with the count at 0 and the flag clear. -/
def Obligations.ConfigMismatchRaisedOnce : Prop :=
  ∀ (l : LaneNo) (w : LaneWord) (s : State), running s = true → laneConfigured s.host l = true → goodWord s l w = true →
    wordType w = some .fill → (laneAt s l).assembly = none →
    let own := digest s.host.config
    let f := (fillFields (wordPayload w)).info
    let raised := s.host.raise s.time.treeCycle (.configMismatch (laneChannel s.host.ownChannel l) own f.digest)
    ∃ t, exec (.laneWord l w) s = .next t ∧
      ((laneAt s l).state = .heard → f.digest ≠ own → (laneAt t l).state = .heard ∧
        ((laneAt s l).mismatchCount = 0 → (laneAt t l).mismatchCount = 1 ∧
          (laneAt t l).mismatchRaised = (laneAt s l).mismatchRaised ∧ t.host = s.host) ∧
        ((laneAt s l).mismatchCount = 1 → (laneAt t l).mismatchCount = 2 ∧ (laneAt t l).mismatchRaised = true ∧
          ((laneAt s l).mismatchRaised = false →
            t.host = { raised with attention := { raised.attention with lane := true } }) ∧
          ((laneAt s l).mismatchRaised = true → t.host = s.host)) ∧
        (2 ≤ (laneAt s l).mismatchCount → (laneAt s l).mismatchRaised = true →
          (laneAt t l).mismatchCount = 2 ∧ (laneAt t l).mismatchRaised = true ∧ t.host = s.host)) ∧
      ((laneAt s l).state = .heard → f.digest = own → (laneAt t l).mismatchCount = 0 ∧
        (laneAt t l).mismatchRaised = (laneAt s l).mismatchRaised) ∧
      ((laneAt s l).state ≠ .heard → (laneAt t l).state = .heard →
        (laneAt t l).mismatchCount = 0 ∧ (laneAt t l).mismatchRaised = false)

/-- R190's layout, bit by bit: the word's type, payload, alternation and parity bits, the fields of FILL, HEAD and BODY, the kind codes,
and how each kind's contents are written and read, unused bits sent as 0 and ignored on receipt. The fields of a FILL survive its word;
every word sent has even parity and the alternation bit it was given (R125, R127, R190). The words of every notice spell that notice:
HEAD, then as many BODY words as its body count (R140, R190). A notice whose words come one after another on an UP lane is handed to its
owner with the wired channel as its sender, unless it is addressed to another channel; the lane stays UP, and records and host port
stand (R141). -/
def Obligations.NoticesCrossTheLane : Prop :=
  (∀ (l : LaneNo) (n : Notice) (a : Bool) (s : State), running s = true → laneConfigured s.host l = true →
    (laneAt s l).state = .up → (laneAt s l).assembly = none → (laneAt s l).expected = some a →
    ∃ t, takeAll l (alternating n.words a) s = .next t ∧ (laneAt t l).state = .up ∧ (laneAt t l).assembly = none ∧
      t.host = s.host ∧ t.table = s.table ∧
      t.handed = (if n.addressee = none ∨ n.addressee = some s.host.ownChannel then
        s.handed ++ [.notice (laneChannel s.host.ownChannel l) n] else s.handed)) ∧
  (∀ (f : FillFields) (a : Bool), wordType (makeWord (fillTyped f) a) = some .fill ∧
    fillFields (wordPayload (makeWord (fillTyped f) a)) = f) ∧
  (∀ (typed : BitVec 30) (a : Bool), evenParity (makeWord typed a) = true ∧ wordAlternation (makeWord typed a) = a ∧
    wordPayload (makeWord typed a) = typed.extractLsb' 0 28) ∧
  (∀ w : LaneWord,
    (wordType w = some .fill ↔ w.extractLsb' 30 2 = 0b00#2) ∧ (wordType w = some .head ↔ w.extractLsb' 30 2 = 0b01#2) ∧
    (wordType w = some .body ↔ w.extractLsb' 30 2 = 0b10#2) ∧ (wordType w = none ↔ w.extractLsb' 30 2 = 0b11#2) ∧
    wordPayload w = w.extractLsb' 2 28 ∧ wordAlternation w = w.getLsbD 1 ∧
    (evenParity w = true ↔ ((List.range 32).countP fun i => w.getLsbD i) % 2 = 0)) ∧
  (∀ (typed : BitVec 30) (a : Bool), (makeWord typed a).extractLsb' 2 30 = typed) ∧
  (∀ p : BitVec 28, (fillFields p).sender.val = (p.extractLsb' 26 2).toNat ∧
    (∀ n : Channel, (fillFields p).info.mask.getLsbD n.val = p.getLsbD (22 + n.val)) ∧
    (fillFields p).info.digest = p.extractLsb' 18 4 ∧ (fillFields p).cycle = p.extractLsb' 2 16 ∧
    (fillFields p).info.running = p.getLsbD 1) ∧
  (∀ f : FillFields, (fillTyped f).getLsbD 0 = false) ∧
  (∀ (kind : BitVec 4) (count : BitVec 2) (field : BitVec 22) (p : BitVec 28),
    headTyped kind count field = 0b01#2 ++ kind ++ count ++ field ∧ bodyTyped p = 0b10#2 ++ p ∧
    headOf (kind ++ count ++ field) = ⟨kind, count, field, []⟩) ∧
  (∀ (x : Identity) (n : Channel) (c : TreeCycle) (k : BitVec 4) (delay : BitVec 21) (h : Handle),
    let head := fun (kind : BitVec 4) (count : BitVec 2) => headTyped kind count (x.extractLsb' 26 22)
    let body := fun detail : BitVec 2 => bodyTyped (x.extractLsb' 0 26 ++ detail)
    let d := BitVec.ofNat 2 n.val
    (Notice.claim x c).words = [head 1 2, body 0, bodyTyped (c ++ 0#12)] ∧
    (Notice.object x n).words = [head 2 1, body d] ∧ (Notice.release x).words = [head 3 1, body 0] ∧
    (Notice.quiet c k).words = [headTyped 4 0 (c ++ k ++ 0#2)] ∧ (Notice.cross x n).words = [head 5 1, body d] ∧
    (Notice.handoff x n delay).words = [head 6 2, body d, bodyTyped (0#7 ++ delay)] ∧
    (Notice.accept x n h).words = [head 7 2, body d, bodyTyped (0#21 ++ BitVec.ofNat 7 h.val)] ∧
    (Notice.decline x n k).words = [head 8 2, body d, bodyTyped (0#24 ++ k)] ∧
    (Notice.taken x n).words = [head 9 1, body d] ∧ (Notice.lapsed x n).words = [head 10 1, body d] ∧
    (Notice.withdraw x n).words = [head 11 1, body d]) ∧
  (∀ (count : BitVec 2) (field : BitVec 22) (b q : BitVec 28) (n : Channel) (h : Handle),
    n.val = (b.extractLsb' 0 2).toNat → h.val = (q.extractLsb' 0 7).toNat →
    let read := fun (kind : BitVec 4) (bodies : List (BitVec 28)) => Assembly.notice? ⟨kind, count, field, bodies⟩
    let x : Identity := field ++ b.extractLsb' 2 26
    read 1 [b, q] = some (.claim x (q.extractLsb' 12 16)) ∧ read 2 [b] = some (.object x n) ∧
    read 3 [b] = some (.release x) ∧ read 4 [] = some (.quiet (field.extractLsb' 6 16) (field.extractLsb' 2 4)) ∧
    read 5 [b] = some (.cross x n) ∧ read 6 [b, q] = some (.handoff x n (q.extractLsb' 0 21)) ∧
    read 7 [b, q] = some (.accept x n h) ∧ read 8 [b, q] = some (.decline x n (q.extractLsb' 0 4)) ∧
    read 9 [b] = some (.taken x n) ∧ read 10 [b] = some (.lapsed x n) ∧ read 11 [b] = some (.withdraw x n)) ∧
  ∀ n : Notice, ∃ a : Assembly, n.words = headTyped a.kind a.bodyCount a.firstField :: a.bodies.map bodyTyped ∧
    a.bodies.length = a.bodyCount.toNat ∧ a.notice? = some n

/-- A notice in assembly is broken by a good FILL, by a new HEAD and by a bad word, and counted once each time; a HEAD on a lane that
is not UP is counted and not assembled; a BODY with no notice in assembly is ignored uncounted. A notice that completes with a kind code
that names no kind, or with a word count that is not its kind's, is discarded and counted; one that fits goes to delivery. A HEAD of body
count 0 completes at once, after it has discarded the notice it breaks (R140, R190). -/
def Obligations.BrokenNoticesAreCounted : Prop :=
  ∀ (l : LaneNo) (w : LaneWord) (s : State), running s = true → laneConfigured s.host l = true →
    let v := laneAt s l
    let p := wordPayload w
    let count := fun t : State => t.host.counters[Counter.noticesDiscarded.index]
    let fits := fun (kind : BitVec 4) (bodies : Nat) =>
      (kind = 4 ∧ bodies = 0) ∨ (kind ∈ [2#4, 3#4, 5#4, 9#4, 10#4, 11#4] ∧ bodies = 1) ∨
        (kind ∈ [1#4, 6#4, 7#4, 8#4] ∧ bodies = 2)
    ∃ t, exec (.laneWord l w) s = .next t ∧
      (v.state = .up → v.assembly.isSome = true →
        (goodWord s l w = false ∨ wordType w = some .fill ∨ (wordType w = some .head ∧ p.extractLsb' 22 2 ≠ 0)) →
        count t = countUp (count s) ∧ t.handed = s.handed) ∧
      (v.state ≠ .up → v.assembly = none → goodWord s l w = true → wordType w = some .head →
        count t = countUp (count s) ∧ (laneAt t l).assembly = none ∧ t.handed = s.handed) ∧
      (v.assembly = none → goodWord s l w = true → wordType w = some .body →
        count t = count s ∧ (laneAt t l).assembly = none ∧ t.handed = s.handed) ∧
      (v.state = .up → goodWord s l w = true → wordType w = some .head → p.extractLsb' 22 2 = 0 →
        let before := if v.assembly.isSome then countUp (count s) else count s
        (laneAt t l).assembly = none ∧
        (p.extractLsb' 24 4 ≠ 4 → count t = countUp before ∧ t.handed = s.handed) ∧
        (p.extractLsb' 24 4 = 4 → count t = before ∧ t.handed = s.handed ++
          [.notice (laneChannel s.host.ownChannel l) (.quiet (p.extractLsb' 6 16) (p.extractLsb' 2 4))])) ∧
      (∀ a, v.state = .up → v.assembly = some a → goodWord s l w = true → wordType w = some .body →
        (a.bodies.length + 1 = a.bodyCount.toNat → (laneAt t l).assembly = none ∧
          (¬ fits a.kind (a.bodies.length + 1) → count t = countUp (count s) ∧ t.handed = s.handed) ∧
          (fits a.kind (a.bodies.length + 1) → count t = count s ∧
            ∃ n, { a with bodies := a.bodies ++ [p] }.notice? = some n ∧
              t.handed = if n.addressee = none ∨ n.addressee = some s.host.ownChannel then
                s.handed ++ [.notice (laneChannel s.host.ownChannel l) n] else s.handed)) ∧
        (a.bodies.length + 1 < a.bodyCount.toNat →
          (laneAt t l).assembly = some { a with bodies := a.bodies ++ [p] } ∧ count t = count s ∧ t.handed = s.handed))

/-! ### Tree notices -/

/-- An addressed notice that names another channel was meant for another part and changes nothing (R141). "Notices from one lane are
delivered in the order they completed" (R141, R143): where older notices of the sender wait, the row of a notice first does what the
rows of the older ones do, oldest first (log entry 4). -/
def Obligations.NoticeDelivery : Prop :=
  (∀ (p c : Channel) (x : Identity) (s : State), c ≠ s.host.ownChannel →
    exec (.object p x c) s = .next s ∧ exec (.cross p x c) s = .next s ∧
    (∀ delay, exec (.handoff p x c delay) s = .next s) ∧ (∀ g, exec (.accept p x c g) s = .next s) ∧
    (∀ reason, exec (.decline p x c reason) s = .next s) ∧ exec (.taken p x c) s = .next s ∧
    exec (.lapsed p x c) s = .next s ∧ exec (.withdraw p x c) s = .next s) ∧
  (∀ (p : Channel) (n : Notice) (before after : List Handoff) (s : State),
    s.handed = before ++ .notice p n :: after → Handoff.notice p n ∉ before →
    olderNotices p n s = before.filterMap (noticeFrom p)) ∧
  (∀ (p : Channel) (n : Notice) (s : State), Handoff.notice p n ∉ s.handed →
    olderNotices p n s = s.handed.filterMap (noticeFrom p)) ∧
  (∀ (p : Channel) (n : Notice) (y : Handoff), noticeFrom p y = some n ↔ y = .notice p n) ∧
  ∀ (p : Channel) (n m : Notice) (rest : List Notice) (s : State), running s = true →
    olderNotices p n s = m :: rest →
    (n.addressee = none ∨ n.addressee = some s.host.ownChannel) →
    (m.addressee = none ∨ m.addressee = some s.host.ownChannel) →
    ∃ t, exec (m.row p) s = .next t ∧ olderNotices p n t = rest ∧ exec (n.row p) s = exec (n.row p) t

/-- A CLAIM against a PENDING record: the tie-break (R145). A CLAIM for an identity no record holds does nothing (R144). -/
def Obligations.ClaimTieBreak : Prop :=
  ∀ (p : Channel) (x : Identity) (heard : TreeCycle) (s : State), running s = true →
    olderNotices p (.claim x heard) s = [] →
    let s' := { s with handed := s.handed.erase (.notice p (.claim x heard)) }
    (holder s x = none → exec (.claim p x heard) s = .next s') ∧
    ∀ h own d, holder s x = some h → recordAt s h = .pending x own d →
      let diff := cycleDiff heard own.cycle
      ((diff < 0 ∨ (diff = 0 ∧ p < s.host.ownChannel)) → exec (.claim p x heard) s = .next
        (raise (.claimYielded h x p) (freeRecord h s'))) ∧
      (¬ (diff < 0 ∨ (diff = 0 ∧ p < s.host.ownChannel)) → exec (.claim p x heard) s = .next s')

/-- A CLAIM against a tracked record: fresh, it draws OBJECT; stale, it frees the record with DROP, WITHDRAW from OFFERING, RELEASE and
RELEASED. A CLAIM frees a RANGING record with DROP and RELEASE, and a LOST, LEAVING or ARRIVING one with RELEASE alone (R144, R146,
R147, R32; that a record whose aligned burst was taken within the freshness is fresh, and R124's third row is the stale one, is log
entry 26). -/
def Obligations.ClaimAgainstAnEstablishedRecord : Prop :=
  (∀ (p : Channel) (x : Identity) (heard : TreeCycle) (h : Handle) (t : Tracking) (withdrawn : State → State) (s : State),
    running s = true → olderNotices p (.claim x heard) s = [] → holder s x = some h →
    ((recordAt s h = .active x t ∧ withdrawn = id) ∨
      ∃ peer d, recordAt s h = .offering x t peer d ∧ withdrawn = queueNotice (.withdraw x peer)) →
    let s' := { s with handed := s.handed.erase (.notice p (.claim x heard)) }
    ((s.time.localCount - t.lastGood).toNat ≤ s.host.config.freshness →
      exec (.claim p x heard) s = .next (queueNotice (.object x p) s')) ∧
    (s.host.config.freshness < (s.time.localCount - t.lastGood).toNat →
      exec (.claim p x heard) s = .next (raise (.released h x (.peerClaim p)) (freeRecord h
        (queueNotice (.release x) (withdrawn (queueMessage (.drop (.byHandle h) .peer) none s'))))))) ∧
  ∀ (p : Channel) (x : Identity) (heard : TreeCycle) (h : Handle) (s : State), running s = true →
    olderNotices p (.claim x heard) s = [] → holder s x = some h →
    let s' := { s with handed := s.handed.erase (.notice p (.claim x heard)) }
    (∀ r, recordAt s h = .ranging x r →
      let named := if r.stage = .awaitAssign then Address.byIdentity x else Address.byHandle h
      exec (.claim p x heard) s = .next (raise (.released h x (.peerClaim p)) (freeRecord h
        (queueNotice (.release x) (queueMessage (.drop named .peer) none s'))))) ∧
    (((recordAt s h).state = .lost ∨ (recordAt s h).state = .leaving ∨ (recordAt s h).state = .arriving) →
      exec (.claim p x heard) s = .next (raise (.released h x (.peerClaim p)) (freeRecord h
        (queueNotice (.release x) s'))))

/-- An OBJECT naming own channel frees a PENDING record into the contested list, the oldest entry giving way at 16, and raises
DUPLICATE; any other record, or none, ignores it (R149, R24). -/
def Obligations.ObjectContestsAPendingRecord : Prop :=
  ∀ (q : Channel) (x : Identity) (s : State), running s = true →
    olderNotices q (.object x s.host.ownChannel) s = [] →
    let s' := { s with handed := s.handed.erase (.notice q (.object x s.host.ownChannel)) }
    (∀ h own d, holder s x = some h → recordAt s h = .pending x own d →
      ∃ t, exec (.object q x s.host.ownChannel) s = .next t ∧ recordAt t h = .free ∧
        t.table.contested =
          (if s.table.contested.length < 16 then s.table.contested else s.table.contested.tail) ++ [⟨x, ahead s 128⟩] ∧
        t.host = { (s.host.raise s.time.treeCycle (.duplicate h x q)) with
          attention := { (s.host.raise s.time.treeCycle (.duplicate h x q)).attention with duplicate := true } } ∧
        t.link = s.link ∧ t.builder = s.builder ∧ (∀ g, g ≠ h → recordAt t g = recordAt s g)) ∧
    ((∀ h, holder s x = some h → (recordAt s h).state ≠ .pending) →
      exec (.object q x s.host.ownChannel) s = .next s')

/-- A QUIET from channel p (R67, R68): what is discarded, what is reserved whole, and what is left of a late one. It reaches the scheduler
between strobes (R77), so the state is the one with no scheduler work owed. -/
def Obligations.QuietReservesSpans : Prop :=
  ∀ (p : Channel) (first : TreeCycle) (length : BitVec 4) (s : State), running s = true →
    olderNotices p (.quiet first length) s = [] →
    let s' := owedScheduler { s with handed := s.handed.erase (.notice p (.quiet first length)) }
    let listed := s'.sched.spans.countP fun y => y.kind == .peerQuiet p
    let lead := cycleDiff first s.time.treeCycle
    let w := length.toNat
    ((w = 0 ∨ 2 ≤ listed) → exec (.quiet p first length) s = .next (bump .noticesDiscarded s')) ∧
    (w ≠ 0 → listed < 2 → 2 ≤ lead → exec (.quiet p first length) s = .next
      (addSpan ⟨.peerQuiet p, ⟨first, 0⟩, ⟨first + BitVec.ofNat 16 w - 1, 312499⟩⟩ s')) ∧
    (w ≠ 0 → listed < 2 → lead < 2 → 2 ≤ lead + w - 1 → exec (.quiet p first length) s = .next
      (addSpan ⟨.peerQuiet p, ⟨s.time.treeCycle + 2, 0⟩, ⟨first + BitVec.ofNat 16 w - 1, 312499⟩⟩
        (bump .lateReports s'))) ∧
    (w ≠ 0 → listed < 2 → lead < 2 → lead + w - 1 < 2 → exec (.quiet p first length) s = .next (bump .lateReports s'))

/-- A cross-heard burst draws CROSS to a channel that exists (R153); a CROSS for an identity not held draws TUNE (R154). -/
def Obligations.CrossHeardTerminals : Prop :=
  (∀ (b : CrossHeard) (s : State), running s = true →
    let s' := { s with handed := s.handed.erase (.crossHeard b) }
    (b.downChannel.val < s.host.config.channelCount → exec (.crossHeardBurst b) s = .next
      (raise (.crossHeard b.identity b.downChannel b.attemptCount) (queueNotice (.cross b.identity b.downChannel) s'))) ∧
    (s.host.config.channelCount ≤ b.downChannel.val → exec (.crossHeardBurst b) s = .next (bump .strayReports s'))) ∧
  ∀ (p : Channel) (x : Identity) (s : State), running s = true →
    olderNotices p (.cross x s.host.ownChannel) s = [] →
    let s' := { s with handed := s.handed.erase (.notice p (.cross x s.host.ownChannel)) }
    ((holder s x).isSome → exec (.cross p x s.host.ownChannel) s = .next s') ∧
    (holder s x = none → s.builder.backlog.length < 256 → exec (.cross p x s.host.ownChannel) s = .next
      (raise (.tuneSent x p) (queueMessage (.tune x p) none s'))) ∧
    (holder s x = none → 256 ≤ s.builder.backlog.length → exec (.cross p x s.host.ownChannel) s = .next
      (queueMessage (.tune x p) none s'))

/-! ### Handover notices -/

/-- A HANDOFF to this part, by R159's cases in order, and the ARRIVING record it makes (R160, R19). -/
def Obligations.HandoffAnswers : Prop :=
  ∀ (p : Channel) (x : Identity) (delay : BitVec 21) (s : State), running s = true →
    olderNotices p (.handoff x s.host.ownChannel delay) s = [] →
    let c := s.host.ownChannel
    let s' :=
      { s with
        handed := s.handed.erase (.notice p (.handoff x c delay))
        table := { s.table with contested := s.table.contested.filter fun y => y.identity != x } }
    (320 ≤ s.link.strobeWords → exec (.handoff p x c delay) s = .next (queueNotice (.decline x p 3) s')) ∧
    (s.link.strobeWords < 320 → x ∈ s.table.barred →
      exec (.handoff p x c delay) s = .next (queueNotice (.decline x p 1) s')) ∧
    (s.link.strobeWords < 320 → x ∉ s.table.barred → (holder s x).isSome →
      exec (.handoff p x c delay) s = .next (queueNotice (.decline x p 2) s')) ∧
    (s.link.strobeWords < 320 → x ∉ s.table.barred → holder s x = none → lowestFree s = none →
      exec (.handoff p x c delay) s = .next (queueNotice (.decline x p 0) s')) ∧
    ∀ h, s.link.strobeWords < 320 → x ∉ s.table.barred → holder s x = none → lowestFree s = some h →
      exec (.handoff p x c delay) s = .next (request ⟨.verify, h, x⟩ (queueNotice (.accept x p h)
        (setRecord h
          (.arriving x (min delay.toNat (s.host.config.treeLoopTime - 40000)) p (ahead s s.host.config.handoverTime) none)
          s')))

/-- The source receives an answer: ACCEPT from the channel offered to turns OFFERING to LEAVING with RETUNE, any other ACCEPT draws
WITHDRAW; DECLINE from that channel returns the record to ACTIVE, any other is ignored (R161, R162, R163). -/
def Obligations.SourceTakesTheAnswer : Prop :=
  ∀ (p : Channel) (x : Identity) (s : State), running s = true →
    let c := s.host.ownChannel
    (∀ g, olderNotices p (.accept x c g) s = [] →
      let s' := { s with handed := s.handed.erase (.notice p (.accept x c g)) }
      (∀ h t d, holder s x = some h → recordAt s h = .offering x t p d → exec (.accept p x c g) s = .next
        (queueMessage (.retune h p g) (some x)
          (setRecord h (.leaving x t.launchDelay p g (ahead s s.host.config.handoverTime)) s'))) ∧
      ((∀ h t d, holder s x = some h → recordAt s h ≠ .offering x t p d) → (∀ h, holder s x = some h →
        (recordAt s h).identity? = some x) → exec (.accept p x c g) s = .next (queueNotice (.withdraw x p) s'))) ∧
    (∀ r : BitVec 4, olderNotices p (.decline x c r) s = [] →
      let s' := { s with handed := s.handed.erase (.notice p (.decline x c r)) }
      let reason : DeclinedBy :=
        if r = 0 then .full else if r = 1 then .barred else if r = 2 then .present else if r = 3 then .notRunning
        else .unknown
      (∀ h t d, holder s x = some h → recordAt s h = .offering x t p d → exec (.decline p x c r) s = .next
        (raise (.handoverDeclined h x p reason) (setRecord h (.active x t) s'))) ∧
      ((∀ h t d, holder s x = some h → recordAt s h ≠ .offering x t p d) → (∀ h, holder s x = some h →
        (recordAt s h).identity? = some x) → exec (.decline p x c r) s = .next s'))

/-- TAKEN frees a LEAVING record, from any channel, with the peer and handle it holds, and a LOST one with the sender as target and some
new handle (the value is free: log entry 2); it is ignored in any other state (R163). LAPSED from the peer channel sends a LEAVING
record to LOST (R163); WITHDRAW from the peer channel frees an ARRIVING record (R166); each is ignored otherwise. -/
def Obligations.HandoverEndNotices : Prop :=
  (∀ (p : Channel) (x : Identity) (s : State), running s = true →
    olderNotices p (.taken x s.host.ownChannel) s = [] →
    let c := s.host.ownChannel
    let s' := { s with handed := s.handed.erase (.notice p (.taken x c)) }
    (∀ h delay peer g d, holder s x = some h → recordAt s h = .leaving x delay peer g d → exec (.taken p x c) s = .next
      (raise (.handoverDone h x peer g) (freeRecord h s'))) ∧
    (∀ h delay lastGood d, holder s x = some h → recordAt s h = .lost x delay lastGood d →
      ∃ g n, exec (.taken p x c) s = .next (raise (.handoverDone h x p g) (freeRecord h { s' with freeCount := n }))) ∧
    ((∀ h, holder s x = some h → (recordAt s h).state ≠ .leaving ∧ (recordAt s h).state ≠ .lost) →
      exec (.taken p x c) s = .next s')) ∧
  ∀ (p : Channel) (x : Identity) (s : State), running s = true →
    let c := s.host.ownChannel
    (olderNotices p (.lapsed x c) s = [] →
      let s' := { s with handed := s.handed.erase (.notice p (.lapsed x c)) }
      (∀ h delay g d, holder s x = some h → recordAt s h = .leaving x delay p g d → exec (.lapsed p x c) s = .next
        (raise (.handoverLapsed h x .source p .notice)
          (setRecord h (.lost x delay s.time.localCount (ahead s s.host.config.retention)) s'))) ∧
      ((∀ h y delay g d, holder s x = some h → recordAt s h ≠ .leaving y delay p g d) →
        exec (.lapsed p x c) s = .next s')) ∧
    (olderNotices p (.withdraw x c) s = [] →
      let s' := { s with handed := s.handed.erase (.notice p (.withdraw x c)) }
      (∀ h delay d retry, holder s x = some h → recordAt s h = .arriving x delay p d retry →
        exec (.withdraw p x c) s = .next (raise (.handoverLapsed h x .target p .withdrawn) (freeRecord h s'))) ∧
      ((∀ h y delay d retry, holder s x = some h → recordAt s h ≠ .arriving y delay p d retry) →
        exec (.withdraw p x c) s = .next s'))

/-- A VERIFY burst for an ARRIVING record: aligned, the record is ACTIVE, TAKEN goes out, REGISTERED is raised and the entry sample is
handed; misaligned, TAKEN goes out and the record re-ranges; for any other record it is dropped (R164, R165, R112, R17). The first burst
decides: where older ones of the handle wait, the row of a burst first does what theirs do, oldest first (log entry 4). -/
def Obligations.VerificationDecidesArrival : Prop :=
  (∀ (v : VerificationBurst) (before after : List Handoff) (s : State),
    (s.handed = before ++ .verification v :: after ∨ (s.handed = before ∧ after = [])) → Handoff.verification v ∉ before →
    olderVerifications v s = before.filterMap fun
      | .verification u => if u.handle = v.handle then some u else none
      | _ => none) ∧
  (∀ (v u : VerificationBurst) (rest : List VerificationBurst) (s : State), running s = true → olderVerifications v s = u :: rest →
    ∃ t, exec (.verificationBurst u) s = .next t ∧ olderVerifications v t = rest ∧
      exec (.verificationBurst v) s = exec (.verificationBurst v) t) ∧
  ∀ (v : VerificationBurst) (s : State), running s = true → olderVerifications v s = [] →
    let s' := { s with handed := s.handed.erase (.verification v) }
    let e : Int := (v.arrival : Int) - 4 * ((s.host.config.treeLoopTime : Int) + v.offset)
    (∀ delay source d retry, recordAt s v.handle = .arriving v.identity delay source d retry →
      (-256 ≤ e → e ≤ 256 → exec (.verificationBurst v) s = .next
        (hand (.trackerInput ⟨v.handle, v.identity, .active, .entrySample e⟩)
          (raise (.registered v.handle v.identity (.handover source)) (queueNotice (.taken v.identity source)
            (setRecord v.handle
              (.active v.identity
                { launchDelay := delay, effective := s.time.localCount + 1, drift := 0, correctionPending := false,
                  atLimit := false, missingRun := 0, misalignedRun := 0, lastGood := s.time.localCount })
              (withdrawRequest v.handle s')))))) ∧
      ((e < -256 ∨ 256 < e) → exec (.verificationBurst v) s = .next
        (enterReranging v.handle .misaligned (queueNotice (.taken v.identity source) s')))) ∧
    ((∀ delay source d retry, recordAt s v.handle ≠ .arriving v.identity delay source d retry) →
      exec (.verificationBurst v) s = .next s')

/-! ### Burst reports -/

/-- Reports and summaries the part can do nothing with: outside RUNNING they are ignored uncounted (R80, R81); a report with a missing
field or a code that names nothing, a directed grant not in the table, and a grant cycle of no OPEN window are counted (R81, R83, R64,
R65). That a summary lacking its cycle or its light flag is counted as stray is the model's reading (log entry 14, DEDUCED: no rule names
such a summary). Which fields and which codes make a report of each kind is R191's table. -/
def Obligations.UnusableReports : Prop :=
  (∀ r : RawReport,
    let burst := fun o : BurstOutcome =>
      (r.outcome = some 0 ∧ ∃ q b, r.arrival = some q ∧ r.header = some b ∧ o = .good q b) ∨
        (r.outcome = some 1 ∧ o = .noBurst) ∨ (r.outcome = some 2 ∧ o = .undecoded)
    let named := fun h : Handle => ∃ b, r.handle = some b ∧ h.val = b.toNat
    (∀ ref o, parseReport r = some (.discover ref o) ↔ r.refCycle = some ref ∧ r.kind = some 0 ∧ burst o) ∧
    (∀ ref h o, parseReport r = some (.directed .range ref h o) ↔ r.refCycle = some ref ∧ r.kind = some 1 ∧ named h ∧ burst o) ∧
    (∀ ref h o, parseReport r = some (.directed .verify ref h o) ↔ r.refCycle = some ref ∧ r.kind = some 2 ∧ named h ∧ burst o) ∧
    (∀ ref h g a, parseReport r = some (.data ref h g a) ↔
      r.refCycle = some ref ∧ r.kind = some 3 ∧ named h ∧ r.offset = some g ∧
        ((r.outcome = some 0 ∧ ∃ q, r.arrival = some q ∧ a = some q) ∨
          ((r.outcome = some 1 ∨ r.outcome = some 2) ∧ a = none))) ∧
    ∀ ref n o, parseReport r = some (.ungranted ref n o) ↔
      r.refCycle = some ref ∧ r.kind = some 4 ∧ r.span = some n ∧ burst o) ∧
  ∀ (r : RawReport) (m : RawSummary) (s : State),
    (running s = false → exec (.burstReport r) s = .next s ∧ exec (.endOfWindowSummary m) s = .next s) ∧
    (running s = true →
      ((r.refCycle = none ∨ r.kind = none ∨ (∃ k, r.kind = some k ∧ 4 < k.toNat) ∨ r.outcome = none ∨ r.outcome = some 3 ∨
          (r.outcome = some 0 ∧ r.arrival = none) ∨ (r.outcome = some 0 ∧ r.kind ≠ some 3 ∧ r.header = none) ∨
          ((r.kind = some 1 ∨ r.kind = some 2 ∨ r.kind = some 3) ∧ r.handle = none) ∨ (r.kind = some 3 ∧ r.offset = none) ∨
          (r.kind = some 4 ∧ r.span = none)) → exec (.burstReport r) s = .next (bump .strayReports s)) ∧
      ((m.refCycle = none ∨ m.light = none) → exec (.endOfWindowSummary m) s = .next (bump .strayReports s)) ∧
      (∀ k ref h o, parseReport r = some (.directed k ref h o) →
        (∀ e ∈ s.classifier.issued, ¬ (e.kind = k ∧ e.handle = h ∧ e.cycle = ref)) →
        exec (.burstReport r) s = .next (bump .strayReports s)) ∧
      (∀ ref c, ((∃ o, parseReport r = some (.discover ref o) ∧ c = .burstReport r) ∨
          (∃ light, m.refCycle = some ref ∧ m.light = some light ∧ c = .endOfWindowSummary m)) →
        ((∃ w, s.sched.window = some w ∧ w.grantCycle = ref ∧ w.stage = .announced) →
          exec c s = .next (bump .strayReports s)) ∧
        ((∀ w, s.sched.window = some w → w.grantCycle ≠ ref) →
          (s.sched.lastClosed = some ref → exec c s = .next (bump .lateReports s)) ∧
          (s.sched.lastClosed ≠ some ref → exec c s = .next (bump .strayReports s)))))

/-- A burst in the OPEN window, by its DISCOVER report or an ungranted one: the count and the limit of 16, the activity flag, and R87's
steps to a hearing, an out-of-band burst, a cross-heard identity or a stray report; and an end-of-window summary (R64, R59, R87, R88,
R89, R94, R13). -/
def Obligations.BurstsInTheOpenWindow : Prop :=
  ∀ (w : Window) (s : State), running s = true → s.sched.window = some w → w.stage = .opened →
    let withWindow := fun v : Window => { s with sched := { s.sched with window := some v } }
    (exec (.endOfWindowSummary ⟨some w.grantCycle, some true⟩) s = .next (withWindow { w with activity := true }) ∧
      exec (.endOfWindowSummary ⟨some w.grantCycle, some false⟩) s = .next s) ∧
    ∀ (r : RawReport) (o : BurstOutcome) (origin ref : TreeCycle) (kind : ReportKind),
      ((parseReport r = some (.discover w.grantCycle o) ∧ origin = w.grantCycle ∧ ref = w.grantCycle ∧ kind = .discover) ∨
        (∃ n, parseReport r = some (.ungranted ref n o) ∧ origin = n.cycle ∧ kind = .ungranted ∧
          (n = ⟨0, w.first, 0⟩ ∨
            ∃ q b, o = .good q b ∧ (⟨.ownDiscovery, ⟨w.first, 0⟩, ⟨w.last, 312499⟩⟩ : Span).contains
              (Pos.ofOffset n.cycle ((q.toNat : Int) / 4)) = true))) →
      let answers := fun t : State => exec (.burstReport r) s = .next t
      (o = .noBurst → answers s) ∧
      (o = .undecoded → answers (withWindow { w with activity := true })) ∧
      (∀ q b, o = .good q b → 16 ≤ w.bursts → answers (bump .windowOverflow (withWindow { w with activity := true }))) ∧
      ∀ q b, o = .good q b → w.bursts < 16 →
        let own := withWindow { w with bursts := w.bursts + 1, activity := true }
        let other := withWindow { w with bursts := w.bursts + 1 }
        let quarters : Int := q.toNat + 4 * (cycleLength * cycleDiff origin w.grantCycle)
        (checkHeader b = .uncorrectable → answers (offerCapture ref kind q (bump .headersUncorrectable own))) ∧
        ∀ c counted, ((checkHeader b = .clean c ∧ counted = id) ∨
            (checkHeader b = .corrected c ∧ counted = bump .headersCorrected)) →
          let f := headerFields c
          let coarse : Int := quarters / 4 - 40000 - 256 * f.scatter
          let near : Prop := (s.host.config.minLoopDelay : Int) - 64 ≤ coarse ∧ coarse ≤ (s.host.config.maxLoopDelay : Int) + 64
          (f.downChannel = s.host.ownChannel → 48 ≤ f.scatter → answers (bump .strayReports (counted own))) ∧
          (f.downChannel = s.host.ownChannel → f.scatter < 48 → near → answers
            (hand (.hearing
                ⟨f.identity, f.attemptCount, coarse, w.grantCycle + BitVec.ofInt 16 (quarters / 4 / cycleLength)⟩)
              (bump .identitiesHeard (counted own)))) ∧
          (f.downChannel = s.host.ownChannel → f.scatter < 48 → ¬ near → answers
            (raise (.outOfBand f.identity coarse) (bump .outOfBand (counted own)))) ∧
          (f.downChannel ≠ s.host.ownChannel → 48 ≤ f.scatter → answers (bump .strayReports (counted other))) ∧
          (f.downChannel ≠ s.host.ownChannel → f.scatter < 48 → answers
            (hand (.crossHeard ⟨f.identity, f.downChannel, f.attemptCount⟩) (counted other)))

/-- A RANGE or VERIFY report of an issued grant: the oldest entry leaves the table, and the report is answered by R90's and R92's tables;
an uncorrectable header goes to an armed capture (R83, R85, R86, R90, R91, R92). -/
def Obligations.DirectedReports : Prop :=
  (∀ cycle kind q (s : State),
    (s.classifier.capture = none → offerCapture cycle kind q s =
      attend .header { s with classifier := { s.classifier with capture := some ⟨cycle, kind, q⟩ } }) ∧
    (s.classifier.capture ≠ none → offerCapture cycle kind q s = s)) ∧
  ∀ (k : DirectedKind) (ref : TreeCycle) (h : Handle) (o : BurstOutcome) (r : RawReport) (e : DirectedGrant) (s : State),
    running s = true → parseReport r = some (.directed k ref h o) →
    let isOne := fun x : DirectedGrant => x.kind == k && x.handle == h && x.cycle == ref
    s.classifier.issued.find? isOne = some e →
    let t := { s with classifier := { s.classifier with issued := s.classifier.issued.eraseP isOne } }
    let answers := fun u : State => exec (.burstReport r) s = .next u
    let insideSpan := fun (e : DirectedGrant) (q : BitVec 28) => e.span.contains (Pos.ofOffset e.cycle ((q.toNat : Int) / 4))
    (k = .range →
      let result := fun a : RangeAnswer => hand (.rangeResult ⟨h, e.identity, ref, e.offset, a⟩)
      (o = .noBurst → answers (result (.noSample .noBurst) t)) ∧
      (o = .undecoded → answers (result (.noSample .undecoded) t)) ∧
      ∀ q b, o = .good q b →
        (checkHeader b = .uncorrectable →
          answers (result (.noSample .header) (offerCapture ref .range q (bump .headersUncorrectable t)))) ∧
        ∀ c counted, ((checkHeader b = .clean c ∧ counted = id) ∨
            (checkHeader b = .corrected c ∧ counted = bump .headersCorrected)) →
          ((headerFields c).identity ≠ e.identity →
            answers (result (.noSample .wrongTerminal) (bump .wrongTerminal (counted t)))) ∧
          ((headerFields c).identity = e.identity → insideSpan e q = true → answers (result (.arrival q.toNat) (counted t))) ∧
          ((headerFields c).identity = e.identity → insideSpan e q = false →
            answers (result (.noSample .offSpan) (bump .strayReports (counted t))))) ∧
    (k = .verify →
      ∀ missing burst : State → State,
        (((∃ delay p d retry, recordAt s h = .arriving e.identity delay p d retry) ∧ missing = id ∧
            ∀ q b, o = .good q b → burst = hand (.verification ⟨h, e.identity, ref, e.offset, q.toNat⟩)) ∨
          ∃ found, ((found = .active ∧ ∃ f, recordAt s h = .active e.identity f) ∨
              (found = .offering ∧ ∃ f p d, recordAt s h = .offering e.identity f p d)) ∧
            missing = hand (.trackerInput ⟨h, e.identity, found, .missing ref⟩) ∧
            ∀ q b, o = .good q b → burst = hand (.trackerInput ⟨h, e.identity, found, .burst ref e.offset q.toNat⟩)) →
        ((o = .noBurst ∨ o = .undecoded) → answers (missing t)) ∧
        ∀ q b, o = .good q b →
          (checkHeader b = .uncorrectable → answers (offerCapture ref .verify q (bump .headersUncorrectable t))) ∧
          ∀ c counted, ((checkHeader b = .clean c ∧ counted = id) ∨
              (checkHeader b = .corrected c ∧ counted = bump .headersCorrected)) →
            ((headerFields c).identity ≠ e.identity → answers (bump .wrongTerminal (counted t))) ∧
            ((headerFields c).identity = e.identity → insideSpan e q = true → answers (burst (counted t))) ∧
            ((headerFields c).identity = e.identity → insideSpan e q = false →
              answers (burst (bump .strayReports (counted t))))) ∧
    (k = .verify → (∀ delay p d retry, recordAt s h ≠ .arriving e.identity delay p d retry) →
      (∀ f, recordAt s h ≠ .active e.identity f) → (∀ f p d, recordAt s h ≠ .offering e.identity f p d) → answers t)

/-- A DATA report goes to the delay tracker for a tracked record and is ignored for any other (R93). An ungranted report that belongs to
no OPEN window is foreign light, a cross-heard identity or stray under a listed PEER-QUIET span, and stray under none (R94, R89). -/
def Obligations.DataAndUngrantedReports : Prop :=
  ∀ (r : RawReport) (s : State), running s = true →
    let answers := fun t : State => exec (.burstReport r) s = .next t
    (∀ ref h g a, parseReport r = some (.data ref h g a) →
      let kind : TrackerInputKind := match a with
        | some q => .burst ref g.toNat q.toNat
        | none => .missing ref
      (∀ x f, recordAt s h = .active x f → answers (hand (.trackerInput ⟨h, x, .active, kind⟩) s)) ∧
      (∀ x f p d, recordAt s h = .offering x f p d → answers (hand (.trackerInput ⟨h, x, .offering, kind⟩) s)) ∧
      ((recordAt s h).state ≠ .active → (recordAt s h).state ≠ .offering → answers s)) ∧
    (∀ ref n o, parseReport r = some (.ungranted ref n o) →
      (∀ w, s.sched.window = some w → w.stage = .opened → n ≠ ⟨0, w.first, 0⟩ ∧ ∀ q b, o = .good q b →
        (⟨.ownDiscovery, ⟨w.first, 0⟩, ⟨w.last, 312499⟩⟩ : Span).contains
          (Pos.ofOffset n.cycle ((q.toNat : Int) / 4)) = false) →
      let listed : Prop := n.kind = 1 ∧ ∃ x ∈ s.sched.spans, (∃ p, x.kind = .peerQuiet p) ∧ x.first = ⟨n.cycle, n.offset.toNat⟩
      (¬ listed → answers (bump .strayReports s)) ∧
      (listed → o = .undecoded → answers (bump .foreignLight s)) ∧
      (listed → o = .noBurst → answers (bump .strayReports s)) ∧
      (listed → ∀ q b, o = .good q b →
        (checkHeader b = .uncorrectable → answers (offerCapture ref .ungranted q (bump .headersUncorrectable s))) ∧
        ∀ c counted, ((checkHeader b = .clean c ∧ counted = id) ∨
            (checkHeader b = .corrected c ∧ counted = bump .headersCorrected)) →
          let f := headerFields c
          ((f.downChannel = s.host.ownChannel ∨ 48 ≤ f.scatter) → answers (bump .strayReports (counted s))) ∧
          (f.downChannel ≠ s.host.ownChannel → f.scatter < 48 →
            answers (hand (.crossHeard ⟨f.identity, f.downChannel, f.attemptCount⟩) (counted s)))))

/-- The header block: where each field stands, most significant bit first (R189, R12); the check by the parity of the 72 bits and the
XOR of the position numbers of all 1 bits, row by row (R84, R85). What a terminal sends is clean and holds its fields; any one error is
corrected and any two are found uncorrectable. -/
def Obligations.HeaderCheckCorrectsOneError : Prop :=
  (∀ f : HeaderFields, f.scatter < 64 →
    checkHeader (encodeHeader f) = .clean (encodeHeader f) ∧ headerFields (encodeHeader f) = f) ∧
  (∀ b : HeaderBlock,
    let places := [3, 5, 6, 7] ++ List.range' 9 7 ++ List.range' 17 15 ++ List.range' 33 22
    (∀ (i p : Nat), places[i]? = some p → (headerFields b).identity.getLsbD (47 - i) = b.getLsbD p) ∧ places.length = 48 ∧
    (headerFields b).downChannel.val = 2 * (b.getLsbD 55).toNat + (b.getLsbD 56).toNat ∧
    (headerFields b).scatter < 64 ∧ (∀ i, i < 6 → (headerFields b).scatter.testBit (5 - i) = b.getLsbD (57 + i)) ∧
    (headerFields b).attemptCount.getLsbD 7 = b.getLsbD 63 ∧
    ∀ i, i < 7 → (headerFields b).attemptCount.getLsbD (6 - i) = b.getLsbD (65 + i)) ∧
  (∀ b : HeaderBlock,
    let even : Prop := ((List.range 72).countP fun p => b.getLsbD p) % 2 = 0
    let sum := ((List.range 72).filter fun p => b.getLsbD p).foldl (fun n p => n ^^^ p) 0
    (even → sum = 0 → checkHeader b = .clean b) ∧ (even → sum ≠ 0 → checkHeader b = .uncorrectable) ∧
    (¬ even → sum ≤ 71 → checkHeader b = .corrected (flipAt b sum)) ∧
    (¬ even → 71 < sum → checkHeader b = .uncorrectable) ∧
    ∀ p q, q < 72 → (flipAt b p).getLsbD q = (b.getLsbD q ^^ decide (q = p))) ∧
  ∀ b : HeaderBlock, checkHeader b = .clean b →
    (∀ p, p < 72 → checkHeader (flipAt b p) = .corrected b) ∧
    ∀ p q, p < 72 → q < 72 → p ≠ q → checkHeader (flipAt (flipAt b p) q) = .uncorrectable

/-! ### Registration, ranging and tracking -/

/-- The four tests of a hearing, in order (R33, R34, R35, R20). -/
def Obligations.HearingTests : Prop :=
  ∀ (e : Hearing) (s : State), running s = true →
    let x := e.identity
    let s' := { s with handed := s.handed.erase (.hearing e) }
    let answers := fun t : State => exec (.hearing e) s = .next t
    (x ∈ s.table.barred → answers
      (raise (.barredHeard x e.attemptCount) (queueMessage (.drop (.byIdentity x) .barred) none s'))) ∧
    (x ∉ s.table.barred →
      ((∃ c ∈ s.table.contested, c.identity = x) → answers (bump .contestedIgnored s')) ∧
      ((∀ c ∈ s.table.contested, c.identity ≠ x) →
        (∀ h, holder s x = some h →
          (((recordAt s h).state = .active ∨ (recordAt s h).state = .offering ∨ (recordAt s h).state = .lost) →
            answers (enterReranging h (.heard e) s')) ∧
          (((recordAt s h).state = .leaving ∨ (recordAt s h).state = .arriving) → answers (bump .contestedIgnored s')) ∧
          (((recordAt s h).state = .pending ∨ (recordAt s h).state = .ranging) → answers s')) ∧
        (holder s x = none → ∀ h, lowestFree s = some h → answers
          (queueNotice (.claim x e.heardCycle)
            (setRecord h (.pending x ⟨e.heardCycle, e.coarse⟩ (ahead s s.host.config.settleTime)) s'))) ∧
        (holder s x = none → lowestFree s = none → answers (raise (.tableFull x e.attemptCount) s'))))

/-- A RANGE result: one that the slot does not await is dropped; an awaited one makes the slot ANSWERED and hands one outcome, by the
samples' agreement, the launch delay they give, and the attempts made (R102 to R107). -/
def Obligations.RangeResultOutcomes : Prop :=
  ∀ (r : RangeResult) (s : State), running s = true →
    let s' := { s with handed := s.handed.erase (.rangeResult r) }
    (slotAt s r.handle ≠ .out r.identity r.cycle r.offset → exec (.rangeAttemptResult r) s = .next s') ∧
    (slotAt s r.handle = .out r.identity r.cycle r.offset → ∃ o, exec (.rangeAttemptResult r) s = .next
      (hand (.outcome r.handle r.identity o) (setSlot r.handle (.answered r.identity) s'))) ∧
    (slotAt s r.handle = .out r.identity r.cycle r.offset → ∀ y f, recordAt s r.handle = .ranging y f →
      let gives := fun o : RangingOutcome => exec (.rangeAttemptResult r) s = .next
        (hand (.outcome r.handle r.identity o) (setSlot r.handle (.answered r.identity) s'))
      (∀ cause, r.answer = .noSample cause →
        (f.attempts < 4 → gives (.proceed f.samples f.attempts)) ∧
        (4 ≤ f.attempts → f.samples = [] → gives (.failure .noResponse)) ∧
        (4 ≤ f.attempts → f.samples ≠ [] → gives (.failure .noAgreement))) ∧
      (∀ q, r.answer = .arrival q →
        let q2 : Int := q - 4 * ((r.offset : Int) + 40000)
        let agree : Int → Prop := fun q1 =>
          q2 - q1 ≤ 4 * s.host.config.rangingTolerance ∧ q1 - q2 ≤ 4 * s.host.config.rangingTolerance
        ((∀ q1, f.samples.getLast? = some q1 → ¬ agree q1) →
          (f.attempts < 4 → gives (.proceed (f.samples ++ [q2]) f.attempts)) ∧
          (4 ≤ f.attempts → gives (.failure .noAgreement))) ∧
        (∀ q1, f.samples.getLast? = some q1 → agree q1 →
          let loop : Int := max 0 (((q1 + q2 + 1) / 2 + 2) / 4)
          let delay : Int := s.host.config.treeLoopTime - 40000 - loop
          (0 ≤ delay → gives (.agreement (f.samples ++ [q2]) delay.toNat)) ∧
          (delay < 0 → gives (.failure .beyondReach)))))

/-- An outcome applied to a record in stage ATTEMPTING whose slot is ANSWERED, else dropped (R40, R42, R43, R108); and a placement taken
by the slot and the attempt count, each where it still awaits it (R100, R17). Placements are taken in the order the requests were served
(R72): where others were handed before the one a row names, the row first does what theirs do. That the oldest outcome handed for the
handle is taken, and that with none handed nothing happens, is the model's choice (log entry 4); what becomes of one whose slot or
record has moved on is its reading of R99, R101 and R108 (log entry 10). -/
def Obligations.OutcomesAndPlacements : Prop :=
  (∀ (g h : Handle) (x y : Identity) (c d : TreeCycle) (a b : Nat) (before after : List Handoff) (s : State), running s = true →
    s.handed = before ++ .placed g x c a :: after → (∀ k z e o, Handoff.placed k z e o ∉ before) →
    Handoff.placed h y d b ∈ after → h ≠ g →
    ∃ t, exec (.attemptPlaced g) s = .next t ∧ exec (.attemptPlaced h) s = exec (.attemptPlaced h) t) ∧
  ∀ (h : Handle) (x : Identity) (before after : List Handoff) (s : State), running s = true →
    let t := { s with handed := before ++ after }
    (∀ o, s.handed = before ++ .outcome h x o :: after → (∀ y o', Handoff.outcome h y o' ∉ before) →
      let answers := fun u : State => exec (.rangingOutcomeApplied h) s = .next u
      (∀ r, recordAt s h = .ranging x r → r.stage = .attempting → slotAt s h = .answered x →
        (∀ samples attempts, o = .proceed samples attempts →
          let u := setRecord h (.ranging x { r with samples := samples, attempts := attempts }) t
          (Hold.ranging ∈ s.sched.stack → answers (setSlot h .idle u)) ∧
          (Hold.ranging ∉ s.sched.stack →
            answers (request ⟨.range (expectedLoop s.host.config r), h, x⟩ (setSlot h (.asked x) u)))) ∧
        (∀ samples delay, o = .agreement samples delay →
          let u := queueMessage (.setDelay h delay) (some x)
            (setRecord h (.ranging x { r with samples := samples, stage := .awaitSetDelay, launchDelay := some delay })
              (setSlot h .idle t))
          (s.builder.backlog.length < 256 → answers u) ∧
          (256 ≤ s.builder.backlog.length → answers (failRanging h .notQueued u))) ∧
        (∀ reason, o = .failure reason → answers (failRanging h reason (setSlot h .idle t)))) ∧
      ((∀ r, recordAt s h = .ranging x r → r.stage = .attempting → slotAt s h ≠ .answered x) →
        answers (if slotAt s h = .answered x then setSlot h .idle t else t))) ∧
    (∀ cycle offset, s.handed = before ++ .placed h x cycle offset :: after →
      (∀ g y c o, Handoff.placed g y c o ∉ before) →
      (∀ r, recordAt s h = .ranging x r → r.stage = .attempting → slotAt s h = .asked x →
        exec (.attemptPlaced h) s = .next
          (setRecord h (.ranging x { r with attempts := r.attempts + 1 }) (setSlot h (.out x cycle offset) t))) ∧
      (∀ r, recordAt s h = .ranging x r → r.stage = .attempting → slotAt s h ≠ .asked x →
        exec (.attemptPlaced h) s = .next (setRecord h (.ranging x { r with attempts := r.attempts + 1 }) t)) ∧
      ((∀ r, recordAt s h = .ranging x r → r.stage ≠ .attempting) → slotAt s h = .asked x →
        exec (.attemptPlaced h) s = .next (setSlot h (.out x cycle offset) t)) ∧
      ((∀ r, recordAt s h = .ranging x r → r.stage ≠ .attempting) → slotAt s h ≠ .asked x →
        exec (.attemptPlaced h) s = .next t)) ∧
    ((∀ y o, Handoff.outcome h y o ∉ s.handed) → exec (.rangingOutcomeApplied h) s = .next s) ∧
    ((∀ y c o, Handoff.placed h y c o ∉ s.handed) → exec (.attemptPlaced h) s = .next s) ∧
    (∀ r reason, recordAt s h = .ranging x r →
      (r.origin = .fresh →
        let named := if r.stage = .awaitAssign then Address.byIdentity x else Address.byHandle h
        failRanging h reason s = raise (.rangingFailed h x reason)
          (freeRecord h (queueNotice (.release x) (queueMessage (.drop named .ranging) none s)))) ∧
      (∀ delay good, r.origin = .rerange → r.launchDelay = some delay → r.lastGood = some good →
        failRanging h reason s = raise (.rangingFailed h x reason)
          (setRecord h (.lost x delay good (ahead s s.host.config.retention)) (withdrawRequest h s))))

/-- What the delay tracker makes of an input while no result of its handle waits (R111 to R118): what is discarded; the runs; the drift
sum; the correction with its clamp. "The tracker takes the inputs of one handle in the order they reach it" (R111): where older inputs
of the handle wait, the row of an input first does what theirs do, oldest first, each with the result before it applied (log entries 4
and 8). A grant cycle is before the effective cycle by the half range of the 32-bit local count, which is the model's choice (log entry
33). A cycle number half the range away is dated before now, the model's reading (log entry 11). -/
def Obligations.TrackerInputs : Prop :=
  (∀ (i : TrackerInput) (before after : List Handoff) (s : State),
    s.handed = before ++ .trackerInput i :: after → Handoff.trackerInput i ∉ before →
    olderInputs i s = before.filterMap (inputFor i.handle)) ∧
  (∀ (i : TrackerInput) (s : State), Handoff.trackerInput i ∉ s.handed →
    olderInputs i s = s.handed.filterMap (inputFor i.handle)) ∧
  (∀ (h : Handle) (i : TrackerInput) (y : Handoff), inputFor h y = some i ↔ y = .trackerInput i ∧ i.handle = h) ∧
  (∀ (i j : TrackerInput) (rest : List TrackerInput) (s : State), running s = true → olderInputs i s = j :: rest →
    ∃ t, exec (.trackerInput j) s = .next t ∧ olderInputs i t = rest ∧
      exec (.trackerInput i) s = exec (.trackerInput i) t) ∧
  (∀ (i : TrackerInput) (s t : State), running s = true → olderInputs i s = [] →
    exec (.trackerResultApplied i.handle) s = .next t → (∀ x found r, Handoff.tracked i.handle x found r ∉ t.handed) →
    exec (.trackerInput i) s = exec (.trackerInput i) t) ∧
  ∀ (i : TrackerInput) (s : State), running s = true → olderInputs i s = [] →
    (∀ x found r, Handoff.tracked i.handle x found r ∉ s.handed) →
    let s' := { s with handed := s.handed.erase (.trackerInput i) }
    let c := s.host.config
    ((recordAt s i.handle).state ≠ .active → (recordAt s i.handle).state ≠ .offering →
      exec (.trackerInput i) s = .next s') ∧
    ∀ x f found, ((found = .active ∧ recordAt s i.handle = .active x f) ∨
        (found = .offering ∧ ∃ p d, recordAt s i.handle = .offering x f p d)) →
      let gives := fun r : TrackerResult => exec (.trackerInput i) s = .next (hand (.tracked i.handle x found r) s')
      let early := fun g : TreeCycle =>
        2 ^ 31 ≤ (s.time.localCount + BitVec.ofInt 32 (g - s.time.treeCycle).toInt - f.effective).toNat
      let aligned := fun e : Int =>
        let drift := f.drift - f.drift / 8 + e
        let delay : Int := f.launchDelay - (if 0 ≤ drift then (drift + 16) / 32 else -((-drift + 16) / 32))
        let bound : Int := c.treeLoopTime - 40000
        (drift.natAbs < 32 * c.driftThreshold → gives (.aligned drift s.time.localCount none)) ∧
        (32 * c.driftThreshold ≤ drift.natAbs →
          (delay < 0 → gives (.aligned drift s.time.localCount (some ⟨0, some .low⟩))) ∧
          (0 ≤ delay → bound < delay → 0 ≤ bound →
            gives (.aligned drift s.time.localCount (some ⟨bound.toNat, some .high⟩))) ∧
          (0 ≤ delay → delay ≤ bound → gives (.aligned drift s.time.localCount (some ⟨delay.toNat, none⟩))))
      ((x ≠ i.identity ∨ f.correctionPending = true) → exec (.trackerInput i) s = .next s') ∧
      (x = i.identity → f.correctionPending = false →
        (∀ g, i.kind = .missing g →
          (early g → exec (.trackerInput i) s = .next s') ∧
          (¬ early g → f.missingRun + 1 < c.missingLimit → gives (.missing (f.missingRun + 1))) ∧
          (¬ early g → c.missingLimit ≤ f.missingRun + 1 → gives .lost)) ∧
        (∀ g m q, i.kind = .burst g m q →
          let e : Int := q - 4 * ((c.treeLoopTime : Int) + m)
          (early g → exec (.trackerInput i) s = .next s') ∧
          (¬ early g → (e < -256 ∨ 256 < e) →
            (f.misalignedRun = 0 → gives .misaligned) ∧ (f.misalignedRun ≠ 0 → gives .rerange)) ∧
          (¬ early g → -256 ≤ e → e ≤ 256 → aligned e)) ∧
        (∀ e, i.kind = .entrySample e → -256 ≤ e → e ≤ 256 → aligned e))

/-- A tracker result applied to the record it was computed against, else dropped (R17, R46, R115 to R120). That the oldest one handed for
the handle is taken, and that with none handed nothing happens, is the model's choice (log entry 4). -/
def Obligations.TrackerResults : Prop :=
  ∀ (h : Handle) (s : State), running s = true →
    ((∀ x found r, Handoff.tracked h x found r ∉ s.handed) → exec (.trackerResultApplied h) s = .next s) ∧
    ∀ (x : Identity) (found : TrackedState) (r : TrackerResult) (before after : List Handoff),
      s.handed = before ++ .tracked h x found r :: after → (∀ y g q, Handoff.tracked h y g q ∉ before) →
      let t := { s with handed := before ++ after }
      let answers := fun u : State => exec (.trackerResultApplied h) s = .next u
      ((∀ f, found = .active → recordAt s h ≠ .active x f) →
        (∀ f p d, found = .offering → recordAt s h ≠ .offering x f p d) → answers t) ∧
      ∀ (f : Tracking) (put : Tracking → Record) (withdrawn : State → State),
        ((found = .active ∧ put = .active x ∧ withdrawn = id) ∨
          ∃ p d, found = .offering ∧ (put = fun g => .offering x g p d) ∧ withdrawn = queueNotice (.withdraw x p)) →
        recordAt s h = put f →
        (∀ n, r = .missing n → answers (setRecord h (put { f with missingRun := n }) t)) ∧
        (r = .lost → answers (raise (.lost h x)
          (setRecord h (.lost x f.launchDelay f.lastGood (ahead s s.host.config.retention)) (withdrawn t)))) ∧
        (r = .misaligned → answers (setRecord h (put { f with missingRun := 0, misalignedRun := 1 }) t)) ∧
        (r = .rerange → answers (enterReranging h .misaligned t)) ∧
        (∀ drift good, r = .aligned drift good none → answers
          (setRecord h (put { f with drift := drift, lastGood := good, missingRun := 0, misalignedRun := 0 }) t)) ∧
        (∀ drift good k, r = .aligned drift good (some k) →
          let a := { f with
            drift := drift, lastGood := good, missingRun := 0, misalignedRun := 0, atLimit := k.clamped.isSome }
          ∀ limited : State → State,
            ((∃ limit, k.clamped = some limit ∧ f.atLimit = false ∧ limited = raise (.delayLimit h x limit)) ∨
              ((k.clamped = none ∨ f.atLimit = true) ∧ limited = id)) →
            (k.newDelay = f.launchDelay → answers (limited (setRecord h (put { a with drift := 0 }) t))) ∧
            (k.newDelay ≠ f.launchDelay → s.builder.backlog.length < 256 → answers
              (limited (queueMessage (.setDelay h k.newDelay) (some x)
                (setRecord h (put { a with correctionPending := true }) t)))) ∧
            (k.newDelay ≠ f.launchDelay → 256 ≤ s.builder.backlog.length → answers
              (limited (queueMessage (.setDelay h k.newDelay) (some x) (setRecord h (put { a with drift := 0 }) t)))))

/-- The delivery notices of the slate for cycle c: ASSIGN starts the attempts (R39, R99); SET-DELAY activates a record or applies a
pending correction (R41, R121); RETUNE has no effect on any record (R175); for a record that has moved on, a notice does nothing (R45).
The E of a RANGE request is the coarse loop delay where the record holds one, else tree loop time − 40,000 − launch delay (R98); the
slate's cycle is dated by the local count nearest to now (R4). The notices are taken in the order they were handed, on which R45's last
paragraph rests: where others were handed before the one a row names, the row first does what theirs do (R175). That with none handed
nothing happens is the model's choice (log entry 4); the hand-offs of an earlier sequence dropped with the slot are its reading of R99
(log entry 10); a notice taken late is dated by its slate (log entry 22). A cycle number half the range away is dated before now, the
model's reading (log entry 11). -/
def Obligations.DeliveryNotices : Prop :=
  (∀ (d e : Delivery) (before after : List Handoff) (s : State), running s = true →
    s.handed = before ++ .delivered d :: after → (∀ b, Handoff.delivered b ∉ before) → Handoff.delivered e ∈ after →
    e.row ≠ d.row → ∃ t, exec d.row s = .next t ∧ exec e.row s = exec e.row t) ∧
  (∀ (c : Configuration) (r : RangingFields),
    (∀ heard, r.heard = some heard → expectedLoop c r = heard.coarse) ∧
    ∀ delay, r.heard = none → r.launchDelay = some delay → expectedLoop c r = (c.treeLoopTime : Int) - 40000 - delay) ∧
  (∀ (h : Handle) (y : Handoff),
    ofEarlierSequence h y = true ↔ (∃ x o, y = .outcome h x o) ∨ ∃ x c offset, y = .placed h x c offset) ∧
  ∀ (h : Handle) (x : Identity) (c : TreeCycle) (before after : List Handoff) (s : State), running s = true →
    let t := { s with handed := before ++ after }
    (s.handed = before ++ .delivered (.assign h x c) :: after → (∀ b, Handoff.delivered b ∉ before) →
      (∀ r, recordAt s h = .ranging x r → r.stage = .awaitAssign →
        let u := { setRecord h (.ranging x { r with stage := .attempting }) t with
          handed := t.handed.filter fun y => !ofEarlierSequence h y }
        (Hold.ranging ∈ s.sched.stack → exec (.assignDeliveryNotice h) s = .next (setSlot h .idle u)) ∧
        (Hold.ranging ∉ s.sched.stack → exec (.assignDeliveryNotice h) s = .next
          (request ⟨.range (expectedLoop s.host.config r), h, x⟩ (setSlot h (.asked x) u)))) ∧
      ((∀ r, recordAt s h = .ranging x r → r.stage ≠ .awaitAssign) → exec (.assignDeliveryNotice h) s = .next t)) ∧
    (∀ delay, s.handed = before ++ .delivered (.setDelay h x delay c) :: after →
      (∀ b, Handoff.delivered b ∉ before) →
      let answers := fun u : State => exec (.setDelayDeliveryNotice h) s = .next u
      let dated := s.time.localCount + BitVec.ofInt 32 (c - s.time.treeCycle).toInt
      let effective := dated + 1
      let corrected := fun f : Tracking =>
        { f with launchDelay := delay, effective := effective, drift := 0, correctionPending := false }
      (∀ r, recordAt s h = .ranging x r → r.stage = .awaitSetDelay → r.launchDelay = some delay → answers
        (raise (.registered h x (if r.origin = .fresh then .fresh else .rerange))
          (setRecord h
            (.active x
              { launchDelay := delay, effective := effective, drift := 0, correctionPending := false, atLimit := false,
                missingRun := 0, misalignedRun := 0, lastGood := dated - 1 }) t))) ∧
      (∀ f, recordAt s h = .active x f → f.correctionPending = true → answers (setRecord h (.active x (corrected f)) t)) ∧
      (∀ f p d, recordAt s h = .offering x f p d → f.correctionPending = true →
        answers (setRecord h (.offering x (corrected f) p d) t)) ∧
      ((∀ r, recordAt s h = .ranging x r → r.stage ≠ .awaitSetDelay ∨ r.launchDelay ≠ some delay) →
        (∀ f, recordAt s h = .active x f → f.correctionPending = false) →
        (∀ f p d, recordAt s h = .offering x f p d → f.correctionPending = false) → answers t)) ∧
    (s.handed = before ++ .delivered (.retune h x c) :: after → (∀ b, Handoff.delivered b ∉ before) →
      exec (.retuneDeliveryNotice h) s = .next t) ∧
    ((∀ y b, Handoff.delivered (.assign h y b) ∉ s.handed) → exec (.assignDeliveryNotice h) s = .next s) ∧
    ((∀ y e b, Handoff.delivered (.setDelay h y e b) ∉ s.handed) → exec (.setDelayDeliveryNotice h) s = .next s) ∧
    ((∀ y b, Handoff.delivered (.retune h y b) ∉ s.handed) → exec (.retuneDeliveryNotice h) s = .next s)

/-! ### The host port -/

/-- A held part takes nothing but the pin's release; INT and ATTN are released, no response is given, and the outbound lane and the
slate output are silent (R188); a frame cut short has no response; WRONG-STATE answers a command in a part state not listed for it, and
BAD-PARAMETER 0 a frame that fits no command (R179). Outside RUNNING no deadline, word time, lane word, notice, framer report, hearing,
result or delivery notice changes anything (R4, R30, R130, R133, R178). In RUNNING the state is one with no scheduler work owed (R77).
That the response field is empty after a discarded frame and while held, and that a held part's registers stand, is the model's choice
(log entries 13 and 15). -/
def Obligations.CommandsTurnedAway : Prop :=
  (∀ s : State, ∃ t, exec .resetHeld s = .next t ∧ t.host.held = true ∧ intAsserted t.host = false ∧
    attnPulled t.host = false ∧ t.link.laneOut = none ∧ slateOutput t = none ∧ t.host.response = none) ∧
  (∀ (c : Instr) (s : State), s.host.held = true → c ≠ .resetHeld → (∀ straps, c ≠ .resetPinEvent straps) →
    c ≠ .frameDiscarded → exec c s = .next s) ∧
  (∀ s : State, exec .frameDiscarded s = .next { s with host := { s.host with response := none } }) ∧
  (∀ (c : Instr) (s : State), running s = false → actsInRunning c = true → exec c s = .next s) ∧
  ∀ s : State, s.host.held = false → (s.host.part = .running → s.time.owesScheduler = false) →
    let answers := fun (c : Instr) (r : Response) => exec c s = .next { s with host := { s.host with response := some r } }
    (∀ code length, answers (.badFrame code length) (.badParameter 0)) ∧
    (s.host.part ≠ .init → (∀ f, answers (.configure f) .wrongState) ∧ answers .start .wrongState) ∧
    (s.host.part = .aligning → ∀ x, answers (.bar x) .wrongState ∧ answers (.unbar x) .wrongState) ∧
    (s.host.part ≠ .running →
      (∀ b, answers (.readRecord b) .wrongState ∧ answers (.deregister b) .wrongState ∧ answers (.rerange b) .wrongState ∧
        answers (.suspend b) .wrongState) ∧
      (∀ x, answers (.find x) .wrongState) ∧ (∀ b d, answers (.handover b d) .wrongState) ∧
      answers .resume .wrongState ∧ answers .discoverNow .wrongState)

/-- READ-STATUS, item by item (R183, R79, R110, R129, R139, R177), READ-EVENT, READ-COUNTERS, CLEAR-ATTENTION, READ-RECORD and FIND in
every part state that takes them (R185, R186, R187, R86, R26, R27): what each answers, what it clears, and that nothing else changes; in
RUNNING the state is one with no scheduler work owed (R77). The bytes that CLEAR-ATTENTION refuses are R192's. That 0 is no and 1 is yes
in READ-COUNTERS' clear byte is the model's choice (log entry 12). -/
def Obligations.ReadingCommands : Prop :=
  (∀ s : State, s.host.held = false → (s.host.part = .running → s.time.owesScheduler = false) →
    let spans := fun is : SpanKind → Bool => s.sched.spans.countP fun x => is x.kind
    let slots := fun is : Slot → Bool => (List.finRange 128).countP fun h => is (slotAt s h)
    exec .readStatus s = .next (respond (.ok (.status
      { part := s.host.part
        ownChannel := s.host.ownChannel
        config := s.host.config
        digest := digest s.host.config
        treeCycle := s.time.treeCycle
        localCount := s.time.localCount
        eventCount := s.host.events.length
        intAsserted := !s.host.events.isEmpty
        attention := s.host.attention
        capture := s.classifier.capture
        window := s.sched.window.map fun w =>
          { stage := w.stage, grantCycle := w.grantCycle, first := w.first,
            length := (cycleDiff w.last w.first + 1).toNat, bursts := w.bursts }
        due := s.sched.due
        dueDeadline := if s.sched.due then none else s.sched.dueDeadline
        stack := s.sched.stack
        ownSpans := spans fun
          | .ownDiscovery => true
          | _ => false
        peerSpans := spans fun
          | .peerQuiet _ => true
          | _ => false
        rangeSpans := spans fun
          | .range _ => true
          | _ => false
        verifySpans := spans fun
          | .verify _ => true
          | _ => false
        placementCount := s.sched.placements.length
        slotsAsked := slots fun
          | .asked _ => true
          | _ => false
        slotsOut := slots fun
          | .out _ _ _ => true
          | _ => false
        slotsAnswered := slots fun
          | .answered _ => true
          | _ => false
        heldByRanging :=
          if Hold.ranging ∈ s.sched.stack then
            (List.finRange 128).countP fun h =>
              match recordAt s h, slotAt s h with
              | .ranging _ r, .idle => r.stage == .attempting && r.attempts < 4
              | _, _ => false
          else 0
        outboundCount := s.link.outbound.length
        lanes := [0, 1, 2].map fun l : LaneNo =>
          { lane := l, channel := laneChannel s.host.ownChannel l
            configured := decide ((laneChannel s.host.ownChannel l).val < s.host.config.channelCount)
            state := s.link.lanes[l].state, lastFill := s.link.lanes[l].lastFill }
        backlogCount := s.builder.backlog.length
        reservationCount := s.builder.reservations.length
        slateCycle := s.builder.slate.cycle
        slateGrants := s.builder.slate.grants.length
        slateMessages := s.builder.slate.messages.length
        slateGrantable := s.builder.slate.grantable.length })) s)) ∧
  ∀ s : State, s.host.held = false → (s.host.part = .running → s.time.owesScheduler = false) →
    let ok := fun d : ResponseData => respond (.ok d)
    (s.host.events = [] → exec .readEvent s = .next (respond .empty s)) ∧
    (∀ e rest, s.host.events = e :: rest →
      exec .readEvent s = .next (ok (.event e) { s with host := { s.host with events := rest } })) ∧
    (exec (.readCounters 0) s = .next (ok (.counters s.host.counters) s)) ∧
    (exec (.readCounters 1) s = .next
      (ok (.counters s.host.counters) { s with host := { s.host with counters := Vector.replicate 18 0 } })) ∧
    (∀ b : Byte, 16 ≤ b.toNat ∨ b = 0 → exec (.clearAttention b) s = .next (respond (.badParameter 1) s)) ∧
    (∀ b : Byte, b ≠ 0 → b.toNat < 16 → exec (.clearAttention b) s = .next (ok .nothing
      { s with
        classifier := { s.classifier with capture := if b.getLsbD 0 then none else s.classifier.capture }
        host :=
          { s.host with
            attention :=
              { header := s.host.attention.header && !b.getLsbD 0
                duplicate := s.host.attention.duplicate && !b.getLsbD 1
                lane := s.host.attention.lane && !b.getLsbD 2
                overrun := s.host.attention.overrun && !b.getLsbD 3 } } })) ∧
    (s.host.part = .running →
      (∀ b : Byte, 128 ≤ b.toNat → exec (.readRecord b) s = .next (respond (.badParameter 1) s)) ∧
      (∀ (b : Byte) (h : Handle), b.toNat = h.val → exec (.readRecord b) s = .next (ok (.record (recordAt s h)) s)) ∧
      ∀ x : Identity, exec (.find x) s = .next (ok
        (.found
          { held := (holder s x).map fun h => (h, (recordAt s h).state)
            barred := decide (x ∈ s.table.barred)
            contested := (contestedEntry s x).map Contested.expiry }) s))

/-- What the host sees of the port: INT while an event waits and ATTN while a condition is set, in a part that is not held (R184, R187,
R188); the response frame with its code, parameter number, data length and data; the 15 bytes of each event record, by kind, and bit k of
the event mask for the kind k + 1 (R192, R180). That
WINDOW-CLOSED's burst count is one byte is the model's choice (log entry 27); the data bytes of the responses whose layout the manual
leaves out are free (log entry 13). -/
def Obligations.HostPortBytes : Prop :=
  (∀ hp : HostPort, hp.held = false →
    (intAsserted hp = true ↔ hp.events ≠ []) ∧
    (attnPulled hp = true ↔ hp.attention.header = true ∨ hp.attention.duplicate = true ∨ hp.attention.lane = true ∨
      hp.attention.overrun = true)) ∧
  (Response.frame (.ok .nothing) = [0, 0, 0] ∧ Response.wrongState.frame = [1, 0, 0] ∧ Response.busy.frame = [2, 0, 0] ∧
    Response.empty.frame = [3, 0, 0] ∧ Response.noSuchHandle.frame = [4, 0, 0] ∧ Response.full.frame = [5, 0, 0] ∧
    Response.laneDown.frame = [6, 0, 0] ∧ (∀ n, (Response.badParameter n).frame = [7, BitVec.ofNat 8 n, 0]) ∧
    (∀ e : EventRecord, e.bytes.length = 15 ∧ Response.frame (.ok (.event e)) = [0, 0, 15] ++ e.bytes) ∧
    ∀ d : ResponseData, ∃ data, Response.frame (.ok d) = [0, 0, BitVec.ofNat 8 data.length] ++ data) ∧
  (∀ (c : Configuration) (e : EventRecord) (k : Nat), k < 19 → e.bytes.head? = some (BitVec.ofNat 8 (k + 1)) →
    e.event.masked c = c.eventMask.getLsbD k) ∧
  ∀ (c : TreeCycle) (h g : Handle) (x : Identity) (p : Channel) (a : Byte) (n : Nat) (m k : BitVec 4) (e : Int),
    let bytes := fun v : Event => EventRecord.bytes ⟨c, v⟩
    let stamp : List Byte := [c.extractLsb' 8 8, c.extractLsb' 0 8]
    let identity : List Byte :=
      [x.extractLsb' 40 8, x.extractLsb' 32 8, x.extractLsb' 24 8, x.extractLsb' 16 8, x.extractLsb' 8 8, x.extractLsb' 0 8]
    let named := fun (kind : Byte) (detail : List Byte) => [kind] ++ stamp ++ [3, BitVec.ofNat 8 h.val] ++ identity ++ detail
    let heard := fun (kind : Byte) (detail : List Byte) => [kind] ++ stamp ++ [2, 0] ++ identity ++ detail
    let bare := fun (kind : Byte) (detail : List Byte) => [kind] ++ stamp ++ [0, 0, 0, 0, 0, 0, 0, 0] ++ detail
    let ch : Byte := BitVec.ofNat 8 p.val
    let coarse : BitVec 32 := BitVec.ofInt 32 e
    bytes (.registered h x .fresh) = named 1 [0, 0, 0, 0] ∧ bytes (.registered h x .rerange) = named 1 [1, 0, 0, 0] ∧
    bytes (.registered h x (.handover p)) = named 1 [2, ch, 0, 0] ∧
    bytes (.rangingFailed h x .noResponse) = named 2 [0, 0, 0, 0] ∧
    bytes (.rangingFailed h x .noAgreement) = named 2 [1, 0, 0, 0] ∧
    bytes (.rangingFailed h x .beyondReach) = named 2 [2, 0, 0, 0] ∧
    bytes (.rangingFailed h x .notQueued) = named 2 [3, 0, 0, 0] ∧ bytes (.lost h x) = named 3 [0, 0, 0, 0] ∧
    bytes (.released h x .retention) = named 4 [0, 0, 0, 0] ∧
    bytes (.released h x (.peerClaim p)) = named 4 [1, ch, 0, 0] ∧
    bytes (.duplicate h x p) = named 5 [ch, 0, 0, 0] ∧ bytes (.claimYielded h x p) = named 6 [ch, 0, 0, 0] ∧
    bytes (.tableFull x a) = heard 7 [a, 0, 0, 0] ∧ bytes (.barredHeard x a) = heard 8 [a, 0, 0, 0] ∧
    bytes (.outOfBand x e) = heard 9
      [coarse.extractLsb' 24 8, coarse.extractLsb' 16 8, coarse.extractLsb' 8 8, coarse.extractLsb' 0 8] ∧
    bytes (.crossHeard x p a) = heard 10 [ch, a, 0, 0] ∧ bytes (.tuneSent x p) = heard 11 [ch, 0, 0, 0] ∧
    bytes (.delayLimit h x .low) = named 12 [0, 0, 0, 0] ∧ bytes (.delayLimit h x .high) = named 12 [1, 0, 0, 0] ∧
    bytes (.rerange h x (.heard a)) = named 13 [0, a, 0, 0] ∧ bytes (.rerange h x .misaligned) = named 13 [1, 0, 0, 0] ∧
    bytes (.rerange h x .host) = named 13 [2, 0, 0, 0] ∧
    bytes (.handoverDone h x p g) = named 14 [ch, BitVec.ofNat 8 g.val, 0, 0] ∧
    (∀ reason, bytes (.handoverDeclined h x p reason) = named 15 [ch,
      match reason with
      | .full => 0
      | .barred => 1
      | .present => 2
      | .notRunning => 3
      | .unknown => 4
      | .noAnswer => 5, 0, 0]) ∧
    (∀ side cause, bytes (.handoverLapsed h x side p cause) = named 16 [if side = .source then 0 else 1, ch,
      match cause with
      | .notice => 0
      | .deadline => 1
      | .withdrawn => 2, 0]) ∧
    (∀ left entered, bytes (.laneChange p left entered) =
      let number := fun v : LaneState => match v with
        | .silent => (0 : Byte)
        | .seeking => 1
        | .heard => 2
        | .up => 3
        | .hold => 4
        | .absent => 5
      bare 17 [ch, number left, number entered, 0]) ∧
    bytes (.configMismatch p m k) = bare 18 [ch, m.setWidth 8, k.setWidth 8, 0] ∧
    bytes (.windowClosed n) = bare 19 [BitVec.ofNat 8 n, 0, 0, 0]

/-- CONFIGURE takes a whole block whose every parameter is within R180's ranges, or reports the first parameter that is not, by R180's
numbers; an accepted block bounds the window (R62). That a set mask bit of 19 to 31 fails parameter 17 is the model's choice (log entry
12). START (R181). RESTART, a strobe taken before it finished first, and what it keeps and leaves (R182, R6, R177, R29, R78, R96, R97,
R130, R133; that the strobe is finished first is the model's reading, log entry 21, and the order in which it is finished its choice,
log entry 7). The clause on the link also gives what R130 and R133 do not name, which is the model's choice: the next alternation bit
and the two word counts (log entry 20), and each receiver's mismatch-raised flag clear, silence timer 0 and no notice in assembly (log
entry 31). -/
def Obligations.ConfigureStartRestart : Prop :=
  (∀ (f : ConfigFrame) (s : State), s.host.held = false → s.host.part = .init →
    let own := s.host.ownChannel.val
    let within := fun (w : BitVec 32) (a b : Nat) => a ≤ w.toNat ∧ w.toNat ≤ b
    let ranges : List Prop :=
      [within f.channelCount 1 4 ∧ own < f.channelCount.toNat,                                          -- 1
        within f.treeLoopTime 400000 2137151,                                                          -- 2
        f.minLoopDelay.toNat ≤ f.maxLoopDelay.toNat,                                                   -- 3
        f.maxLoopDelay.toNat + 40000 ≤ f.treeLoopTime.toNat ∧
          f.maxLoopDelay.toNat ≤ f.minLoopDelay.toNat + 1250000,                                       -- 4
        within f.lead 8 15 ∧ (f.treeLoopTime.toNat + 312499) / 312500 + 2 ≤ f.lead.toNat,              -- 5
        within f.discoveryPeriod 100 60000,                                                            -- 6
        within f.fastPeriod 20 1000,                                                                   -- 7
        within f.settleTime 4 64,                                                                      -- 8
        within f.rangingTolerance 1 16,                                                                -- 9
        within f.driftThreshold 1 16,                                                                  -- 10
        within f.missingLimit 2 15,                                                                    -- 11
        within f.freshness 8 1000,                                                                     -- 12
        within f.retention 1 60000,                                                                    -- 13
        within f.handoverTime 50 10000,                                                                -- 14
        within f.absenceTime 1000 60000,                                                               -- 15
        f.trainingPattern.toNat ≤ 255,                                                                 -- 16
        f.eventMask.toNat < 2 ^ 19]                                                                    -- 17
    ((∀ range ∈ ranges, range) → exec (.configure f) s = .next (respond (.ok .nothing)
      { s with
        host :=
          { s.host with
            config :=
              { channelCount := f.channelCount.toNat, treeLoopTime := f.treeLoopTime.toNat
                minLoopDelay := f.minLoopDelay.toNat, maxLoopDelay := f.maxLoopDelay.toNat, lead := f.lead.toNat
                discoveryPeriod := f.discoveryPeriod.toNat, fastPeriod := f.fastPeriod.toNat
                settleTime := f.settleTime.toNat, rangingTolerance := f.rangingTolerance.toNat
                driftThreshold := f.driftThreshold.toNat, missingLimit := f.missingLimit.toNat
                freshness := f.freshness.toNat, retention := f.retention.toNat, handoverTime := f.handoverTime.toNat
                absenceTime := f.absenceTime.toNat, trainingPattern := f.trainingPattern.setWidth 8
                eventMask := f.eventMask.setWidth 19 } } })) ∧
    (∀ (n : Nat) (range : Prop), ranges[n]? = some range → ¬ range → (∀ m r, m < n → ranges[m]? = some r → r) →
      exec (.configure f) s = .next (respond (.badParameter (n + 1)) s)) ∧
    ((∀ range ∈ ranges, range) →
      ConfigWithin (configOfFrame f) ∧ 1 ≤ windowLength (configOfFrame f) ∧ windowLength (configOfFrame f) ≤ 6 ∧
        grantLead (configOfFrame f) + 2 ≤ (configOfFrame f).lead)) ∧
  (∀ s : State, s.host.held = false → s.host.part = .init →
    (s.host.config.channelCount ≤ s.host.ownChannel.val → exec .start s = .next (respond (.badParameter 0) s)) ∧
    (s.host.ownChannel.val < s.host.config.channelCount → exec .start s = .next
      (respond (.ok .nothing) { s with host := { s.host with part := .aligning } }))) ∧
  ∀ s : State, s.host.held = false →
    let done := finishStrobe s
    ∃ t, exec .restart s = .next t ∧
      t.host = { done.host with part := .init, response := some (.ok .nothing) } ∧
      t.host.config = s.host.config ∧ t.host.ownChannel = s.host.ownChannel ∧
      t.time.treeCycle = s.time.treeCycle ∧ t.time.localCount = s.time.localCount ∧
      (∀ h : Handle, recordAt t h = .free ∧ slotAt t h = .idle) ∧ t.table.barred = s.table.barred ∧ t.table.contested = [] ∧
      t.sched = .atReset ∧ t.classifier.issued = [] ∧ t.classifier.capture = s.classifier.capture ∧ t.link = .atReset ∧
      t.builder.backlog = [] ∧ t.builder.reservations = [] ∧ t.builder.slate = done.builder.slate ∧
      (s.time.owesBuild = false → t.builder.slate = s.builder.slate) ∧ t.pending = s.pending ∧
      (s.host.part ≠ .running → t.host = { s.host with part := .init, response := some (.ok .nothing) })

/-- BAR, UNBAR and DEREGISTER: each answer in its order, and the DROP and RELEASE of a record they free (R22, R23, R50, R52, R32; that a
record re-ranged by a misaligned burst is named by identity until its ASSIGN is delivered, and R124's second row is the later case, is
log entry 25). The order of the barred list is the model's choice (log entry 19). -/
def Obligations.BarUnbarDeregister : Prop :=
  ∀ s : State, s.host.held = false → (s.host.part = .running → s.time.owesScheduler = false) →
    let freed := fun (h : Handle) (x : Identity) (reason : DropReason) =>
      let named := match recordAt s h with
        | .pending _ _ _ => Address.byIdentity x
        | .ranging _ r => if r.stage = .awaitAssign then Address.byIdentity x else Address.byHandle h
        | _ => Address.byHandle h
      freeRecord h (queueNotice (.release x) (queueMessage (.drop named reason) none s))
    let inHandover := fun h : Handle =>
      (recordAt s h).state = .offering ∨ (recordAt s h).state = .leaving ∨ (recordAt s h).state = .arriving
    (s.host.part ≠ .aligning → ∀ x : Identity,
      let barredIn := fun t : State => { t with table := { t.table with barred := t.table.barred ++ [x] } }
      (x ∈ s.table.barred → exec (.bar x) s = .next (respond (.ok .nothing) s)) ∧
      (x ∉ s.table.barred → 16 ≤ s.table.barred.length → exec (.bar x) s = .next (respond .full s)) ∧
      (x ∉ s.table.barred → s.table.barred.length < 16 →
        (holder s x = none → exec (.bar x) s = .next (respond (.ok .nothing) (barredIn s))) ∧
        ∀ h, holder s x = some h →
          (inHandover h → exec (.bar x) s = .next (respond .busy s)) ∧
          (¬ inHandover h → exec (.bar x) s = .next (respond (.ok .nothing) (barredIn (freed h x .barred))))) ∧
      exec (.unbar x) s = .next (respond (.ok .nothing)
        { s with table := { s.table with barred := s.table.barred.filter (· != x) } })) ∧
    (s.host.part = .running →
      (∀ b : Byte, 128 ≤ b.toNat → exec (.deregister b) s = .next (respond (.badParameter 1) s)) ∧
      ∀ (b : Byte) (h : Handle), b.toNat = h.val →
        (recordAt s h = .free → exec (.deregister b) s = .next (respond .noSuchHandle s)) ∧
        (inHandover h → exec (.deregister b) s = .next (respond .busy s)) ∧
        (¬ inHandover h → ∀ x, (recordAt s h).identity? = some x →
          exec (.deregister b) s = .next (respond (.ok .nothing) (freed h x .host))))

/-- RERANGE of a tracked or LOST record (R51), and HANDOVER's cases in order, with the offer it makes (R157). -/
def Obligations.RerangeAndHandover : Prop :=
  ∀ s : State, s.host.held = false → s.host.part = .running → s.time.owesScheduler = false →
    (∀ b : Byte, 128 ≤ b.toNat → exec (.rerange b) s = .next (respond (.badParameter 1) s) ∧
      ∀ d, exec (.handover b d) s = .next (respond (.badParameter 1) s)) ∧
    ∀ (b : Byte) (h : Handle), b.toNat = h.val →
      (recordAt s h = .free → exec (.rerange b) s = .next (respond .noSuchHandle s)) ∧
      (((recordAt s h).state = .active ∨ (recordAt s h).state = .offering ∨ (recordAt s h).state = .lost) →
        exec (.rerange b) s = .next (respond (.ok .nothing) (enterReranging h .host s))) ∧
      (((recordAt s h).state = .pending ∨ (recordAt s h).state = .ranging ∨ (recordAt s h).state = .leaving ∨
        (recordAt s h).state = .arriving) → exec (.rerange b) s = .next (respond .busy s)) ∧
      (∀ d : Byte, (s.host.config.channelCount ≤ d.toNat ∨ 4 ≤ d.toNat ∨ d.toNat = s.host.ownChannel.val) →
        exec (.handover b d) s = .next (respond (.badParameter 2) s)) ∧
      ∀ (d : Byte) (target : Channel), d.toNat = target.val → target.val < s.host.config.channelCount →
        target ≠ s.host.ownChannel →
        (recordAt s h = .free → exec (.handover b d) s = .next (respond .noSuchHandle s)) ∧
        ((recordAt s h).state ≠ .free → (recordAt s h).state ≠ .active →
          exec (.handover b d) s = .next (respond .busy s)) ∧
        (∀ x f, recordAt s h = .active x f → ∀ l : LaneNo, laneChannel s.host.ownChannel l = target →
          (s.link.lanes[l].state ≠ .up → exec (.handover b d) s = .next (respond .laneDown s)) ∧
          (s.link.lanes[l].state = .up → exec (.handover b d) s = .next (respond (.ok .nothing)
            (setRecord h (.offering x f target (ahead s 16))
              (queueNotice (.handoff x target (BitVec.ofNat 21 f.launchDelay)) s)))))

/-- SUSPEND and RESUME of the two kinds of hold, with the placements withdrawn and asked for again (R73 to R76, R101; the model's reading
of R76 beside R70 is log entry 24), and DISCOVER-NOW (R60). -/
def Obligations.SuspendResumeDiscoverNow : Prop :=
  ∀ s : State, s.host.held = false → s.host.part = .running → s.time.owesScheduler = false →
    (∀ b : Byte, 2 ≤ b.toNat → exec (.suspend b) s = .next (respond (.badParameter 1) s)) ∧
    (∀ (b : Byte) (k : Hold), ((b = 0 ∧ k = .discovery) ∨ (b = 1 ∧ k = .ranging)) → k ∈ s.sched.stack →
      exec (.suspend b) s = .next (respond .busy s)) ∧
    (Hold.discovery ∉ s.sched.stack → exec (.suspend 0) s = .next (respond (.ok .nothing)
      { s with sched := { s.sched with stack := s.sched.stack ++ [.discovery] } })) ∧
    (Hold.ranging ∉ s.sched.stack → (s.sched.placements.map Request.handle).Nodup → ∃ t,
      exec (.suspend 1) s = .next (respond (.ok .nothing) t) ∧
      t = { s with sched := t.sched, slots := t.slots } ∧
      t.sched =
        { s.sched with
          stack := s.sched.stack ++ [.ranging], placements := s.sched.placements.filter fun r => !r.isRange } ∧
      ∀ h, slotAt t h =
        if s.sched.placements.any (fun r => r.handle == h && r.isRange) then .idle else slotAt s h) ∧
    (s.sched.stack = [] → exec .resume s = .next (respond .empty s)) ∧
    (∀ below, s.sched.stack = below ++ [.discovery] → exec .resume s = .next (respond (.ok .nothing)
      { s with sched := { s.sched with stack := below } })) ∧
    (∀ below, s.sched.stack = below ++ [.ranging] → ∃ t, exec .resume s = .next (respond (.ok .nothing) t) ∧
      t.sched.stack = below ∧ t.table = s.table ∧ t.host = s.host ∧ t.link = s.link ∧
      ∀ h, slotAt t h =
        match recordAt s h with
        | .ranging x r =>
          if r.stage = .attempting ∧ r.attempts < 4 ∧ slotAt s h = .idle then .asked x else slotAt s h
        | _ => slotAt s h) ∧
    (∀ below first others x r, s.sched.stack = below ++ [.ranging] →
      (List.finRange 128).filter (awaitsAttempt s) = first :: others →
      (∀ q ∈ s.sched.placements, q.handle ∉ first :: others) → recordAt s first = .ranging x r →
      let u := request ⟨.range (expectedLoop s.host.config r), first, x⟩
        (setSlot first (.asked x) { s with sched := { s.sched with stack := below } })
      ∃ t, exec .resume s = .next (respond (.ok .nothing) t) ∧
        t.sched =
          { u.sched with
            placements := u.sched.placements ++ others.filterMap fun h =>
              match recordAt s h with
              | .ranging y f => some ⟨.range (expectedLoop s.host.config f), h, y⟩
              | _ => none }) ∧
    (s.sched.window.isSome = true → exec .discoverNow s = .next (respond .busy s)) ∧
    (s.sched.window = none → s.sched.due = true → exec .discoverNow s = .next (respond (.ok .nothing) s)) ∧
    (s.sched.window = none → s.sched.due = false → exec .discoverNow s = .next (respond (.ok .nothing)
      { s with sched := { s.sched with due := true, dueDeadline := none } }))

/-- The frame of every host command, with its code, its length and its parameters most significant byte first, spells that command and
no other; a complete frame that is no command's is a BAD_FRAME, one cut short a FRAME_DISCARDED (R179, R192). What follows a complete
frame in one select is the model's reading (log entry 18) and plays no part here. -/
def Obligations.FrameRoundTrip : Prop :=
  (∀ (i : Instr) (bytes : List Byte), encodeFrame i = some bytes → decodeFrame bytes = i) ∧
  (∀ i : Instr, (encodeFrame i).isSome = true ↔ hostCommand i = true ∧ ∀ code length, i ≠ .badFrame code length) ∧
  (∀ (x : Identity) (a b : Byte) (f : ConfigFrame),
    let identity : List Byte :=
      [x.extractLsb' 40 8, x.extractLsb' 32 8, x.extractLsb' 24 8, x.extractLsb' 16 8, x.extractLsb' 8 8, x.extractLsb' 0 8]
    let word := fun w : BitVec 32 => [w.extractLsb' 24 8, w.extractLsb' 16 8, w.extractLsb' 8 8, w.extractLsb' 0 8]
    encodeFrame .readStatus = some [0x01, 0] ∧
    encodeFrame (.configure f) = some ([0x02, 68] ++ word f.channelCount ++ word f.treeLoopTime ++ word f.minLoopDelay ++
      word f.maxLoopDelay ++ word f.lead ++ word f.discoveryPeriod ++ word f.fastPeriod ++ word f.settleTime ++
      word f.rangingTolerance ++ word f.driftThreshold ++ word f.missingLimit ++ word f.freshness ++ word f.retention ++
      word f.handoverTime ++ word f.absenceTime ++ word f.trainingPattern ++ word f.eventMask) ∧
    encodeFrame .start = some [0x03, 0] ∧ encodeFrame .restart = some [0x04, 0] ∧ encodeFrame .readEvent = some [0x05, 0] ∧
    encodeFrame (.readCounters a) = some [0x06, 1, a] ∧ encodeFrame (.clearAttention a) = some [0x07, 1, a] ∧
    encodeFrame (.bar x) = some ([0x08, 6] ++ identity) ∧ encodeFrame (.unbar x) = some ([0x09, 6] ++ identity) ∧
    encodeFrame (.readRecord a) = some [0x0A, 1, a] ∧ encodeFrame (.find x) = some ([0x0B, 6] ++ identity) ∧
    encodeFrame (.deregister a) = some [0x0C, 1, a] ∧ encodeFrame (.rerange a) = some [0x0D, 1, a] ∧
    encodeFrame (.handover a b) = some [0x0E, 2, a, b] ∧ encodeFrame (.suspend a) = some [0x0F, 1, a] ∧
    encodeFrame .resume = some [0x10, 0] ∧ encodeFrame .discoverNow = some [0x11, 0]) ∧
  ∀ (code length : Byte) (ps : List Byte),
    (ps.length < length.toNat → decodeFrame (code :: length :: ps) = .frameDiscarded) ∧
    (ps.length = length.toNat → (∀ i, encodeFrame i ≠ some (code :: length :: ps)) →
      decodeFrame (code :: length :: ps) = .badFrame code length)

/-! ### Invariants -/

/-- Every step keeps the laws of the table: an identity is held once, and no held identity is barred or contested (R18, R22, R24). -/
def Obligations.EveryStepKeepsTheTableLaws : Prop :=
  ∀ s t : State, TableLaws s → step s = .next t → TableLaws t

/-- Every step keeps these bounds: 16 barred identities (R22), 16 contested ones (R24), 128 outbound notices (R129), 256 messages in the
backlog (R170), 64 events (R184), no hold twice on the stack (R73), one waiting request per record (R70), 32 directed spans and 2
PEER-QUIET spans per channel (R55), 8 directed grants per cycle (R69), 16 identity bursts per window (R64); and the discovery window stays
clear of directed spans (R57). -/
def Obligations.EveryStepKeepsTheBounds : Prop :=
  (∀ s t : State, WithinBounds s → step s = .next t → WithinBounds t) ∧
  ∀ s t : State, DiscoveryClear s → step s = .next t → DiscoveryClear t

/-- Every step keeps the window where its first cycle puts it, at most one OWN-DISCOVERY span, 39 spans in all, at most one DISCOVER
grant, and a calendar for cycles up to now + 16 (R55, R56, R63, R64, R65, R69). With a well-formed command in front it keeps the
issued-grant table to 32 entries, each with its span listed until that span is removed (R82), and every pending reservation but a
PEER-QUIET one in the span list, 33 at most (R173; a PEER-QUIET span half the cycle range away may pass before its reservation goes, so
those are not counted). -/
def Obligations.EveryStepKeepsTheWindowAndGrantLaws : Prop :=
  (∀ s t : State, WindowLaws s → step s = .next t → WindowLaws t) ∧
  ∀ s t : State, (∀ c ∈ s.pending.head?, c.wellFormed = true) → GrantLaws s → step s = .next t → GrantLaws t

/-- Every step keeps a ranging sequence to 4 attempts and 4 samples, its slot in agreement with what is under way for it, and every
waiting request that of a record that waits for it (R15, R70, R97, R100, R104). -/
def Obligations.EveryStepKeepsTheAttemptLaws : Prop :=
  ∀ s t : State, AttemptLaws s → step s = .next t → AttemptLaws t

/-- Every step keeps the part quiet outside RUNNING, the two cycle counts in step, the configuration within its ranges, and the ranges
of the lane receivers and of the transmitter (R4, R130, R131, R134 to R140, R178, R180). At the reset-pin event, at RESTART and in
SILENT the link keeps its laws by values that are the model's choice (log entries 20, 31 and 32). -/
def Obligations.EveryStepKeepsThePartStateLaws : Prop :=
  (∀ s t : State, QuietLaw s → step s = .next t → QuietLaw t) ∧
  (∀ s t : State, CountsAgree s → step s = .next t → CountsAgree t) ∧
  (∀ s t : State, ConfigWithin s.host.config → step s = .next t → ConfigWithin t.host.config) ∧
  ∀ s t : State, LinkLaws s → step s = .next t → LinkLaws t

/-- Every step keeps each launch delay within tree loop time − 40,000, and the runs and the drift sum of the tracked records within
theirs (R19, R115, R117, R118). -/
def Obligations.EveryStepKeepsTheDelayAndTrackingLaws : Prop :=
  (∀ s t : State, DelayLaw s → step s = .next t → DelayLaw t) ∧
  ∀ s t : State, TrackingLaw s → step s = .next t → TrackingLaw t

/-- The reset state has every law that the steps keep. The link's laws rest there on values that are the model's choice (log entries 20
and 31). -/
def Obligations.ResetHasEveryLaw : Prop :=
  TableLaws State.reset ∧ WithinBounds State.reset ∧ DiscoveryClear State.reset ∧ QuietLaw State.reset ∧
    CountsAgree State.reset ∧ ConfigWithin State.reset.host.config ∧ LinkLaws State.reset ∧ DelayLaw State.reset ∧
    TrackingLaw State.reset ∧ WindowLaws State.reset ∧ GrantLaws State.reset ∧ AttemptLaws State.reset
end

