-- ==== Sys2Proof/Laws/State.lean ====
section
/-! SUPPORT. What each shared update leaves of the state, field by field, so that no proof unfolds a record update. -/

namespace Sys2Proof.Machine

/-! ### `setRecord` -/

@[simp] theorem setRecord_pending (h : Handle) (r : Record) (s : State) : (setRecord h r s).pending = s.pending := rfl

@[simp] theorem setRecord_time (h : Handle) (r : Record) (s : State) : (setRecord h r s).time = s.time := rfl

@[simp] theorem setRecord_sched (h : Handle) (r : Record) (s : State) : (setRecord h r s).sched = s.sched := rfl

@[simp] theorem setRecord_classifier (h : Handle) (r : Record) (s : State) : (setRecord h r s).classifier = s.classifier := rfl

@[simp] theorem setRecord_slots (h : Handle) (r : Record) (s : State) : (setRecord h r s).slots = s.slots := rfl

@[simp] theorem setRecord_link (h : Handle) (r : Record) (s : State) : (setRecord h r s).link = s.link := rfl

@[simp] theorem setRecord_builder (h : Handle) (r : Record) (s : State) : (setRecord h r s).builder = s.builder := rfl

@[simp] theorem setRecord_host (h : Handle) (r : Record) (s : State) : (setRecord h r s).host = s.host := rfl

@[simp] theorem setRecord_handed (h : Handle) (r : Record) (s : State) : (setRecord h r s).handed = s.handed := rfl

@[simp] theorem setRecord_freeCount (h : Handle) (r : Record) (s : State) : (setRecord h r s).freeCount = s.freeCount := rfl

@[simp] theorem backlogRoom_setRecord (h : Handle) (r : Record) (s : State) : backlogRoom (setRecord h r s) = backlogRoom s :=
  congrArg (fun b : SlateBuilder => decide (b.backlog.length < 256)) (setRecord_builder h r s)

@[simp] theorem slotAt_setRecord (h : Handle) (r : Record) (s : State) (g : Handle) : slotAt (setRecord h r s) g = slotAt s g := by
  simp [slotAt]

/-! ### `setSlot` -/

@[simp] theorem setSlot_pending (h : Handle) (v : Slot) (s : State) : (setSlot h v s).pending = s.pending := rfl

@[simp] theorem setSlot_time (h : Handle) (v : Slot) (s : State) : (setSlot h v s).time = s.time := rfl

@[simp] theorem setSlot_table (h : Handle) (v : Slot) (s : State) : (setSlot h v s).table = s.table := rfl

@[simp] theorem setSlot_sched (h : Handle) (v : Slot) (s : State) : (setSlot h v s).sched = s.sched := rfl

@[simp] theorem setSlot_classifier (h : Handle) (v : Slot) (s : State) : (setSlot h v s).classifier = s.classifier := rfl

@[simp] theorem setSlot_link (h : Handle) (v : Slot) (s : State) : (setSlot h v s).link = s.link := rfl

@[simp] theorem setSlot_builder (h : Handle) (v : Slot) (s : State) : (setSlot h v s).builder = s.builder := rfl

@[simp] theorem setSlot_host (h : Handle) (v : Slot) (s : State) : (setSlot h v s).host = s.host := rfl

@[simp] theorem setSlot_handed (h : Handle) (v : Slot) (s : State) : (setSlot h v s).handed = s.handed := rfl

@[simp] theorem setSlot_freeCount (h : Handle) (v : Slot) (s : State) : (setSlot h v s).freeCount = s.freeCount := rfl

@[simp] theorem recordAt_setSlot (h : Handle) (v : Slot) (s : State) (g : Handle) : recordAt (setSlot h v s) g = recordAt s g := by
  simp [recordAt]

@[simp] theorem backlogRoom_setSlot (h : Handle) (v : Slot) (s : State) : backlogRoom (setSlot h v s) = backlogRoom s :=
  congrArg (fun b : SlateBuilder => decide (b.backlog.length < 256)) (setSlot_builder h v s)

/-! ### `hand` -/

@[simp] theorem hand_pending (x : Handoff) (s : State) : (hand x s).pending = s.pending := rfl

@[simp] theorem hand_time (x : Handoff) (s : State) : (hand x s).time = s.time := rfl

@[simp] theorem hand_table (x : Handoff) (s : State) : (hand x s).table = s.table := rfl

@[simp] theorem hand_sched (x : Handoff) (s : State) : (hand x s).sched = s.sched := rfl

@[simp] theorem hand_classifier (x : Handoff) (s : State) : (hand x s).classifier = s.classifier := rfl

@[simp] theorem hand_slots (x : Handoff) (s : State) : (hand x s).slots = s.slots := rfl

@[simp] theorem hand_link (x : Handoff) (s : State) : (hand x s).link = s.link := rfl

@[simp] theorem hand_builder (x : Handoff) (s : State) : (hand x s).builder = s.builder := rfl

@[simp] theorem hand_host (x : Handoff) (s : State) : (hand x s).host = s.host := rfl

@[simp] theorem hand_freeCount (x : Handoff) (s : State) : (hand x s).freeCount = s.freeCount := rfl

@[simp] theorem recordAt_hand (x : Handoff) (s : State) (g : Handle) : recordAt (hand x s) g = recordAt s g := by
  simp [recordAt]

@[simp] theorem backlogRoom_hand (x : Handoff) (s : State) : backlogRoom (hand x s) = backlogRoom s :=
  congrArg (fun b : SlateBuilder => decide (b.backlog.length < 256)) (hand_builder x s)

@[simp] theorem slotAt_hand (x : Handoff) (s : State) (g : Handle) : slotAt (hand x s) g = slotAt s g := by
  simp [slotAt]

/-! ### `takeEvent` -/

@[simp] theorem takeEvent_pending (x : Handoff) (s : State) : (takeEvent x s).pending = s.pending := rfl

@[simp] theorem takeEvent_time (x : Handoff) (s : State) : (takeEvent x s).time = s.time := rfl

@[simp] theorem takeEvent_table (x : Handoff) (s : State) : (takeEvent x s).table = s.table := rfl

@[simp] theorem takeEvent_sched (x : Handoff) (s : State) : (takeEvent x s).sched = s.sched := rfl

@[simp] theorem takeEvent_classifier (x : Handoff) (s : State) : (takeEvent x s).classifier = s.classifier := rfl

@[simp] theorem takeEvent_slots (x : Handoff) (s : State) : (takeEvent x s).slots = s.slots := rfl

@[simp] theorem takeEvent_link (x : Handoff) (s : State) : (takeEvent x s).link = s.link := rfl

@[simp] theorem takeEvent_builder (x : Handoff) (s : State) : (takeEvent x s).builder = s.builder := rfl

@[simp] theorem takeEvent_host (x : Handoff) (s : State) : (takeEvent x s).host = s.host := rfl

@[simp] theorem takeEvent_freeCount (x : Handoff) (s : State) : (takeEvent x s).freeCount = s.freeCount := rfl

@[simp] theorem recordAt_takeEvent (x : Handoff) (s : State) (g : Handle) : recordAt (takeEvent x s) g = recordAt s g := by
  simp [recordAt]

@[simp] theorem backlogRoom_takeEvent (x : Handoff) (s : State) : backlogRoom (takeEvent x s) = backlogRoom s :=
  congrArg (fun b : SlateBuilder => decide (b.backlog.length < 256)) (takeEvent_builder x s)

@[simp] theorem slotAt_takeEvent (x : Handoff) (s : State) (g : Handle) : slotAt (takeEvent x s) g = slotAt s g := by
  simp [slotAt]

/-! ### `bump` -/

@[simp] theorem bump_pending (c : Counter) (s : State) : (bump c s).pending = s.pending := rfl

@[simp] theorem bump_time (c : Counter) (s : State) : (bump c s).time = s.time := rfl

@[simp] theorem bump_table (c : Counter) (s : State) : (bump c s).table = s.table := rfl

@[simp] theorem bump_sched (c : Counter) (s : State) : (bump c s).sched = s.sched := rfl

@[simp] theorem bump_classifier (c : Counter) (s : State) : (bump c s).classifier = s.classifier := rfl

@[simp] theorem bump_slots (c : Counter) (s : State) : (bump c s).slots = s.slots := rfl

@[simp] theorem bump_link (c : Counter) (s : State) : (bump c s).link = s.link := rfl

@[simp] theorem bump_builder (c : Counter) (s : State) : (bump c s).builder = s.builder := rfl

@[simp] theorem bump_handed (c : Counter) (s : State) : (bump c s).handed = s.handed := rfl

@[simp] theorem bump_freeCount (c : Counter) (s : State) : (bump c s).freeCount = s.freeCount := rfl

@[simp] theorem recordAt_bump (c : Counter) (s : State) (g : Handle) : recordAt (bump c s) g = recordAt s g := by
  simp [recordAt]

@[simp] theorem backlogRoom_bump (c : Counter) (s : State) : backlogRoom (bump c s) = backlogRoom s :=
  congrArg (fun b : SlateBuilder => decide (b.backlog.length < 256)) (bump_builder c s)

@[simp] theorem slotAt_bump (c : Counter) (s : State) (g : Handle) : slotAt (bump c s) g = slotAt s g := by
  simp [slotAt]

/-! ### `attend` -/

@[simp] theorem attend_pending (c : Condition) (s : State) : (attend c s).pending = s.pending := rfl

@[simp] theorem attend_time (c : Condition) (s : State) : (attend c s).time = s.time := rfl

@[simp] theorem attend_table (c : Condition) (s : State) : (attend c s).table = s.table := rfl

@[simp] theorem attend_sched (c : Condition) (s : State) : (attend c s).sched = s.sched := rfl

@[simp] theorem attend_classifier (c : Condition) (s : State) : (attend c s).classifier = s.classifier := rfl

@[simp] theorem attend_slots (c : Condition) (s : State) : (attend c s).slots = s.slots := rfl

@[simp] theorem attend_link (c : Condition) (s : State) : (attend c s).link = s.link := rfl

@[simp] theorem attend_builder (c : Condition) (s : State) : (attend c s).builder = s.builder := rfl

@[simp] theorem attend_handed (c : Condition) (s : State) : (attend c s).handed = s.handed := rfl

@[simp] theorem attend_freeCount (c : Condition) (s : State) : (attend c s).freeCount = s.freeCount := rfl

@[simp] theorem recordAt_attend (c : Condition) (s : State) (g : Handle) : recordAt (attend c s) g = recordAt s g := by
  simp [recordAt]

@[simp] theorem backlogRoom_attend (c : Condition) (s : State) : backlogRoom (attend c s) = backlogRoom s :=
  congrArg (fun b : SlateBuilder => decide (b.backlog.length < 256)) (attend_builder c s)

@[simp] theorem slotAt_attend (c : Condition) (s : State) (g : Handle) : slotAt (attend c s) g = slotAt s g := by
  simp [slotAt]

/-! ### `raise` -/

@[simp] theorem raise_pending (e : Event) (s : State) : (raise e s).pending = s.pending := rfl

@[simp] theorem raise_time (e : Event) (s : State) : (raise e s).time = s.time := rfl

@[simp] theorem raise_table (e : Event) (s : State) : (raise e s).table = s.table := rfl

@[simp] theorem raise_sched (e : Event) (s : State) : (raise e s).sched = s.sched := rfl

@[simp] theorem raise_classifier (e : Event) (s : State) : (raise e s).classifier = s.classifier := rfl

@[simp] theorem raise_slots (e : Event) (s : State) : (raise e s).slots = s.slots := rfl

@[simp] theorem raise_link (e : Event) (s : State) : (raise e s).link = s.link := rfl

@[simp] theorem raise_builder (e : Event) (s : State) : (raise e s).builder = s.builder := rfl

@[simp] theorem raise_handed (e : Event) (s : State) : (raise e s).handed = s.handed := rfl

@[simp] theorem raise_freeCount (e : Event) (s : State) : (raise e s).freeCount = s.freeCount := rfl

@[simp] theorem recordAt_raise (e : Event) (s : State) (g : Handle) : recordAt (raise e s) g = recordAt s g := by
  simp [recordAt]

@[simp] theorem backlogRoom_raise (e : Event) (s : State) : backlogRoom (raise e s) = backlogRoom s :=
  congrArg (fun b : SlateBuilder => decide (b.backlog.length < 256)) (raise_builder e s)

@[simp] theorem slotAt_raise (e : Event) (s : State) (g : Handle) : slotAt (raise e s) g = slotAt s g := by
  simp [slotAt]

/-! ### `respond` -/

@[simp] theorem respond_pending (r : Response) (s : State) : (respond r s).pending = s.pending := rfl

@[simp] theorem respond_time (r : Response) (s : State) : (respond r s).time = s.time := rfl

@[simp] theorem respond_table (r : Response) (s : State) : (respond r s).table = s.table := rfl

@[simp] theorem respond_sched (r : Response) (s : State) : (respond r s).sched = s.sched := rfl

@[simp] theorem respond_classifier (r : Response) (s : State) : (respond r s).classifier = s.classifier := rfl

@[simp] theorem respond_slots (r : Response) (s : State) : (respond r s).slots = s.slots := rfl

@[simp] theorem respond_link (r : Response) (s : State) : (respond r s).link = s.link := rfl

@[simp] theorem respond_builder (r : Response) (s : State) : (respond r s).builder = s.builder := rfl

@[simp] theorem respond_handed (r : Response) (s : State) : (respond r s).handed = s.handed := rfl

@[simp] theorem respond_freeCount (r : Response) (s : State) : (respond r s).freeCount = s.freeCount := rfl

@[simp] theorem recordAt_respond (r : Response) (s : State) (g : Handle) : recordAt (respond r s) g = recordAt s g := by
  simp [recordAt]

@[simp] theorem backlogRoom_respond (r : Response) (s : State) : backlogRoom (respond r s) = backlogRoom s :=
  congrArg (fun b : SlateBuilder => decide (b.backlog.length < 256)) (respond_builder r s)

@[simp] theorem slotAt_respond (r : Response) (s : State) (g : Handle) : slotAt (respond r s) g = slotAt s g := by
  simp [slotAt]

/-! ### `queueNotice` -/

@[simp] theorem queueNotice_pending (n : Notice) (s : State) : (queueNotice n s).pending = s.pending := by unfold queueNotice; split <;> rfl

@[simp] theorem queueNotice_time (n : Notice) (s : State) : (queueNotice n s).time = s.time := by unfold queueNotice; split <;> rfl

@[simp] theorem queueNotice_table (n : Notice) (s : State) : (queueNotice n s).table = s.table := by unfold queueNotice; split <;> rfl

@[simp] theorem queueNotice_sched (n : Notice) (s : State) : (queueNotice n s).sched = s.sched := by unfold queueNotice; split <;> rfl

@[simp] theorem queueNotice_classifier (n : Notice) (s : State) : (queueNotice n s).classifier = s.classifier := by unfold queueNotice; split <;> rfl

@[simp] theorem queueNotice_slots (n : Notice) (s : State) : (queueNotice n s).slots = s.slots := by unfold queueNotice; split <;> rfl

@[simp] theorem queueNotice_builder (n : Notice) (s : State) : (queueNotice n s).builder = s.builder := by unfold queueNotice; split <;> rfl

@[simp] theorem queueNotice_handed (n : Notice) (s : State) : (queueNotice n s).handed = s.handed := by unfold queueNotice; split <;> rfl

@[simp] theorem queueNotice_freeCount (n : Notice) (s : State) : (queueNotice n s).freeCount = s.freeCount := by unfold queueNotice; split <;> rfl

@[simp] theorem recordAt_queueNotice (n : Notice) (s : State) (g : Handle) : recordAt (queueNotice n s) g = recordAt s g := by
  simp [recordAt]

@[simp] theorem backlogRoom_queueNotice (n : Notice) (s : State) : backlogRoom (queueNotice n s) = backlogRoom s :=
  congrArg (fun b : SlateBuilder => decide (b.backlog.length < 256)) (queueNotice_builder n s)

@[simp] theorem slotAt_queueNotice (n : Notice) (s : State) (g : Handle) : slotAt (queueNotice n s) g = slotAt s g := by
  simp [slotAt]

/-! ### `queueMessage` -/

@[simp] theorem queueMessage_pending (m : Message) (tag : Option Identity) (s : State) : (queueMessage m tag s).pending = s.pending := by unfold queueMessage; split <;> rfl

@[simp] theorem queueMessage_time (m : Message) (tag : Option Identity) (s : State) : (queueMessage m tag s).time = s.time := by unfold queueMessage; split <;> rfl

@[simp] theorem queueMessage_table (m : Message) (tag : Option Identity) (s : State) : (queueMessage m tag s).table = s.table := by unfold queueMessage; split <;> rfl

@[simp] theorem queueMessage_sched (m : Message) (tag : Option Identity) (s : State) : (queueMessage m tag s).sched = s.sched := by unfold queueMessage; split <;> rfl

@[simp] theorem queueMessage_classifier (m : Message) (tag : Option Identity) (s : State) : (queueMessage m tag s).classifier = s.classifier := by unfold queueMessage; split <;> rfl

@[simp] theorem queueMessage_slots (m : Message) (tag : Option Identity) (s : State) : (queueMessage m tag s).slots = s.slots := by unfold queueMessage; split <;> rfl

@[simp] theorem queueMessage_link (m : Message) (tag : Option Identity) (s : State) : (queueMessage m tag s).link = s.link := by unfold queueMessage; split <;> rfl

@[simp] theorem queueMessage_handed (m : Message) (tag : Option Identity) (s : State) : (queueMessage m tag s).handed = s.handed := by unfold queueMessage; split <;> rfl

@[simp] theorem queueMessage_freeCount (m : Message) (tag : Option Identity) (s : State) : (queueMessage m tag s).freeCount = s.freeCount := by unfold queueMessage; split <;> rfl

@[simp] theorem recordAt_queueMessage (m : Message) (tag : Option Identity) (s : State) (g : Handle) : recordAt (queueMessage m tag s) g = recordAt s g := by
  simp [recordAt]

@[simp] theorem slotAt_queueMessage (m : Message) (tag : Option Identity) (s : State) (g : Handle) : slotAt (queueMessage m tag s) g = slotAt s g := by
  simp [slotAt]

/-! ### `dropRequest` -/

@[simp] theorem dropRequest_pending (h : Handle) (s : State) : (dropRequest h s).pending = s.pending := rfl

@[simp] theorem dropRequest_time (h : Handle) (s : State) : (dropRequest h s).time = s.time := rfl

@[simp] theorem dropRequest_table (h : Handle) (s : State) : (dropRequest h s).table = s.table := rfl

@[simp] theorem dropRequest_classifier (h : Handle) (s : State) : (dropRequest h s).classifier = s.classifier := rfl

@[simp] theorem dropRequest_slots (h : Handle) (s : State) : (dropRequest h s).slots = s.slots := rfl

@[simp] theorem dropRequest_link (h : Handle) (s : State) : (dropRequest h s).link = s.link := rfl

@[simp] theorem dropRequest_builder (h : Handle) (s : State) : (dropRequest h s).builder = s.builder := rfl

@[simp] theorem dropRequest_host (h : Handle) (s : State) : (dropRequest h s).host = s.host := rfl

@[simp] theorem dropRequest_handed (h : Handle) (s : State) : (dropRequest h s).handed = s.handed := rfl

@[simp] theorem dropRequest_freeCount (h : Handle) (s : State) : (dropRequest h s).freeCount = s.freeCount := rfl

@[simp] theorem recordAt_dropRequest (h : Handle) (s : State) (g : Handle) : recordAt (dropRequest h s) g = recordAt s g := by
  simp [recordAt]

@[simp] theorem backlogRoom_dropRequest (h : Handle) (s : State) : backlogRoom (dropRequest h s) = backlogRoom s :=
  congrArg (fun b : SlateBuilder => decide (b.backlog.length < 256)) (dropRequest_builder h s)

@[simp] theorem slotAt_dropRequest (h : Handle) (s : State) (g : Handle) : slotAt (dropRequest h s) g = slotAt s g := by
  simp [slotAt]

/-! ### `withdrawRequest` -/

@[simp] theorem withdrawRequest_pending (h : Handle) (s : State) : (withdrawRequest h s).pending = s.pending := by unfold withdrawRequest; split <;> rfl

@[simp] theorem withdrawRequest_time (h : Handle) (s : State) : (withdrawRequest h s).time = s.time := by unfold withdrawRequest; split <;> rfl

@[simp] theorem withdrawRequest_table (h : Handle) (s : State) : (withdrawRequest h s).table = s.table := by unfold withdrawRequest; split <;> rfl

@[simp] theorem withdrawRequest_classifier (h : Handle) (s : State) : (withdrawRequest h s).classifier = s.classifier := by unfold withdrawRequest; split <;> rfl

@[simp] theorem withdrawRequest_link (h : Handle) (s : State) : (withdrawRequest h s).link = s.link := by unfold withdrawRequest; split <;> rfl

@[simp] theorem withdrawRequest_builder (h : Handle) (s : State) : (withdrawRequest h s).builder = s.builder := by unfold withdrawRequest; split <;> rfl

@[simp] theorem withdrawRequest_host (h : Handle) (s : State) : (withdrawRequest h s).host = s.host := by unfold withdrawRequest; split <;> rfl

@[simp] theorem withdrawRequest_handed (h : Handle) (s : State) : (withdrawRequest h s).handed = s.handed := by unfold withdrawRequest; split <;> rfl

@[simp] theorem withdrawRequest_freeCount (h : Handle) (s : State) : (withdrawRequest h s).freeCount = s.freeCount := by unfold withdrawRequest; split <;> rfl

@[simp] theorem recordAt_withdrawRequest (h : Handle) (s : State) (g : Handle) : recordAt (withdrawRequest h s) g = recordAt s g := by
  simp [recordAt]

@[simp] theorem backlogRoom_withdrawRequest (h : Handle) (s : State) : backlogRoom (withdrawRequest h s) = backlogRoom s :=
  congrArg (fun b : SlateBuilder => decide (b.backlog.length < 256)) (withdrawRequest_builder h s)

/-! ### `freeRecord` -/

@[simp] theorem freeRecord_pending (h : Handle) (s : State) : (freeRecord h s).pending = s.pending := by simp [freeRecord]

@[simp] theorem freeRecord_time (h : Handle) (s : State) : (freeRecord h s).time = s.time := by simp [freeRecord]

@[simp] theorem freeRecord_classifier (h : Handle) (s : State) : (freeRecord h s).classifier = s.classifier := by simp [freeRecord]

@[simp] theorem freeRecord_link (h : Handle) (s : State) : (freeRecord h s).link = s.link := by simp [freeRecord]

@[simp] theorem freeRecord_builder (h : Handle) (s : State) : (freeRecord h s).builder = s.builder := by simp [freeRecord]

@[simp] theorem freeRecord_host (h : Handle) (s : State) : (freeRecord h s).host = s.host := by simp [freeRecord]

@[simp] theorem freeRecord_handed (h : Handle) (s : State) : (freeRecord h s).handed = s.handed := by simp [freeRecord]

@[simp] theorem freeRecord_freeCount (h : Handle) (s : State) : (freeRecord h s).freeCount = s.freeCount := by simp [freeRecord]

@[simp] theorem backlogRoom_freeRecord (h : Handle) (s : State) : backlogRoom (freeRecord h s) = backlogRoom s :=
  congrArg (fun b : SlateBuilder => decide (b.backlog.length < 256)) (freeRecord_builder h s)

/-! ### `uncontest` -/

@[simp] theorem uncontest_pending (x : Identity) (s : State) : (uncontest x s).pending = s.pending := rfl

@[simp] theorem uncontest_time (x : Identity) (s : State) : (uncontest x s).time = s.time := rfl

@[simp] theorem uncontest_sched (x : Identity) (s : State) : (uncontest x s).sched = s.sched := rfl

@[simp] theorem uncontest_classifier (x : Identity) (s : State) : (uncontest x s).classifier = s.classifier := rfl

@[simp] theorem uncontest_slots (x : Identity) (s : State) : (uncontest x s).slots = s.slots := rfl

@[simp] theorem uncontest_link (x : Identity) (s : State) : (uncontest x s).link = s.link := rfl

@[simp] theorem uncontest_builder (x : Identity) (s : State) : (uncontest x s).builder = s.builder := rfl

@[simp] theorem uncontest_host (x : Identity) (s : State) : (uncontest x s).host = s.host := rfl

@[simp] theorem uncontest_handed (x : Identity) (s : State) : (uncontest x s).handed = s.handed := rfl

@[simp] theorem uncontest_freeCount (x : Identity) (s : State) : (uncontest x s).freeCount = s.freeCount := rfl

@[simp] theorem backlogRoom_uncontest (x : Identity) (s : State) : backlogRoom (uncontest x s) = backlogRoom s :=
  congrArg (fun b : SlateBuilder => decide (b.backlog.length < 256)) (uncontest_builder x s)

@[simp] theorem slotAt_uncontest (x : Identity) (s : State) (g : Handle) : slotAt (uncontest x s) g = slotAt s g := by
  simp [slotAt]

/-! ### `contest` -/

@[simp] theorem contest_pending (x : Identity) (s : State) : (contest x s).pending = s.pending := rfl

@[simp] theorem contest_time (x : Identity) (s : State) : (contest x s).time = s.time := rfl

@[simp] theorem contest_sched (x : Identity) (s : State) : (contest x s).sched = s.sched := rfl

@[simp] theorem contest_classifier (x : Identity) (s : State) : (contest x s).classifier = s.classifier := rfl

@[simp] theorem contest_slots (x : Identity) (s : State) : (contest x s).slots = s.slots := rfl

@[simp] theorem contest_link (x : Identity) (s : State) : (contest x s).link = s.link := rfl

@[simp] theorem contest_builder (x : Identity) (s : State) : (contest x s).builder = s.builder := rfl

@[simp] theorem contest_host (x : Identity) (s : State) : (contest x s).host = s.host := rfl

@[simp] theorem contest_handed (x : Identity) (s : State) : (contest x s).handed = s.handed := rfl

@[simp] theorem contest_freeCount (x : Identity) (s : State) : (contest x s).freeCount = s.freeCount := rfl

@[simp] theorem backlogRoom_contest (x : Identity) (s : State) : backlogRoom (contest x s) = backlogRoom s :=
  congrArg (fun b : SlateBuilder => decide (b.backlog.length < 256)) (contest_builder x s)

@[simp] theorem slotAt_contest (x : Identity) (s : State) (g : Handle) : slotAt (contest x s) g = slotAt s g := by
  simp [slotAt]

/-! ### `addSpan` -/

@[simp] theorem addSpan_pending (x : Span) (s : State) : (addSpan x s).pending = s.pending := rfl

@[simp] theorem addSpan_time (x : Span) (s : State) : (addSpan x s).time = s.time := rfl

@[simp] theorem addSpan_table (x : Span) (s : State) : (addSpan x s).table = s.table := rfl

@[simp] theorem addSpan_classifier (x : Span) (s : State) : (addSpan x s).classifier = s.classifier := rfl

@[simp] theorem addSpan_slots (x : Span) (s : State) : (addSpan x s).slots = s.slots := rfl

@[simp] theorem addSpan_link (x : Span) (s : State) : (addSpan x s).link = s.link := rfl

@[simp] theorem addSpan_host (x : Span) (s : State) : (addSpan x s).host = s.host := rfl

@[simp] theorem addSpan_handed (x : Span) (s : State) : (addSpan x s).handed = s.handed := rfl

@[simp] theorem addSpan_freeCount (x : Span) (s : State) : (addSpan x s).freeCount = s.freeCount := rfl

@[simp] theorem recordAt_addSpan (x : Span) (s : State) (g : Handle) : recordAt (addSpan x s) g = recordAt s g := by
  simp [recordAt]

@[simp] theorem slotAt_addSpan (x : Span) (s : State) (g : Handle) : slotAt (addSpan x s) g = slotAt s g := by
  simp [slotAt]

/-! ### `setLane` -/

@[simp] theorem setLane_pending (l : LaneNo) (v : Lane) (s : State) : (setLane l v s).pending = s.pending := rfl

@[simp] theorem setLane_time (l : LaneNo) (v : Lane) (s : State) : (setLane l v s).time = s.time := rfl

@[simp] theorem setLane_table (l : LaneNo) (v : Lane) (s : State) : (setLane l v s).table = s.table := rfl

@[simp] theorem setLane_sched (l : LaneNo) (v : Lane) (s : State) : (setLane l v s).sched = s.sched := rfl

@[simp] theorem setLane_classifier (l : LaneNo) (v : Lane) (s : State) : (setLane l v s).classifier = s.classifier := rfl

@[simp] theorem setLane_slots (l : LaneNo) (v : Lane) (s : State) : (setLane l v s).slots = s.slots := rfl

@[simp] theorem setLane_builder (l : LaneNo) (v : Lane) (s : State) : (setLane l v s).builder = s.builder := rfl

@[simp] theorem setLane_host (l : LaneNo) (v : Lane) (s : State) : (setLane l v s).host = s.host := rfl

@[simp] theorem setLane_handed (l : LaneNo) (v : Lane) (s : State) : (setLane l v s).handed = s.handed := rfl

@[simp] theorem setLane_freeCount (l : LaneNo) (v : Lane) (s : State) : (setLane l v s).freeCount = s.freeCount := rfl

@[simp] theorem recordAt_setLane (l : LaneNo) (v : Lane) (s : State) (g : Handle) : recordAt (setLane l v s) g = recordAt s g := by
  simp [recordAt]

@[simp] theorem backlogRoom_setLane (l : LaneNo) (v : Lane) (s : State) : backlogRoom (setLane l v s) = backlogRoom s :=
  congrArg (fun b : SlateBuilder => decide (b.backlog.length < 256)) (setLane_builder l v s)

@[simp] theorem slotAt_setLane (l : LaneNo) (v : Lane) (s : State) (g : Handle) : slotAt (setLane l v s) g = slotAt s g := by
  simp [slotAt]

/-! ### What an update writes -/

@[simp] theorem onHost_host (s : State) (f : HostPort → HostPort) : (s.onHost f).host = f s.host := rfl

@[simp] theorem raise_host (e : Event) (s : State) : (raise e s).host = s.host.raise s.time.treeCycle e := rfl

@[simp] theorem bump_host (c : Counter) (s : State) : (bump c s).host = s.host.bump c := rfl

@[simp] theorem attend_host (c : Condition) (s : State) : (attend c s).host = s.host.attend c := rfl

@[simp] theorem respond_host (r : Response) (s : State) : (respond r s).host = { s.host with response := some r } := rfl

@[simp] theorem hand_handed (x : Handoff) (s : State) : (hand x s).handed = s.handed ++ [x] := rfl

@[simp] theorem takeEvent_handed (x : Handoff) (s : State) : (takeEvent x s).handed = s.handed.erase x := rfl

@[simp] theorem recordAt_setRecord_self (h : Handle) (r : Record) (s : State) : recordAt (setRecord h r s) h = r := by
  simp [recordAt, setRecord]

theorem recordAt_setRecord_ne {g h : Handle} (r : Record) (s : State) (ne : g ≠ h) :
    recordAt (setRecord h r s) g = recordAt s g := by
  simp only [recordAt, setRecord, Fin.getElem_fin]
  exact Vector.getElem_set_ne _ _ (fun e => ne (Fin.ext e.symm))

@[simp] theorem slotAt_setSlot_self (h : Handle) (v : Slot) (s : State) : slotAt (setSlot h v s) h = v := by
  simp [slotAt, setSlot]

theorem slotAt_setSlot_ne {g h : Handle} (v : Slot) (s : State) (ne : g ≠ h) :
    slotAt (setSlot h v s) g = slotAt s g := by
  simp only [slotAt, setSlot, Fin.getElem_fin]
  exact Vector.getElem_set_ne _ _ (fun e => ne (Fin.ext e.symm))

@[simp] theorem laneAt_setLane_self (l : LaneNo) (v : Lane) (s : State) : laneAt (setLane l v s) l = v := by
  simp [laneAt, setLane]

theorem laneAt_setLane_ne {k l : LaneNo} (v : Lane) (s : State) (ne : k ≠ l) :
    laneAt (setLane l v s) k = laneAt s k := by
  simp only [laneAt, setLane, Fin.getElem_fin]
  exact Vector.getElem_set_ne _ _ (fun e => ne (Fin.ext e.symm))

/-! ### The host port -/

@[simp] theorem raise_part (cycle : TreeCycle) (e : Event) (hp : HostPort) : (hp.raise cycle e).part = hp.part := by
  unfold HostPort.raise; split <;> [rfl; (split <;> rfl)]

@[simp] theorem raise_held (cycle : TreeCycle) (e : Event) (hp : HostPort) : (hp.raise cycle e).held = hp.held := by
  unfold HostPort.raise; split <;> [rfl; (split <;> rfl)]

@[simp] theorem raise_ownChannel (cycle : TreeCycle) (e : Event) (hp : HostPort) :
    (hp.raise cycle e).ownChannel = hp.ownChannel := by
  unfold HostPort.raise; split <;> [rfl; (split <;> rfl)]

@[simp] theorem raise_config (cycle : TreeCycle) (e : Event) (hp : HostPort) : (hp.raise cycle e).config = hp.config := by
  unfold HostPort.raise; split <;> [rfl; (split <;> rfl)]

@[simp] theorem bump_part (c : Counter) (hp : HostPort) : (hp.bump c).part = hp.part := rfl

@[simp] theorem bump_held (c : Counter) (hp : HostPort) : (hp.bump c).held = hp.held := rfl

@[simp] theorem bump_ownChannel (c : Counter) (hp : HostPort) : (hp.bump c).ownChannel = hp.ownChannel := rfl

@[simp] theorem bump_config (c : Counter) (hp : HostPort) : (hp.bump c).config = hp.config := rfl

@[simp] theorem bump_events (c : Counter) (hp : HostPort) : (hp.bump c).events = hp.events := rfl

@[simp] theorem attend_part (c : Condition) (hp : HostPort) : (hp.attend c).part = hp.part := rfl

@[simp] theorem attend_held (c : Condition) (hp : HostPort) : (hp.attend c).held = hp.held := rfl

@[simp] theorem attend_ownChannel (c : Condition) (hp : HostPort) : (hp.attend c).ownChannel = hp.ownChannel := rfl

@[simp] theorem attend_config (c : Condition) (hp : HostPort) : (hp.attend c).config = hp.config := rfl

@[simp] theorem attend_events (c : Condition) (hp : HostPort) : (hp.attend c).events = hp.events := rfl

/-- A notice queued leaves the host port's part, pin, channel and configuration. -/
@[simp] theorem queueNotice_config (n : Notice) (s : State) : (queueNotice n s).host.config = s.host.config := by
  unfold queueNotice; split <;> rfl

@[simp] theorem queueNotice_ownChannel (n : Notice) (s : State) :
    (queueNotice n s).host.ownChannel = s.host.ownChannel := by
  unfold queueNotice; split <;> rfl

@[simp] theorem queueNotice_part (n : Notice) (s : State) : (queueNotice n s).host.part = s.host.part := by
  unfold queueNotice; split <;> rfl

@[simp] theorem queueMessage_config (m : Message) (tag : Option Identity) (s : State) :
    (queueMessage m tag s).host.config = s.host.config := by
  unfold queueMessage; split <;> rfl

@[simp] theorem queueMessage_ownChannel (m : Message) (tag : Option Identity) (s : State) :
    (queueMessage m tag s).host.ownChannel = s.host.ownChannel := by
  unfold queueMessage; split <;> rfl

@[simp] theorem queueMessage_part (m : Message) (tag : Option Identity) (s : State) :
    (queueMessage m tag s).host.part = s.host.part := by
  unfold queueMessage; split <;> rfl

end Sys2Proof.Machine
end

