-- ==== Sys2Proof/Laws/Ops.lean ====
section
/-! SUPPORT. One lemma for each shared operation that says what it can do; the provers cite these in place of unfolding. -/

namespace Sys2Proof.Machine

/-! ### Guards of the meanings -/

theorem running_iff (s : State) : running s = true ↔ s.host.held = false ∧ s.host.part = .running := by
  simp [running]

/-- No scheduler work is owed. -/
theorem owedScheduler_of_not_owed {s : State} (done : s.time.owesScheduler = false) : owedScheduler s = s := by
  simp [owedScheduler, done]

/-- Outside RUNNING no scheduler work is done. -/
theorem owedScheduler_of_not_running {s : State} (idle : running s = false) : owedScheduler s = s := by
  simp [owedScheduler, idle]

/-- The scheduler work owed is done. -/
theorem owedScheduler_of_owed {s : State} (run : running s = true) (owed : s.time.owesScheduler = true) :
    owedScheduler s = schedulerWork s := by
  simp [owedScheduler, run, owed]

/-- A frame that comes while the pin is released is decided once no scheduler work is owed. -/
theorem command_of_released {taken : PartState → Bool} {s : State} (released : s.host.held = false)
    (decide : State → State) : command taken decide s = answer taken decide (owedScheduler s) := by
  simp [command, released]

/-- A frame taken in a part state listed for it, no scheduler work being owed. -/
theorem command_of_taken {taken : PartState → Bool} {s : State} (held : s.host.held = false)
    (done : owedScheduler s = s) (listed : taken s.host.part = true) (decide : State → State) :
    command taken decide s = decide s := by
  simp [command, held, answer, done, listed]

/-- A frame taken in a part state not listed for it, no scheduler work being owed. -/
theorem command_of_not_taken {taken : PartState → Bool} {s : State} (held : s.host.held = false)
    (done : owedScheduler s = s) (unlisted : taken s.host.part = false) (decide : State → State) :
    command taken decide s = respond .wrongState s := by
  simp [command, held, answer, done, unlisted]

/-- A frame that comes while the reset pin is held. -/
theorem command_of_held {taken : PartState → Bool} {s : State} (held : s.host.held = true) (decide : State → State) :
    command taken decide s = s := by
  simp [command, held]

/-! ### The queues -/

theorem backlogRoom_iff (s : State) : backlogRoom s = true ↔ s.builder.backlog.length < 256 := by
  simp [backlogRoom]

/-- `queueNotice` either appends the notice or touches the host port alone. -/
theorem queueNotice_cases (n : Notice) (s : State) :
    (s.link.outbound.length < 128 ∧
      queueNotice n s = { s with link := { s.link with outbound := s.link.outbound ++ [n] } }) ∨
    (128 ≤ s.link.outbound.length ∧ queueNotice n s = attend .overrun (bump .noticeOverruns s)) := by
  unfold queueNotice
  split
  · exact .inl ⟨‹_›, rfl⟩
  · exact .inr ⟨by omega, rfl⟩

/-- `queueMessage` either appends the message or touches the host port alone. -/
theorem queueMessage_cases (m : Message) (tag : Option Identity) (s : State) :
    (backlogRoom s = true ∧
      queueMessage m tag s = { s with builder := { s.builder with backlog := s.builder.backlog ++ [⟨m, tag⟩] } }) ∨
    (backlogRoom s = false ∧ queueMessage m tag s = attend .overrun (bump .messageOverruns s)) := by
  unfold queueMessage
  split
  · exact .inl ⟨‹_›, rfl⟩
  · rename_i h
    exact .inr ⟨by simpa using h, rfl⟩

/-- The outbound queue never grows past its bound. -/
theorem queueNotice_outbound_le (n : Notice) (s : State) (bound : s.link.outbound.length ≤ 128) :
    (queueNotice n s).link.outbound.length ≤ 128 := by
  unfold queueNotice
  split
  · simp; omega
  · exact bound

/-- The backlog never grows past its bound. -/
theorem queueMessage_backlog_le (m : Message) (tag : Option Identity) (s : State)
    (bound : s.builder.backlog.length ≤ 256) : (queueMessage m tag s).builder.backlog.length ≤ 256 := by
  unfold queueMessage backlogRoom
  split
  · rename_i h
    simp at h ⊢
    omega
  · exact bound

/-- A raised event writes the event queue, the counters and the attention conditions of the host port alone. -/
theorem hostRaise_eq (cycle : TreeCycle) (e : Event) (hp : HostPort) :
    hp.raise cycle e =
      { hp with
        events := (hp.raise cycle e).events, counters := (hp.raise cycle e).counters
        attention := (hp.raise cycle e).attention } := by
  unfold HostPort.raise
  split
  · rfl
  · split <;> rfl

/-- The event queue never grows past its bound. -/
theorem hostRaise_events_le (cycle : TreeCycle) (e : Event) (hp : HostPort) (bound : hp.events.length ≤ 64) :
    (hp.raise cycle e).events.length ≤ 64 := by
  unfold HostPort.raise
  split
  · exact bound
  · split
    · simp; omega
    · exact bound

/-! ### Hand-offs -/

/-- Taking the first hand-off that `sel` selects. -/
theorem takeHanded_of_split {α : Type} {sel : Handoff → Option α} {s : State} {before after : List Handoff} {x : Handoff}
    {a : α} (split : s.handed = before ++ x :: after) (chosen : sel x = some a) (none : ∀ y ∈ before, sel y = none) :
    takeHanded sel s = some (a, { s with handed := before ++ after }) := by
  have found : ∀ l : List Handoff, (∀ y ∈ l, sel y = .none) →
      (l ++ x :: after).findSome? sel = some a ∧
        ((l ++ x :: after).eraseP fun y => (sel y).isSome) = l ++ after := by
    intro l hl
    induction l with
    | nil => simp [chosen]
    | cons y l ih =>
      have hy : sel y = .none := hl y (by simp)
      have := ih fun z hz => hl z (by simp [hz])
      simp [hy, this]
  obtain ⟨h1, h2⟩ := found before none
  simp [takeHanded, split, h1, h2]

/-- Nothing that `sel` selects is handed. -/
theorem takeHanded_eq_none {α : Type} {sel : Handoff → Option α} {s : State} (none : ∀ y ∈ s.handed, sel y = .none) :
    takeHanded sel s = .none := by
  have : s.handed.findSome? sel = .none := by
    rw [List.findSome?_eq_none_iff]
    exact none
  simp [takeHanded, this]

/-- The hand-offs before the first `a` among those `sel` selects. -/
theorem olderHanded_of_split {α : Type} [DecidableEq α] {sel : Handoff → Option α} {s : State} {before after : List Handoff}
    {x : Handoff} {a : α} (split : s.handed = before ++ x :: after) (chosen : sel x = some a)
    (first : ∀ y ∈ before, sel y ≠ some a) : olderHanded sel a s = before.filterMap sel := by
  have all : ∀ b ∈ before.filterMap sel, (decide (b ≠ a)) = true := by
    intro b hb
    obtain ⟨y, hy, e⟩ := List.mem_filterMap.1 hb
    simp only [decide_eq_true_eq]
    rintro rfl
    exact first y hy e
  rw [olderHanded, split, List.filterMap_append, List.filterMap_cons_some chosen,
    List.takeWhile_append_of_pos all]
  simp

/-- With `a` not waiting, all that `sel` selects come before it. -/
theorem olderHanded_of_absent {α : Type} [DecidableEq α] {sel : Handoff → Option α} {s : State} {a : α}
    (absent : ∀ y ∈ s.handed, sel y ≠ some a) : olderHanded sel a s = s.handed.filterMap sel := by
  rw [olderHanded, List.takeWhile_eq_self_iff]
  intro b hb
  obtain ⟨y, hy, e⟩ := List.mem_filterMap.1 hb
  simp only [decide_eq_true_eq]
  rintro rfl
  exact absent y hy e

/-- With none before it, a hand-off is taken alone. -/
theorem takeInOrder_of_first {α : Type} [DecidableEq α] {sel : Handoff → Option α} {take : α → State → State} {a : α}
    {s : State} (first : olderHanded sel a s = []) : takeInOrder sel take a s = take a s := by
  simp [takeInOrder, first]

/-- Taking the oldest of those before it first. -/
theorem takeInOrder_of_older {α : Type} [DecidableEq α] {sel : Handoff → Option α} {take : α → State → State} {a b : α}
    {rest : List α} {s : State} (older : olderHanded sel a s = b :: rest) (left : olderHanded sel a (take b s) = rest) :
    takeInOrder sel take a s = takeInOrder sel take a (take b s) := by
  simp [takeInOrder, older, left]

/-- Nothing that `want` asks for waits. -/
theorem takeWantedInOrder_of_none {α : Type} [DecidableEq α] {sel : Handoff → Option α} {want : α → Bool}
    {take : α → State → State} {s : State} (absent : ∀ y ∈ s.handed, ∀ a, sel y = some a → want a = false) :
    takeWantedInOrder sel want take s = s := by
  have none : (s.handed.filterMap sel).find? want = .none := by
    rw [List.find?_eq_none]
    intro a ha
    obtain ⟨y, hy, e⟩ := List.mem_filterMap.1 ha
    simp [absent y hy a e]
  simp [takeWantedInOrder, none]

/-- The oldest of all that `sel` selects is taken alone. -/
theorem takeWantedInOrder_of_oldest {α : Type} [DecidableEq α] {sel : Handoff → Option α} {want : α → Bool}
    {take : α → State → State} {s : State} {before after : List Handoff} {x : Handoff} {a : α}
    (split : s.handed = before ++ x :: after) (chosen : sel x = some a) (oldest : ∀ y ∈ before, sel y = none)
    (wanted : want a = true) : takeWantedInOrder sel want take s = take a s := by
  have clear : before.filterMap sel = [] := List.filterMap_eq_nil_iff.2 oldest
  have first : olderHanded sel a s = [] := by
    rw [olderHanded_of_split split chosen fun y hy => by simp [oldest y hy], clear]
  have found : (s.handed.filterMap sel).find? want = some a := by
    rw [split, List.filterMap_append, clear, List.nil_append, List.filterMap_cons_some chosen, List.find?_cons_of_pos wanted]
  simp only [takeWantedInOrder, found, takeInOrder_of_first first]

/-- What `takeHanded` takes was handed, and only the hand-offs change. -/
theorem takeHanded_spec {α : Type} {sel : Handoff → Option α} {s t : State} {a : α}
    (taken : takeHanded sel s = some (a, t)) :
    (∃ x ∈ s.handed, sel x = some a) ∧ t = { s with handed := t.handed } ∧ ∀ y ∈ t.handed, y ∈ s.handed := by
  unfold takeHanded at taken
  rw [Option.map_eq_some_iff] at taken
  obtain ⟨b, h, e⟩ := taken
  simp only [Prod.mk.injEq] at e
  obtain ⟨rfl, rfl⟩ := e
  refine ⟨?_, rfl, fun y hy => List.mem_of_mem_eraseP hy⟩
  obtain ⟨x, hx, hs⟩ := List.exists_of_findSome?_eq_some h
  exact ⟨x, hx, hs⟩

/-! ### Records -/

/-- The record found by identity holds it. -/
theorem holder_holds {s : State} {x : Identity} {h : Handle} (found : holder s x = some h) :
    (recordAt s h).identity? = some x := by
  have := List.find?_some found
  simpa using this

/-- A holder is found wherever some record holds the identity. -/
theorem holder_isSome {s : State} {x : Identity} {h : Handle} (holds : (recordAt s h).identity? = some x) :
    (holder s x).isSome := by
  unfold holder
  rw [List.find?_isSome]
  exact ⟨h, List.mem_finRange h, by simp [holds]⟩

/-- An allocated handle is FREE. -/
theorem lowestFree_free {s : State} {h : Handle} (found : lowestFree s = some h) : recordAt s h = .free := by
  have := List.find?_some found
  cases e : recordAt s h <;> simp_all [Record.state]

/-- Withdrawing a request changes no other handle's slot. -/
theorem slotAt_withdrawRequest_ne {g h : Handle} (s : State) (ne : g ≠ h) :
    slotAt (withdrawRequest h s) g = slotAt s g := by
  unfold withdrawRequest
  split
  · rw [slotAt_setSlot_ne _ _ ne]; rfl
  · rfl

/-- Withdrawing a request leaves every part of the scheduler but the placement queue. -/
theorem withdrawRequest_sched (h : Handle) (s : State) :
    (withdrawRequest h s).sched =
      { s.sched with placements := s.sched.placements.filter fun r => r.handle != h } := by
  unfold withdrawRequest
  split <;> rfl

/-! ### Placement -/

/-- A placement found meets R71's conditions. -/
theorem grantAt_spec {s : State} {q : Request} {r : TreeCycle} {o : Nat} {g : DirectedGrant}
    (found : grantAt s q r o = some g) :
    g = ⟨q.wanted.kind, q.handle, q.identity, r, o, directedSpan s.host.config q r o⟩ ∧
      (directedIn r s.sched.calendar).length < 8 ∧ directedSpans s < 32 ∧
      ∀ x ∈ s.sched.spans, g.span.overlaps x = false := by
  unfold grantAt at found
  simp only [Bool.and_eq_true, decide_eq_true_eq, Option.ite_none_right_eq_some, Option.some.injEq] at found
  obtain ⟨⟨⟨h1, h2⟩, h3⟩, h4⟩ := found
  refine ⟨h4.symm, h1, h2, fun x hx => ?_⟩
  subst h4
  simp only [Bool.not_eq_true', List.any_eq_false] at h3
  exact Bool.eq_false_iff.mpr (h3 x hx)

/-- A search that finds a grant finds one that `grantAt` gives, for a cycle and an offset. -/
theorem searchPlacement_spec {s : State} {q : Request} {g : DirectedGrant} (found : searchPlacement s q = some g) :
    ∃ r o, grantAt s q r o = some g := by
  unfold searchPlacement at found
  obtain ⟨i, _, hi⟩ := List.exists_of_findSome?_eq_some found
  obtain ⟨j, _, hj⟩ := List.exists_of_findSome?_eq_some hi
  exact ⟨_, _, hj⟩

/-- `meetRequest` leaves the state, appends the request, or places its grant at once. -/
theorem meetRequest_cases (q : Request) (s : State) :
    meetRequest q s = s ∨
    meetRequest q s = { s with sched := { s.sched with placements := s.sched.placements ++ [q] } } ∨
    ∃ g, s.sched.placements = [] ∧ searchPlacement s q = some g ∧ meetRequest q s = place g s := by
  unfold meetRequest
  split
  · exact .inl rfl
  · split
    · rename_i empty
      split
      · exact .inr (.inr ⟨_, by simpa using empty, ‹_›, rfl⟩)
      · exact .inr (.inl rfl)
    · exact .inr (.inl rfl)

/-- With no scheduler work owed a request is met as the state stands. -/
theorem request_of_not_owed {q : Request} {s : State} (done : s.time.owesScheduler = false) :
    request q s = meetRequest q s := by
  rw [request, owedScheduler_of_not_owed done]

/-- `enqueue` leaves the state or appends the request. -/
theorem enqueue_cases (q : Request) (s : State) :
    enqueue q s = s ∨
    enqueue q s = { s with sched := { s.sched with placements := s.sched.placements ++ [q] } } := by
  unfold enqueue
  split
  · exact .inl rfl
  · exact .inr rfl

/-- A span added joins the list. -/
theorem mem_insertSpan (x y : Span) (l : List Span) : y ∈ insertSpan x l ↔ y = x ∨ y ∈ l := by
  induction l with
  | nil => simp [insertSpan]
  | cons z l ih =>
    unfold insertSpan
    split
    · simp [ih]; tauto
    · simp

/-- Counting spans after one is added. -/
theorem countP_insertSpan (p : Span → Bool) (x : Span) (l : List Span) :
    (insertSpan x l).countP p = (x :: l).countP p := by
  induction l with
  | nil => simp [insertSpan]
  | cons z l ih =>
    unfold insertSpan
    split
    · simp [List.countP_cons, ih]; omega
    · rfl

/-! ### The scheduler's work -/

/-- What the scheduler's part of a strobe leaves as it was. -/
structure SchedulerFrame (s t : State) : Prop where
  pending : t.pending = s.pending
  time : t.time = s.time
  barred : t.table.barred = s.table.barred
  contested : t.table.contested = s.table.contested
  classifier : t.classifier = s.classifier
  link : t.link = { s.link with outbound := t.link.outbound }
  builder : t.builder = { s.builder with reservations := t.builder.reservations }
  host : t.host =
    { s.host with events := t.host.events, counters := t.host.counters, attention := t.host.attention }
  freeCount : t.freeCount = s.freeCount

theorem SchedulerFrame.refl (s : State) : SchedulerFrame s s :=
  ⟨rfl, rfl, rfl, rfl, rfl, rfl, rfl, rfl, rfl⟩

theorem SchedulerFrame.trans {s t u : State} (a : SchedulerFrame s t) (b : SchedulerFrame t u) : SchedulerFrame s u where
  pending := b.pending.trans a.pending
  time := b.time.trans a.time
  barred := b.barred.trans a.barred
  contested := b.contested.trans a.contested
  classifier := b.classifier.trans a.classifier
  link := by rw [b.link, a.link]
  builder := by rw [b.builder, a.builder]
  host := by rw [b.host, a.host]
  freeCount := b.freeCount.trans a.freeCount

theorem frame_raise (e : Event) (s : State) : SchedulerFrame s (raise e s) :=
  ⟨rfl, rfl, rfl, rfl, rfl, rfl, rfl, hostRaise_eq _ _ _, rfl⟩

theorem frame_bump (c : Counter) (s : State) : SchedulerFrame s (bump c s) :=
  ⟨rfl, rfl, rfl, rfl, rfl, rfl, rfl, rfl, rfl⟩

theorem frame_attend (c : Condition) (s : State) : SchedulerFrame s (attend c s) :=
  ⟨rfl, rfl, rfl, rfl, rfl, rfl, rfl, rfl, rfl⟩

theorem frame_queueNotice (n : Notice) (s : State) : SchedulerFrame s (queueNotice n s) := by
  rcases queueNotice_cases n s with ⟨_, e⟩ | ⟨_, e⟩
  · rw [e]; exact ⟨rfl, rfl, rfl, rfl, rfl, rfl, rfl, rfl, rfl⟩
  · rw [e]; exact (frame_bump _ _).trans (frame_attend _ _)

/-- A change of the scheduler's own state alone. -/
theorem frame_sched (s : State) (v : Scheduler) : SchedulerFrame s { s with sched := v } :=
  ⟨rfl, rfl, rfl, rfl, rfl, rfl, rfl, rfl, rfl⟩

theorem frame_takePlacement (h : Handle) (x : Identity) (cycle : TreeCycle) (offset : Nat) (s : State) :
    SchedulerFrame s (takePlacement h x cycle offset s) := by
  have slot : SchedulerFrame s (if slotAt s h = .asked x then setSlot h (.out x cycle offset) s else s) := by
    split
    · exact ⟨rfl, rfl, rfl, rfl, rfl, rfl, rfl, rfl, rfl⟩
    · exact .refl _
  unfold takePlacement
  generalize (if slotAt s h = .asked x then setSlot h (.out x cycle offset) s else s) = t at slot ⊢
  cases recordAt s h with
  | ranging y r =>
    dsimp only
    split
    · exact slot.trans ⟨rfl, rfl, rfl, rfl, rfl, rfl, rfl, rfl, rfl⟩
    · exact slot
  | _ => exact slot

theorem frame_takeAllPlacements (s : State) : SchedulerFrame s (takeAllPlacements s) := by
  have all : ∀ (l : List RangePlacement) (t : State), SchedulerFrame t (l.foldl (fun t p => takeOnePlacement p t) t) := by
    intro l
    induction l with
    | nil => exact fun t => .refl t
    | cons p l ih =>
      intro t
      have waits : SchedulerFrame t (takeEvent (.placed p.handle p.identity p.cycle p.offset) t) :=
        ⟨rfl, rfl, rfl, rfl, rfl, rfl, rfl, rfl, rfl⟩
      exact (waits.trans (frame_takePlacement _ _ _ _ _)).trans (ih _)
  exact all _ _

/-- With no placement waiting, none is taken. -/
theorem takeAllPlacements_of_none {s : State} (none : ∀ h x cycle offset, Handoff.placed h x cycle offset ∉ s.handed) :
    takeAllPlacements s = s := by
  have clear : s.handed.filterMap placementHanded = [] := by
    rw [List.filterMap_eq_nil_iff]
    intro y hy
    cases y <;> first | rfl | exact absurd hy (none _ _ _ _)
  simp [takeAllPlacements, clear]

theorem frame_place (g : DirectedGrant) (s : State) : SchedulerFrame s (place g s) := by
  have told : ∀ t, SchedulerFrame t (handPlacement g t) := by
    intro t
    unfold handPlacement
    split
    · exact ⟨rfl, rfl, rfl, rfl, rfl, rfl, rfl, rfl, rfl⟩
    · refine (frame_takeAllPlacements _).trans ?_
      unfold takeVerifyPlacement
      split
      · split
        · exact ⟨rfl, rfl, rfl, rfl, rfl, rfl, rfl, rfl, rfl⟩
        · exact .refl _
      all_goals exact .refl _
  unfold place
  refine SchedulerFrame.trans ?_ (told _)
  exact ⟨rfl, rfl, rfl, rfl, rfl, rfl, rfl, rfl, rfl⟩

theorem frame_meetRequest (q : Request) (s : State) : SchedulerFrame s (meetRequest q s) := by
  rcases meetRequest_cases q s with e | e | ⟨g, _, _, e⟩ <;> rw [e]
  · exact .refl _
  · exact frame_sched _ _
  · exact frame_place _ _

theorem frame_retryPlacements (s : State) : SchedulerFrame s (retryPlacements s) := by
  have all : ∀ (l : List Request) (t : State), SchedulerFrame t (l.foldl retryRequest t) := by
    intro l
    induction l with
    | nil => exact fun t => .refl t
    | cons q l ih =>
      intro t
      refine SchedulerFrame.trans ?_ (ih _)
      unfold retryRequest
      split
      · exact SchedulerFrame.trans (frame_sched _ _) (frame_place _ _)
      · exact .refl _
  exact all _ _

theorem frame_tryAnnounce (s : State) : SchedulerFrame s (tryAnnounce s) := by
  unfold tryAnnounce
  split
  · split
    · split
      · exact (frame_queueNotice _ _).trans
          ⟨rfl, rfl, rfl, rfl, rfl, rfl, rfl, rfl, rfl⟩
      · exact .refl _
    · exact .refl _
  · exact .refl _

theorem frame_firstRemoval (s : State) : SchedulerFrame s (firstRemoval s) := by
  unfold firstRemoval
  split
  · exact frame_sched _ _
  · exact .refl _

/-- With the scheduler's part of the strobe done, nothing is removed anew. -/
theorem firstRemoval_of_not_owed {s : State} (done : s.time.owesScheduler = false) : firstRemoval s = s := by
  simp [firstRemoval, done]

theorem frame_serveWindowClose (s : State) : SchedulerFrame s (serveWindowClose s) := by
  unfold serveWindowClose
  split
  · split
    · exact (frame_firstRemoval _).trans ((frame_sched _ _).trans (frame_raise _ _))
    · exact .refl _
  · exact .refl _

theorem frame_serveWindowStart (s : State) : SchedulerFrame s (serveWindowStart s) := by
  unfold serveWindowStart
  split
  · split
    · exact (frame_firstRemoval _).trans (frame_sched _ _)
    · exact .refl _
  · exact .refl _

theorem frame_serveDiscoveryDue (s : State) : SchedulerFrame s (serveDiscoveryDue s) := by
  unfold serveDiscoveryDue
  split
  · split
    · exact (frame_firstRemoval _).trans (frame_sched _ _)
    · exact .refl _
  · exact .refl _

/-- The scheduler's work writes its own state, the slots, attempt counts and retry deadlines that placements write, the outbound queue,
the reservations, the hand-offs, and the host port's events, counters and conditions; nothing else, and it is owed no longer. -/
theorem schedulerWork_frame (s : State) :
    SchedulerFrame { s with time := { s.time with owesScheduler := false } } (schedulerWork s) := by
  refine SchedulerFrame.trans ?_ (frame_retryPlacements _)
  refine SchedulerFrame.trans ?_ (frame_tryAnnounce _)
  refine SchedulerFrame.trans ?_ (frame_serveDiscoveryDue _)
  refine SchedulerFrame.trans ?_ (frame_serveWindowClose _)
  refine SchedulerFrame.trans ?_ (frame_serveWindowStart _)
  exact frame_sched _ _

/-! ### Notices -/

/-- The row of a notice with none of its lane's older ones waiting: its owner acts on it. -/
theorem noticeRow_of_first {p : Channel} {n : Notice} {s : State} (run : running s = true)
    (meant : n.meantFor s.host.ownChannel = true) (first : olderNotices p n s = []) :
    noticeRow p n s = actOn p n { s with handed := s.handed.erase (.notice p n) } := by
  have alone : olderHanded (noticeFrom p) n s = [] := first
  simp [noticeRow, run, meant, takeInOrder_of_first alone, takeNotice, takeEvent]

/-- The row of a notice meant for another part. -/
theorem noticeRow_of_other {p : Channel} {n : Notice} {s : State} (other : n.meantFor s.host.ownChannel = false) :
    noticeRow p n s = s := by
  simp [noticeRow, other]

/-- The row of a notice outside RUNNING. -/
theorem noticeRow_of_not_running {p : Channel} {n : Notice} {s : State} (idle : running s = false) :
    noticeRow p n s = s := by
  simp [noticeRow, idle]

/-! ### Delivery notices and placements -/

/-- The row of a delivery notice with none of its kind and handle waiting. -/
theorem deliveryRow_of_none {sel : Delivery → Bool} {s : State} (absent : ∀ d, Handoff.delivered d ∈ s.handed → sel d = false) :
    deliveryRow sel s = s := by
  have nothing : takeWantedInOrder deliveryNotice sel takeDelivery s = s := by
    refine takeWantedInOrder_of_none fun y hy a e => ?_
    cases y <;> simp only [deliveryNotice, Option.some.injEq, reduceCtorEq] at e
    exact absent a (e ▸ hy)
  simp [deliveryRow, nothing]

/-- The row of the oldest delivery notice: it acts alone. -/
theorem deliveryRow_of_oldest {sel : Delivery → Bool} {d : Delivery} {before after : List Handoff} {s : State}
    (run : running s = true) (split : s.handed = before ++ .delivered d :: after) (oldest : ∀ b, Handoff.delivered b ∉ before)
    (chosen : sel d = true) : deliveryRow sel s = actOnDelivery d { s with handed := before ++ after } := by
  have erased : s.handed.erase (.delivered d) = before ++ after := by
    rw [split, List.erase_append_right _ (oldest d), List.erase_cons_head]
  have alone : takeWantedInOrder deliveryNotice sel takeDelivery s = takeDelivery d s := by
    refine takeWantedInOrder_of_oldest split rfl (fun y hy => ?_) chosen
    cases y <;> first | rfl | exact absurd hy (oldest _)
  simp only [deliveryRow, run, if_true, alone, takeDelivery, takeEvent, erased]

/-- ATTEMPT_PLACED with the oldest placement that waits: it is taken alone. -/
theorem execAttemptPlaced_of_oldest {h : Handle} {x : Identity} {cycle : TreeCycle} {offset : Nat} {before after : List Handoff}
    {s : State} (run : running s = true) (split : s.handed = before ++ .placed h x cycle offset :: after)
    (oldest : ∀ g y c o, Handoff.placed g y c o ∉ before) :
    execAttemptPlaced h s = .next (takePlacement h x cycle offset { s with handed := before ++ after }) := by
  have erased : s.handed.erase (.placed h x cycle offset) = before ++ after := by
    rw [split, List.erase_append_right _ (oldest _ _ _ _), List.erase_cons_head]
  have alone : takeWantedInOrder placementHanded (fun p => p.handle == h) takeOnePlacement s =
      takeOnePlacement ⟨h, x, cycle, offset⟩ s := by
    refine takeWantedInOrder_of_oldest split rfl (fun y hy => ?_) (by simp)
    cases y <;> first | rfl | exact absurd hy (oldest _ _ _ _)
  simp only [execAttemptPlaced, run, if_true, alone, takeOnePlacement, takeEvent, erased]

/-! ### Lane words -/

/-- A lane change leaves the other receivers. -/
theorem laneAt_changeLane_ne {k l : LaneNo} (entered : LaneState) (next : Lane → Lane) (s : State) (ne : k ≠ l) :
    laneAt (changeLane l entered next s) k = laneAt s k := by
  have discard : laneAt (discardAssembly l s) k = laneAt s k := by
    unfold discardAssembly
    split
    · show laneAt (setLane l _ s) k = _
      exact laneAt_setLane_ne _ _ ne
    · rfl
  unfold changeLane
  show laneAt (setLane l _ (discardAssembly l s)) k = _
  rw [laneAt_setLane_ne _ _ ne, discard]

end Sys2Proof.Machine
end

