-- ==== Sys2Proof/Laws/PerInstr.lean ====
section
/-! SUPPORT. The family FrameForm: the frame of a host command is its code, its length byte, and as many parameter bytes as the code
takes (R179, R192). -/

namespace Sys2Proof.Laws.FrameForm

/-- A command's frame begins with a code of the table and the length that code takes, and has that many bytes after them. -/
def Statement (i : Instr) : Prop :=
  ∀ bytes, encodeFrame i = some bytes →
    ∃ code len rest, bytes = code :: len :: rest ∧ rest.length = len.toNat ∧ frameLength code = some len.toNat

/-- A command without a frame has nothing to show. -/
theorem of_none {i : Instr} (h : encodeFrame i = none) : Statement i := by
  intro bytes hb
  simp [h] at hb

/-- A command whose frame is written out. -/
theorem of_some {i : Instr} {code len : Byte} {rest : List Byte} (h : encodeFrame i = some (code :: len :: rest))
    (hl : rest.length = len.toNat) (hc : frameLength code = some len.toNat) : Statement i := by
  intro bytes hb
  rw [h, Option.some.injEq] at hb
  exact ⟨code, len, rest, hb.symm, hl, hc⟩

theorem resetPinEvent (straps : BitVec 2) : Statement (.resetPinEvent straps) := of_none rfl

theorem resetHeld : Statement .resetHeld := of_none rfl

theorem cycleStrobe (epoch : Bool) (part : StrobePart) : Statement (.cycleStrobe epoch part) := of_none rfl

theorem settleDeadline (h : Handle) : Statement (.settleDeadline h) := of_none rfl

theorem offerDeadline (h : Handle) : Statement (.offerDeadline h) := of_none rfl

theorem handoverDeadlineSource (h : Handle) : Statement (.handoverDeadlineSource h) := of_none rfl

theorem handoverDeadlineTarget (h : Handle) : Statement (.handoverDeadlineTarget h) := of_none rfl

theorem retentionDeadline (h : Handle) : Statement (.retentionDeadline h) := of_none rfl

theorem discoveryDueDeadline : Statement .discoveryDueDeadline := of_none rfl

theorem windowStartDeadline : Statement .windowStartDeadline := of_none rfl

theorem windowCloseDeadline : Statement .windowCloseDeadline := of_none rfl

theorem verifyRetryDeadline (h : Handle) : Statement (.verifyRetryDeadline h) := of_none rfl

theorem contestedExpiry (x : Identity) : Statement (.contestedExpiry x) := of_none rfl

theorem laneAbsenceDeadline (l : LaneNo) : Statement (.laneAbsenceDeadline l) := of_none rfl

theorem issuedGrantExpiry (k : DirectedKind) (h : Handle) (r : TreeCycle) : Statement (.issuedGrantExpiry k h r) := of_none rfl

theorem runningFlagTimeout : Statement .runningFlagTimeout := of_none rfl

theorem transmitWordTime : Statement .transmitWordTime := of_none rfl

theorem laneWord (l : LaneNo) (w : LaneWord) : Statement (.laneWord l w) := of_none rfl

theorem laneSilenceTimeout (l : LaneNo) : Statement (.laneSilenceTimeout l) := of_none rfl

theorem claim (p : Channel) (x : Identity) (heard : TreeCycle) : Statement (.claim p x heard) := of_none rfl

theorem object (p : Channel) (x : Identity) (claimant : Channel) : Statement (.object p x claimant) := of_none rfl

theorem release (p : Channel) (x : Identity) : Statement (.release p x) := of_none rfl

theorem quiet (p : Channel) (first : TreeCycle) (length : BitVec 4) : Statement (.quiet p first length) := of_none rfl

theorem cross (p : Channel) (x : Identity) (down : Channel) : Statement (.cross p x down) := of_none rfl

theorem handoff (p : Channel) (x : Identity) (target : Channel) (delay : BitVec 21) : Statement (.handoff p x target delay) := of_none rfl

theorem accept (p : Channel) (x : Identity) (source : Channel) (newHandle : Handle) : Statement (.accept p x source newHandle) := of_none rfl

theorem decline (p : Channel) (x : Identity) (source : Channel) (reason : BitVec 4) : Statement (.decline p x source reason) := of_none rfl

theorem taken (p : Channel) (x : Identity) (source : Channel) : Statement (.taken p x source) := of_none rfl

theorem lapsed (p : Channel) (x : Identity) (source : Channel) : Statement (.lapsed p x source) := of_none rfl

theorem withdraw (p : Channel) (x : Identity) (target : Channel) : Statement (.withdraw p x target) := of_none rfl

theorem burstReport (r : RawReport) : Statement (.burstReport r) := of_none rfl

theorem endOfWindowSummary (r : RawSummary) : Statement (.endOfWindowSummary r) := of_none rfl

theorem hearing (e : Hearing) : Statement (.hearing e) := of_none rfl

theorem crossHeardBurst (b : CrossHeard) : Statement (.crossHeardBurst b) := of_none rfl

theorem rangeAttemptResult (r : RangeResult) : Statement (.rangeAttemptResult r) := of_none rfl

theorem rangingOutcomeApplied (h : Handle) : Statement (.rangingOutcomeApplied h) := of_none rfl

theorem attemptPlaced (h : Handle) : Statement (.attemptPlaced h) := of_none rfl

theorem trackerInput (i : TrackerInput) : Statement (.trackerInput i) := of_none rfl

theorem trackerResultApplied (h : Handle) : Statement (.trackerResultApplied h) := of_none rfl

theorem verificationBurst (v : VerificationBurst) : Statement (.verificationBurst v) := of_none rfl

theorem assignDeliveryNotice (h : Handle) : Statement (.assignDeliveryNotice h) := of_none rfl

theorem setDelayDeliveryNotice (h : Handle) : Statement (.setDelayDeliveryNotice h) := of_none rfl

theorem retuneDeliveryNotice (h : Handle) : Statement (.retuneDeliveryNotice h) := of_none rfl

theorem readStatus : Statement .readStatus := of_some rfl rfl rfl

theorem configure (f : ConfigFrame) : Statement (.configure f) := of_some rfl rfl rfl

theorem start : Statement .start := of_some rfl rfl rfl

theorem restart : Statement .restart := of_some rfl rfl rfl

theorem readEvent : Statement .readEvent := of_some rfl rfl rfl

theorem readCounters (clear : Byte) : Statement (.readCounters clear) := of_some rfl rfl rfl

theorem clearAttention (conditions : Byte) : Statement (.clearAttention conditions) := of_some rfl rfl rfl

theorem bar (x : Identity) : Statement (.bar x) := of_some rfl rfl rfl

theorem unbar (x : Identity) : Statement (.unbar x) := of_some rfl rfl rfl

theorem readRecord (h : Byte) : Statement (.readRecord h) := of_some rfl rfl rfl

theorem find (x : Identity) : Statement (.find x) := of_some rfl rfl rfl

theorem deregister (h : Byte) : Statement (.deregister h) := of_some rfl rfl rfl

theorem rerange (h : Byte) : Statement (.rerange h) := of_some rfl rfl rfl

theorem handover (h : Byte) (target : Byte) : Statement (.handover h target) := of_some rfl rfl rfl

theorem suspend (kind : Byte) : Statement (.suspend kind) := of_some rfl rfl rfl

theorem resume : Statement .resume := of_some rfl rfl rfl

theorem discoverNow : Statement .discoverNow := of_some rfl rfl rfl

theorem badFrame (code : Byte) (length : Byte) : Statement (.badFrame code length) := of_none rfl

theorem frameDiscarded : Statement .frameDiscarded := of_none rfl

end Sys2Proof.Laws.FrameForm
end

