-- ==== Sys2Proof/Tests/Slice0.lean ====
section
/-! SUPPORT. The model's own tests: an ill-formed command for each check of WellFormed, the manual's worked examples, a witness for the
premises of each clause of each statement, and one small effect for the commands. -/

namespace Sys2Proof.Tests
open Sys2Proof Sys2Proof.Machine

/-! ### Small states -/

/-- The state a command leaves; no command stops. -/
def got : Host.Outcome State Fault Refusal → State
  | .next s => s
  | .fault r => nomatch r
  | .refused _ => State.reset

/-- A running part alone on its tree, at cycle 100, its strobe's work still owed. -/
def alone : State :=
  { State.reset with
    time := ⟨100, 100, true, true⟩
    host := { State.reset.host with part := .running } }

/-- A running part of a tree of four channels. -/
def base : State :=
  { alone with host := { alone.host with config := { Configuration.defaults with channelCount := 4 } } }

/-- The same, no work of a strobe owed. -/
def calm : State :=
  { base with time := ⟨100, 100, false, false⟩ }

/-- A part in another part state. -/
def inPart (p : PartState) : State :=
  { State.reset with host := { State.reset.host with part := p } }

def x : Identity := 0x3A7F0C129B40#48
def y : Identity := 0x00000000007F#48

def tr : Tracking :=
  { launchDelay := 1148748, effective := 90, drift := 100, correctionPending := false, atLimit := false, missingRun := 1,
    misalignedRun := 0, lastGood := 80 }

def rf : RangingFields :=
  { heard := some ⟨40, 731200⟩, origin := .fresh, stage := .attempting, samples := [2925003], attempts := 2,
    launchDelay := none, lastGood := none }

def pend : Record := .pending x ⟨40, 731200⟩ 100
def rang : Record := .ranging x rf
def act : Record := .active x tr
def offr : Record := .offering x tr 2 100
def leav : Record := .leaving x 7 2 5 100
def arr : Record := .arriving x 7 2 100 (some 100)
def lst : Record := .lost x 7 80 100

/-- The base state with a record under handle 3. -/
def rec (r : Record) : State :=
  setRecord 3 r base

/-- The same with one hand-off waiting. -/
def recHanding (r : Record) (h : Handoff) : State :=
  hand h (rec r)

/-- A full backlog. -/
def full (s : State) : State :=
  { s with builder := { s.builder with backlog := List.replicate 256 ⟨.drop (.byHandle 0) .host, none⟩ } }

/-- A lane of the base state with this receiver. -/
def laneIn (v : Lane) : State :=
  setLane 0 v base

def up : Lane := { Lane.fresh with state := .up, expected := some false }

/-- A FILL of channel 1's, good at cycle 100 on lane 0 of the base state. -/
def fill (digest : BitVec 4) : LaneWord :=
  makeWord (fillTyped ⟨1, ⟨15, digest, true⟩, 100⟩) false

def head : LaneWord := makeWord (headTyped 3 1 0) false

/-- An OPEN window of the base state, with this many bursts taken. -/
def win (n : Nat) : Window :=
  { stage := .opened, grantCycle := 95, first := 95, last := 99, bursts := n, activity := false, startDeadline := 95,
    closeDeadline := 100 }

def inWindow (n : Nat) : State :=
  { base with sched := { base.sched with window := some (win n) } }

def header (own : Channel) (scatter : Nat) : HeaderBlock :=
  encodeHeader ⟨x, own, scatter, 3⟩

def report (kind : BitVec 3) (outcome : BitVec 2) (arrival : BitVec 28) (b : HeaderBlock) : RawReport :=
  { refCycle := some 95, kind := some kind, handle := some 3, offset := some 1024, outcome := some outcome,
    arrival := some arrival, header := some b, span := some ⟨0, 95, 0⟩ }

/-- An issued grant of this kind for handle 3 in cycle 95. -/
def grant (k : DirectedKind) : DirectedGrant :=
  { kind := k, handle := 3, identity := x, cycle := 95, offset := 1024, span := ⟨.range 3, ⟨97, 0⟩, ⟨97, 576⟩⟩ }

def granted (k : DirectedKind) (r : Record) : State :=
  { rec r with classifier := ⟨[grant k], none⟩ }

/-! ### WellFormed refuses -/

theorem test_ill_strobe : Instr.wellFormed (.cycleStrobe true .build) = false := by decide
theorem test_ill_hearing : Instr.wellFormed (.hearing ⟨x, 0, -65, 0⟩) = false := by decide
theorem test_ill_range_offset : Instr.wellFormed (.rangeAttemptResult ⟨0, x, 0, 1000, .arrival 0⟩) = false := by decide
theorem test_ill_range_arrival : Instr.wellFormed (.rangeAttemptResult ⟨0, x, 0, 1024, .arrival (2 ^ 28)⟩) = false := by
  decide
theorem test_ill_tracker_offset : Instr.wellFormed (.trackerInput ⟨0, x, .active, .burst 0 312500 0⟩) = false := by decide
theorem test_ill_entry_sample : Instr.wellFormed (.trackerInput ⟨0, x, .active, .entrySample 257⟩) = false := by decide
theorem test_ill_verification : Instr.wellFormed (.verificationBurst ⟨0, x, 0, 312321, 0⟩) = false := by decide
theorem test_ill_bad_frame : Instr.wellFormed (.badFrame 2 68) = false := by decide
theorem test_well_formed_commands :
    Instr.wellFormed (.cycleStrobe true .whole) = true ∧ Instr.wellFormed (.hearing ⟨x, 0, -64, 0⟩) = true ∧
      Instr.wellFormed (.rangeAttemptResult ⟨0, x, 0, 312320, .arrival 0⟩) = true ∧
      Instr.wellFormed (.badFrame 2 67) = true := by decide

/-! ### The manual's worked examples -/

/-- R128's table. -/
theorem test_digests :
    digest { Configuration.defaults with channelCount := 4 } = 0x9 ∧
      digest { Configuration.defaults with channelCount := 4, lead := 10 } = 0xA ∧
      digest { Configuration.defaults with channelCount := 3 } = 0xE ∧
      digest { Configuration.defaults with channelCount := 4, lead := 10, treeLoopTime := 1920003 } = 0x9 := by decide

/-- R85's table, the errors put into a valid block. -/
theorem test_header_check :
    checkHeader (header 0 5) = .clean (header 0 5) ∧
      checkHeader (flipAt (header 0 5) 37) = .corrected (header 0 5) ∧
      checkHeader (flipAt (header 0 5) 0) = .corrected (header 0 5) ∧
      checkHeader (flipAt (flipAt (header 0 5) 5) 9) = .uncorrectable ∧
      checkHeader (flipAt (flipAt (flipAt (header 0 5) 3) 33) 64) = .uncorrectable ∧
      checkHeader (flipAt (flipAt (flipAt (header 0 5) 3) 5) 7) =
        .corrected (flipAt (flipAt (flipAt (flipAt (header 0 5) 3) 5) 7) 1) ∧
      headerFields (header 2 47) = ⟨x, 2, 47, 3⟩ := by decide +kernel

/-- R106's table. -/
theorem test_loop_delays :
    loopDelayOf 2925004 2925004 = 731251 ∧ loopDelayOf 2925003 2925008 = 731252 ∧ loopDelayOf 2925005 2925004 = 731251 ∧
      loopDelayOf 2925000 2925015 = 731252 ∧ loopDelayOf 2925003 2925009 = 731252 ∧ loopDelayOf (-6) (-7) = 0 ∧
      launchDelayOf .defaults 2925003 2925009 = 1148748 := by decide

/-- R62's table. -/
theorem test_window_sizing :
    let c := fun lo hi => { Configuration.defaults with minLoopDelay := lo, maxLoopDelay := hi }
    (grantLead (c 0 250000), windowLength (c 0 250000)) = (0, 1) ∧
      (grantLead (c 0 1250000), windowLength (c 0 1250000)) = (0, 5) ∧
      (grantLead (c 312500 1562500), windowLength (c 312500 1562500)) = (1, 5) ∧
      (grantLead (c 270000 1520000), windowLength (c 270000 1520000)) = (0, 6) := by decide

/-- R145's table. -/
theorem test_claim_tie_break :
    yields 0 2 5103 5101 = true ∧ yields 2 0 5101 5103 = false ∧ yields 2 0 5101 5101 = true ∧
      yields 0 2 5101 5101 = false ∧ yields 1 3 65534 2 = false ∧ yields 3 1 2 65534 = true := by decide

/-- R4.3's example: at cycle 7,000 the first clear start is 17 cycles ahead. -/
theorem test_start_pushed_past_spans :
    startAhead { alone with
      time := ⟨7000, 7000, true, true⟩
      sched := { alone.sched with
        spans := [⟨.range 4, ⟨7011, 146123⟩, ⟨7011, 146699⟩⟩, ⟨.verify 9, ⟨7016, 49936⟩, ⟨7016, 50384⟩⟩] } } = some 17 := by
  decide +kernel

/-- R192: a BAR frame, a frame cut short, and a frame of no command. -/
theorem test_frames :
    decodeFrame [8, 6, 0x3A, 0x7F, 0x0C, 0x12, 0x9B, 0x40] = .bar x ∧ decodeFrame [8, 6, 0x3A] = .frameDiscarded ∧
      decodeFrame [18, 0] = .badFrame 18 0 ∧ decodeFrame [5, 1, 9] = .badFrame 5 1 := by decide

/-- R192: LANE-CHANGE of channel 1 from SILENT to SEEKING at cycle 300. -/
theorem test_event_bytes :
    EventRecord.bytes ⟨300, .laneChange 1 .silent .seeking⟩ = [17, 1, 44, 0, 0, 0, 0, 0, 0, 0, 0, 1, 0, 1, 0] := by decide

/-! ### Witnesses: concrete states and operands that meet the premises of each clause -/

theorem wit_StepTakesTheFrontCommand : { base with pending := [Instr.start] }.pending = [.start] ∧ base.pending = [] := by
  decide

theorem wit_StrobeCounts :
    base.host.held = false ∧ base.host.part = .running ∧ (inPart .init).host.held = false ∧
      (inPart .init).host.part = .init ∧ (inPart .aligning).host.held = false ∧ (inPart .aligning).host.part = .aligning ∧
      laneConfigured base.host 0 = true := by decide

theorem wit_StrobeParts :
    running base = true ∧ base.time.owesScheduler = true ∧ base.time.owesBuild = true ∧ running calm = true ∧
      calm.time.owesScheduler = false ∧ calm.time.owesBuild = false ∧ (inPart .init).host.part ≠ .running ∧
      hostCommand .readStatus = true ∧ (∃ t, exec (.cycleStrobe false .counts) calm = .next t ∧ t.time.owesScheduler = true) ∧
      running { calm with time := ⟨100, 100, false, true⟩ } = true :=
  ⟨by decide, by decide, by decide, by decide, by decide, by decide, by decide, by decide, ⟨_, rfl, by decide +kernel⟩,
    by decide⟩

theorem wit_SlateListsMessagesAndGrantableHandles :
    running (rec act) = true ∧ (rec act).time.owesBuild = true ∧ recordAt (rec act) 3 = .active x tr ∧
      reached ((rec act).time.localCount + 1) tr.effective = true ∧ recordAt (rec offr) 3 = .offering x tr 2 100 := by
  decide +kernel

theorem wit_SlateCarriesGrantsAndReservations : running base = true ∧ base.time.owesBuild = true := by decide

theorem wit_EmptySlateOutsideRunning :
    (inPart .init).host.held = false ∧ QuietLaw (inPart .init) ∧ (inPart .init).host.part = .init ∧
      (inPart .aligning).host.held = false ∧ QuietLaw (inPart .aligning) ∧ (inPart .aligning).host.part = .aligning :=
  ⟨rfl, fun _ => by constructor <;> rfl, rfl, rfl, fun _ => by constructor <;> rfl, rfl⟩

/-- Discovery due, with directed spans that leave 16 cycles ahead the first clear start, the last one allowed. -/
def dueBehindASpan : State :=
  { alone with sched := { alone.sched with
    due := true, spans := [⟨.range 4, ⟨113, 0⟩, ⟨113, 576⟩⟩, ⟨.range 5, ⟨115, 0⟩, ⟨115, 576⟩⟩] } }

/-- R62's figures of this configuration: k and w. -/
def windowFigures (c : Configuration) : Nat × Nat :=
  let m := 40000 + c.minLoopDelay
  (m / 312500, (m % 312500 + (c.maxLoopDelay - c.minLoopDelay) + 12032 + 320 + 64) / 312500 + 1)

/-- R61's gate without the part state, spelled out. -/
def gateOpen (s : State) : Prop :=
  Hold.discovery ∉ s.sched.stack ∧
    (∀ l : LaneNo, laneConfigured s.host l = true → s.link.lanes[l].state = .up ∨ s.link.lanes[l].state = .absent) ∧
    s.link.outbound.length < 120

theorem wit_WindowAnnouncement :
    let s := dueBehindASpan
    (running s = true ∧ s.time.owesScheduler = true ∧ s.sched.window = none ∧ s.sched.due = true ∧
      s.sched.dueDeadline = none ∧ s.sched.placements = [] ∧
      (∀ z ∈ s.sched.spans, cycleDiff s.time.treeCycle z.last.cycle < 2) ∧ s.host.config.lead = 9 ∧
      windowFigures s.host.config = (0, 5) ∧ clearOfDirected s 16 = true ∧
      ∀ j < 16, s.host.config.lead ≤ j → clearOfDirected s j = false) ∧
    gateOpen s ∧ ConfigWithin s.host.config :=
  ⟨by decide +kernel, by unfold gateOpen; decide +kernel, by constructor <;> decide⟩

/-- Discovery due, with directed spans across every start that would give a grant cycle up to now + 16. -/
def dueBlocked : State :=
  { dueBehindASpan with sched := { dueBehindASpan.sched with
    spans := dueBehindASpan.sched.spans ++ [⟨.range 6, ⟨120, 0⟩, ⟨120, 576⟩⟩] } }

theorem wit_WindowAnnouncement_none :
    let s := { base with sched := { base.sched with due := true } }
    (running s = true ∧ s.time.owesScheduler = true ∧ s.sched.window = none ∧ s.sched.due = true ∧
      s.sched.placements = [] ∧ (laneConfigured s.host 0 = true ∧ s.link.lanes[0].state ≠ .up ∧ s.link.lanes[0].state ≠ .absent) ∧
      Hold.discovery ∈ { s.sched with stack := [.discovery] }.stack ∧
      120 ≤ { s.link with outbound := List.replicate 120 (.release x) }.outbound.length) ∧
    (running dueBlocked = true ∧ dueBlocked.time.owesScheduler = true ∧ dueBlocked.sched.window = none ∧
      dueBlocked.sched.due = true ∧ dueBlocked.sched.dueDeadline = none ∧ dueBlocked.sched.placements = [] ∧
      (∀ z ∈ dueBlocked.sched.spans, cycleDiff dueBlocked.time.treeCycle z.last.cycle < 2) ∧
      (∀ o < 17, dueBlocked.host.config.lead ≤ o → clearOfDirected dueBlocked o = false) ∧
      (windowFigures dueBlocked.host.config).1 = 0) ∧
    gateOpen dueBlocked ∧ base.sched.due = false ∧ base.sched.dueDeadline = none := by unfold gateOpen; decide +kernel

/-- A VERIFY request for the ARRIVING record of the small states. -/
def wanted : Request := ⟨.verify, 3, x⟩

/-- The span list full of directed spans, so that nothing fits. -/
def crowded : State :=
  { calm with sched := { calm.sched with spans := List.replicate 32 ⟨.range 9, ⟨110, 0⟩, ⟨110, 576⟩⟩ } }

/-- Eight directed grants in the first cycle of the search, so that the next one is the first that fits. -/
def busy : State :=
  { calm with sched := { calm.sched with
    calendar := List.replicate 8 (.directed ⟨.range, 9, y, 102, 0, ⟨.range 9, ⟨110, 0⟩, ⟨110, 576⟩⟩⟩) } }

theorem wit_Placement :
    let queued := fun s : State => { s with sched := { s.sched with placements := [wanted, ⟨.verify, 4, y⟩] } }
    calm.time.owesScheduler = false ∧ calm.sched.placements = [] ∧ wanted.wanted = .verify ∧
      (directedIn 102 calm.sched.calendar).length < 8 ∧ (calm.sched.spans.filter Span.isDirected).length < 32 ∧
      calm.sched.spans = [] ∧ ¬ (crowded.sched.spans.filter Span.isDirected).length < 32 ∧
      ¬ (directedIn 102 busy.sched.calendar).length < 8 ∧ (directedIn 103 busy.sched.calendar).length < 8 ∧
      (∃ r ∈ (queued calm).sched.placements, r.handle = wanted.handle) ∧
      (∀ r ∈ (queued calm).sched.placements.tail, r.handle ≠ wanted.handle) ∧ (queued calm).sched.placements.tail ≠ [] ∧
      recordAt (setRecord 3 arr calm) 3 = .arriving wanted.identity 7 2 100 (some 100) ∧
      recordAt calm 3 = .free ∧ (request wanted calm).sched.placements = [] ∧
      (request wanted crowded).sched.placements = [wanted] ∧ running base = true ∧ base.time.owesScheduler = true ∧
      base.sched.window = none ∧ base.sched.due = false ∧ base.sched.dueDeadline = none ∧ base.sched.spans = [] := by
  decide +kernel

theorem wit_SharedActions :
    ((Event.windowClosed 0).masked base.host.config = true ∧ (Event.tableFull x 0).masked base.host.config = false ∧
      base.host.events.length < 64 ∧ 64 ≤ { base.host with events := List.replicate 64 ⟨0, .tableFull x 0⟩ }.events.length ∧
      Counter.lateReports ≠ Counter.strayReports ∧ base.link.outbound.length < 128 ∧
      128 ≤ { base.link with outbound := List.replicate 128 (.release x) }.outbound.length ∧ base.builder.backlog.length < 256 ∧
      256 ≤ (full base).builder.backlog.length) ∧
    IdentitiesOnce base ∧ recordAt (rec act) 3 = act ∧ lowestFree base = some 0 ∧ (4 : Handle) ≠ 3 :=
  ⟨by decide +kernel,
    fun g h hh => by simp [recordAt, base, alone, State.reset, State.afterPin, Table.atReset, Record.identity?] at hh,
    by decide +kernel, by decide +kernel, by decide⟩

/-- Spans ordered by start, and one that starts with the second of them. -/
theorem wit_SharedActions_spans :
    let l : List Span := [⟨.range 4, ⟨113, 0⟩, ⟨113, 576⟩⟩, ⟨.range 5, ⟨115, 0⟩, ⟨115, 576⟩⟩, ⟨.range 6, ⟨115, 9⟩, ⟨115, 585⟩⟩]
    let z : Span := ⟨.peerQuiet 2, ⟨115, 0⟩, ⟨119, 312499⟩⟩
    (∀ y ∈ z :: l, 0 ≤ (y.first.cycle - 100).toInt ∧ (y.first.cycle - 100).toInt < 16384) ∧
      (l.Pairwise fun a b => a.first.le b.first = true) ∧ insertSpan z l = l.take 2 ++ z :: l.drop 2 := by decide +kernel

theorem wit_EnteringReranging :
    recordAt (rec act) 3 = .active x tr ∧ recordAt (rec offr) 3 = .offering x tr 2 100 ∧
      recordAt (rec lst) 3 = .lost x 7 80 100 ∧ recordAt (rec arr) 3 = .arriving x 7 2 100 (some 100) ∧
      (rec act).builder.backlog.length < 256 ∧ 256 ≤ (full (rec act)).builder.backlog.length := by decide +kernel

theorem wit_RecordDeadlines :
    (running (rec pend) = true ∧ recordAt (rec pend) 3 = .pending x ⟨40, 731200⟩ 100 ∧ due (rec pend) 100 = true ∧
      due (rec pend) 101 = false ∧ 256 ≤ (full (rec pend)).builder.backlog.length) ∧
    running (rec offr) = true ∧ recordAt (rec offr) 3 = .offering x tr 2 100 ∧ recordAt (rec leav) 3 = .leaving x 7 2 5 100 ∧
      recordAt (rec arr) 3 = .arriving x 7 2 100 (some 100) ∧ recordAt (rec lst) 3 = .lost x 7 80 100 ∧
      due (rec offr) 100 = true ∧ due (rec offr) 101 = false := by decide +kernel

theorem wit_SchedulerDeadlines :
    running (inWindow 0) = true ∧ (inWindow 0).sched.window = some (win 0) ∧ (win 0).stage = .opened ∧
      due (inWindow 0) (win 0).closeDeadline = true ∧ due (inWindow 0) (win 0).startDeadline = true ∧
      { win 0 with stage := .announced }.stage = .announced ∧ { base.sched with dueDeadline := some 100 }.dueDeadline = some 100 := by decide

theorem wit_ContestedEntryRemoval :
    let s := { base with table := { base.table with contested := [⟨x, 100⟩, ⟨y, 101⟩] } }
    running s = true ∧ contestedEntry s x = some ⟨x, 100⟩ ∧ due s 100 = true ∧ due s 101 = false ∧
      contestedEntry base x = none := by decide

theorem wit_LinkTimeouts :
    running (laneIn up) = true ∧ laneConfigured (laneIn up).host 0 = true ∧ (laneAt (laneIn up) 0).state = .up ∧
      (laneAt base 0).state = .silent ∧
      due (laneIn { Lane.fresh with absence := some 100 }) 100 = true ∧ LinkLaws base :=
  ⟨by decide +kernel, by decide +kernel, by decide +kernel, by decide +kernel, by decide +kernel,
    ⟨fun l => by
      simp only [base, alone, State.reset, State.afterPin, PeerLink.atReset, Fin.getElem_fin, Vector.getElem_replicate]
      constructor <;> simp [Lane.fresh], by decide, by decide, by decide⟩⟩

theorem wit_IssuedGrantExpiries :
    running (granted .verify act) = true ∧
      (granted .verify act).classifier.issued.find?
        (fun e => (e.kind == .verify && e.handle == 3 && e.cycle == 95) &&
          decide (2 ≤ ((granted .verify act).time.treeCycle - e.span.last.cycle).toInt)) = some (grant .verify) ∧
      (granted .range rang).classifier.issued.find?
        (fun e => (e.kind == .range && e.handle == 3 && e.cycle == 95) &&
          decide (2 ≤ ((granted .range rang).time.treeCycle - e.span.last.cycle).toInt)) = some (grant .range) ∧
      recordAt (granted .verify act) 3 = .active (grant .verify).identity tr ∧
      recordAt (granted .verify offr) 3 = .offering (grant .verify).identity tr 2 100 ∧
      recordAt (granted .verify lst) 3 = .lost x 7 80 100 ∧ base.classifier.issued = [] := by decide +kernel

theorem wit_TransmitterChoosesTheWord :
    running base = true ∧ base.link.sending = [] ∧ base.link.outbound = [] ∧ 16 ≤ base.link.sinceFill ∧
      (Notice.release x).words = headTyped 3 1 (x.extractLsb' 26 22) :: [bodyTyped (x.extractLsb' 0 26 ++ 0#2)] ∧
      { base.link with sinceFill := 15 }.sinceFill < 16 := by decide

theorem wit_lane_statements :
    running (laneIn up) = true ∧ laneConfigured (laneIn up).host 0 = true ∧ goodWord (laneIn up) 0 (fill 9) = true ∧
      goodWord base 0 (fill 9) = true ∧ wordType (fill 9) = some .fill ∧
      upTest 0 (digest base.host.config) (fillFields (wordPayload (fill 9))).info = true ∧
      upTest 0 (digest base.host.config) (fillFields (wordPayload (fill 10))).info = false ∧
      goodWord (laneIn { up with state := .seeking, fillRun := 1 }) 0 (fill 9) = true ∧
      goodWord (laneIn { up with state := .heard, fillRun := 1 }) 0 (fill 9) = true ∧
      goodWord (laneIn { up with state := .hold, goodCount := 127 }) 0 head = true ∧
      goodWord (laneIn { up with silence := 62 }) 0 0x10#32 = false ∧
      goodWord (laneIn { up with state := .hold, silence := 63 }) 0 0x10#32 = false ∧
      goodWord (laneIn { up with silence := 63, badRun := true }) 0 0x10#32 = false ∧
      goodWord (laneIn { up with state := .seeking }) 0 head = true ∧ wordType head ≠ some .fill ∧
      goodWord (laneIn { up with state := .heard, badRun := true }) 0 0x10#32 = false := by decide +kernel

theorem wit_ConfigMismatchRaisedOnce :
    let s := fun n raised => laneIn { up with state := .heard, mismatchCount := n, mismatchRaised := raised }
    (∀ n ∈ [0, 1, 2], ∀ raised ∈ [false, true], running (s n raised) = true ∧ laneConfigured (s n raised).host 0 = true ∧
      goodWord (s n raised) 0 (fill 10) = true ∧ (laneAt (s n raised) 0).state = .heard ∧
      (laneAt (s n raised) 0).assembly = none ∧ (laneAt (s n raised) 0).mismatchCount = n ∧
      (laneAt (s n raised) 0).mismatchRaised = raised) ∧
    wordType (fill 10) = some .fill ∧ (fillFields (wordPayload (fill 10))).info.digest ≠ digest base.host.config ∧
      (fillFields (wordPayload (fill 9))).info.digest = digest base.host.config ∧
      (laneAt (got (exec (.laneWord 0 (fill 10)) (laneIn { up with state := .seeking, fillRun := 1 }))) 0).state = .heard := by
  decide +kernel

/-- A FILL of channel 1's written out by R190: type 00, sender 01, mask 1111, digest 1001, cycle 100, running, spare, alternation, parity. -/
theorem test_fill_word :
    fill 9 = 0b00#2 ++ 0b01#2 ++ 0b1111#4 ++ 0b1001#4 ++ 0b0000000001100100#16 ++ 0b1#1 ++ 0b0#1 ++ 0b0#1 ++ 0b1#1 := by decide

theorem wit_NoticesCrossTheLane_read :
    (2 : Channel).val = ((2#28).extractLsb' 0 2).toNat ∧ (127 : Handle).val = ((0xFF#28).extractLsb' 0 7).toNat := by decide

theorem wit_NoticesCrossTheLane :
    running (laneIn up) = true ∧ laneConfigured (laneIn up).host 0 = true ∧ (laneAt (laneIn up) 0).state = .up ∧
      (laneAt (laneIn up) 0).assembly = none ∧ (laneAt (laneIn up) 0).expected = some false := by decide +kernel

/-- A HEAD of this kind and body count, and a BODY. -/
def headOfKind (kind : BitVec 4) (bodies : BitVec 2) : LaneWord := makeWord (headTyped kind bodies 0) false
def body : LaneWord := makeWord (bodyTyped 0) false

theorem wit_BrokenNoticesAreCounted :
    let s := fun a : Assembly => laneIn { up with assembly := some a }
    running (s ⟨3, 1, 0, []⟩) = true ∧ laneConfigured (s ⟨3, 1, 0, []⟩).host 0 = true ∧
      (laneAt (s ⟨3, 1, 0, []⟩) 0).state = .up ∧ (laneAt (s ⟨3, 1, 0, []⟩) 0).assembly = some ⟨3, 1, 0, []⟩ ∧
      goodWord (s ⟨3, 1, 0, []⟩) 0 0x10#32 = false ∧ wordType (fill 9) = some .fill ∧ wordType head = some .head ∧
      (wordPayload head).extractLsb' 22 2 ≠ 0 ∧ (laneAt base 0).state ≠ .up ∧ (laneAt base 0).assembly = none ∧
      goodWord base 0 head = true ∧ goodWord base 0 body = true ∧ wordType body = some .body ∧
      goodWord (s ⟨3, 1, 0, []⟩) 0 body = true ∧ goodWord (s ⟨3, 1, 0, []⟩) 0 (headOfKind 4 0) = true ∧
      wordType (headOfKind 4 0) = some .head ∧ (wordPayload (headOfKind 4 0)).extractLsb' 22 2 = 0 ∧
      (wordPayload (headOfKind 4 0)).extractLsb' 24 4 = 4 ∧ (wordPayload (headOfKind 3 0)).extractLsb' 24 4 ≠ 4 ∧
      ([] : List (BitVec 28)).length + 1 = (1 : BitVec 2).toNat ∧ ([] : List (BitVec 28)).length + 1 < (2 : BitVec 2).toNat ∧
      (3 : BitVec 4) ∈ [2#4, 3#4, 5#4, 9#4, 10#4, 11#4] := by
  decide +kernel

/-- Two notices of channel 1 wait, with one of channel 2 between them. -/
def twoNotices : State :=
  { calm with handed := [.notice 1 (.release y), .notice 2 (.release x), .notice 1 (.quiet 110 4)] }

theorem wit_NoticeDelivery :
    (1 : Channel) ≠ base.host.ownChannel ∧ running twoNotices = true ∧
      olderNotices 1 (.quiet 110 4) twoNotices = .release y :: [] ∧ (Notice.quiet 110 4).addressee = none ∧
      (Notice.object x 0).addressee = some twoNotices.host.ownChannel ∧
      twoNotices.handed = [.notice 1 (.release y), .notice 2 (.release x)] ++ .notice 1 (.quiet 110 4) :: [] ∧
      Handoff.notice 1 (.release x) ∉ twoNotices.handed := by decide

/-- Nothing waits in the small states, so the premise that nothing older waits holds in them. -/
theorem wit_nothing_older (r : Record) (p : Channel) (n : Notice) (i : TrackerInput) (v : VerificationBurst) :
    olderNotices p n (rec r) = [] ∧ olderNotices p n base = [] ∧ olderInputs i (rec r) = [] ∧ olderInputs i base = [] ∧
      olderVerifications v (rec r) = [] ∧ olderVerifications v base = [] := ⟨rfl, rfl, rfl, rfl, rfl, rfl⟩

def missed (h : Handle) (cycle : TreeCycle) : TrackerInput := ⟨h, x, .active, .missing cycle⟩
def verify (cycle : TreeCycle) : VerificationBurst := ⟨3, x, cycle, 1024, 7684096⟩

/-- Two inputs, two VERIFY bursts and three delivery notices wait for handle 3, others among them. -/
def manyHanded (r : Record) : State :=
  { rec r with
    handed := [.trackerInput (missed 3 95), .verification (verify 95), .trackerInput (missed 4 96),
      .delivered (.setDelay 3 x 7 99), .trackerInput (missed 3 97), .delivered (.assign 3 x 101), .verification (verify 97),
      .delivered (.retune 3 x 101)] }

theorem wit_hand_offs_in_order :
    running (manyHanded act) = true ∧ olderInputs (missed 3 97) (manyHanded act) = [missed 3 95] ∧
      Handoff.trackerInput (missed 3 98) ∉ (manyHanded act).handed ∧
      olderVerifications (verify 97) (manyHanded arr) = [verify 95] ∧
      (manyHanded act).handed =
        (manyHanded act).handed.take 3 ++ .delivered (.setDelay 3 x 7 99) :: (manyHanded act).handed.drop 4 ∧
      Handoff.delivered (.assign 3 x 101) ∈ (manyHanded act).handed.drop 4 ∧
      (Delivery.assign 3 x 101).row ≠ (Delivery.setDelay 3 x 7 99).row := by decide +kernel

theorem wit_ClaimTieBreak :
    running (rec pend) = true ∧ holder (rec pend) x = some 3 ∧ holder (rec pend) y = none ∧
      recordAt (rec pend) 3 = .pending x ⟨40, 731200⟩ 100 ∧ cycleDiff 39 40 < 0 ∧ cycleDiff 40 40 = 0 ∧
      ¬ ((2 : Channel) < base.host.ownChannel) := by decide +kernel

theorem wit_ClaimAgainstAnEstablishedRecord :
    running (rec act) = true ∧ holder (rec act) x = some 3 ∧ recordAt (rec act) 3 = .active x tr ∧
      holder (rec offr) x = some 3 ∧ recordAt (rec offr) 3 = .offering x tr 2 100 ∧
      ((rec act).time.localCount - tr.lastGood).toNat ≤ (rec act).host.config.freshness ∧
      (rec act).host.config.freshness < ((rec act).time.localCount - 35).toNat ∧
      holder (rec rang) x = some 3 ∧ recordAt (rec rang) 3 = .ranging x rf ∧ holder (rec lst) x = some 3 ∧
      (recordAt (rec lst) 3).state = .lost := by decide +kernel

theorem wit_ObjectContestsAPendingRecord :
    running (rec pend) = true ∧ holder (rec pend) x = some 3 ∧ recordAt (rec pend) 3 = .pending x ⟨40, 731200⟩ 100 ∧
      holder (rec act) x = some 3 ∧ (recordAt (rec act) 3).state ≠ .pending := by decide +kernel

theorem wit_QuietReservesSpans :
    running base = true ∧ (base.sched.spans.countP fun z => z.kind == .peerQuiet 2) < 2 ∧
      2 ≤ cycleDiff 102 base.time.treeCycle ∧ cycleDiff 101 base.time.treeCycle < 2 ∧
      2 ≤ cycleDiff 101 base.time.treeCycle + 2 - 1 ∧ cycleDiff 101 base.time.treeCycle + 1 - 1 < 2 ∧
      (0 : BitVec 4).toNat = 0 ∧ (5 : BitVec 4).toNat ≠ 0 := by decide

theorem wit_CrossHeardTerminals :
    (3 : Channel).val < base.host.config.channelCount ∧ alone.host.config.channelCount ≤ (1 : Channel).val ∧
      (holder (rec act) x).isSome = true ∧ holder base x = none ∧ base.builder.backlog.length < 256 ∧
      256 ≤ (full base).builder.backlog.length ∧ holder (full base) x = none ∧ running (full base) = true := by
  decide +kernel

theorem wit_HandoffAnswers :
    running base = true ∧ base.link.strobeWords < 320 ∧ x ∉ base.table.barred ∧ holder base x = none ∧
      lowestFree base = some 0 ∧ (holder (rec act) x).isSome = true ∧ 320 ≤ { base.link with strobeWords := 320 }.strobeWords ∧
      lowestFree { base with table := { base.table with records := Vector.replicate 128 (.active y tr) } } = none := by
  decide +kernel

theorem wit_SourceTakesTheAnswer :
    running (rec offr) = true ∧ holder (rec offr) x = some 3 ∧ recordAt (rec offr) 3 = .offering x tr 2 100 ∧
      holder base x = none := by decide +kernel

theorem wit_HandoverEndNotices :
    running (rec leav) = true ∧ holder (rec leav) x = some 3 ∧ recordAt (rec leav) 3 = .leaving x 7 2 5 100 ∧
      holder (rec lst) x = some 3 ∧ recordAt (rec lst) 3 = .lost x 7 80 100 ∧ holder (rec arr) x = some 3 ∧
      recordAt (rec arr) 3 = .arriving x 7 2 100 (some 100) ∧ holder (rec act) x = some 3 ∧
      (recordAt (rec act) 3).state ≠ .leaving := by decide +kernel

theorem wit_VerificationDecidesArrival :
    running (rec arr) = true ∧ recordAt (rec arr) 3 = .arriving x 7 2 100 (some 100) ∧
      (7684096 + 256 : Int) - 4 * ((base.host.config.treeLoopTime : Int) + 1024) = 256 ∧
      256 < (7684096 + 257 : Int) - 4 * ((base.host.config.treeLoopTime : Int) + 1024) ∧
      recordAt base 3 = .free := by decide +kernel

theorem wit_UnusableReports :
    running base = true ∧ running (inPart .init) = false ∧
      parseReport (report 1 1 0 0) = some (.directed .range 95 3 .noBurst) ∧ base.classifier.issued = [] ∧
      parseReport (report 0 1 0 0) = some (.discover 95 .noBurst) ∧ { win 0 with stage := .announced }.grantCycle = 95 ∧
      base.sched.window = none ∧ { base.sched with lastClosed := some 95 }.lastClosed = some 95 ∧ base.sched.lastClosed ≠ some 95 := by decide

theorem wit_BurstsInTheOpenWindow :
    running (inWindow 16) = true ∧ (inWindow 16).sched.window = some (win 16) ∧ 16 ≤ (win 16).bursts ∧
      (win 15).bursts < 16 ∧
      parseReport (report 0 0 160000 (header 0 0)) = some (.discover 95 (.good 160000 (header 0 0))) ∧
      parseReport (report 4 2 0 0) = some (.ungranted 95 ⟨0, 95, 0⟩ .undecoded) ∧
      (windowSpan (win 0)).contains (arrivalPos 96 160000) = true ∧
      checkHeader (header 0 48) = .clean (header 0 48) ∧ (headerFields (header 0 48)).scatter = 48 ∧
      checkHeader (flipAt (header 1 47) 9) = .corrected (header 1 47) ∧ (headerFields (header 1 47)).downChannel = 1 ∧
      checkHeader (flipAt (flipAt (header 0 0) 5) 9) = .uncorrectable ∧ (160000 : Int) / 4 - 40000 - 256 * 0 = 0 ∧
      (159740 : Int) / 4 - 40000 - 256 * 0 = -65 := by decide +kernel

theorem wit_DirectedReports :
    running (granted .range rang) = true ∧
      parseReport (report 1 0 2500000 (header 0 0)) = some (.directed .range 95 3 (.good 2500000 (header 0 0))) ∧
      (granted .range rang).classifier.issued.find? (fun e => e.kind == .range && e.handle == 3 && e.cycle == 95) =
        some (grant .range) ∧
      insideSpan (grant .range) 2500000 = true ∧ insideSpan (grant .range) 2499999 = false ∧
      (headerFields (header 0 0)).identity = (grant .range).identity ∧
      (headerFields (encodeHeader ⟨y, 0, 0, 0⟩)).identity ≠ (grant .range).identity ∧
      recordAt (granted .verify act) 3 = .active x tr ∧ recordAt (granted .verify offr) 3 = .offering x tr 2 100 ∧
      recordAt (granted .verify arr) 3 = .arriving x 7 2 100 (some 100) ∧ recordAt (granted .verify lst) 3 = lst := by
  decide +kernel

theorem wit_DataAndUngrantedReports :
    let s := { base with sched := { base.sched with spans := [⟨.peerQuiet 2, ⟨95, 0⟩, ⟨99, 312499⟩⟩] } }
    running s = true ∧ parseReport (report 3 0 9 0) = some (.data 95 3 1024 (some 9)) ∧
      parseReport { report 4 2 0 0 with span := some ⟨1, 95, 0⟩ } = some (.ungranted 95 ⟨1, 95, 0⟩ .undecoded) ∧
      windowForUngranted s ⟨1, 95, 0⟩ .undecoded = none ∧
      (s.sched.spans.map fun z => (z.kind, z.first)) = [(.peerQuiet 2, ⟨95, 0⟩)] ∧
      windowForUngranted base ⟨1, 95, 0⟩ .undecoded = none ∧ base.sched.spans = [] := by decide

theorem wit_HeaderCheckCorrectsOneError :
    (⟨x, 3, 63, 255⟩ : HeaderFields).scatter < 64 ∧ checkHeader (header 0 0) = .clean (header 0 0) ∧
      syndrome (flipAt (header 0 0) 37) = 37 ∧
      71 < syndrome (flipAt (flipAt (flipAt (header 0 0) 64) 8) 1) ∧
      syndrome (flipAt (flipAt (header 0 0) 64) 8) ≠ 0 := by decide +kernel

theorem wit_HearingTests :
    let e : Hearing := ⟨x, 1, 731200, 95⟩
    let barred := { base with table := { base.table with barred := [x] } }
    let contested := { base with table := { base.table with contested := [⟨x, 200⟩] } }
    running barred = true ∧ e.identity ∈ barred.table.barred ∧ e.identity ∉ contested.table.barred ∧
      (contested.table.contested.map Contested.identity) = [e.identity] ∧ holder (rec act) x = some 3 ∧
      (recordAt (rec act) 3).state = .active ∧ (recordAt (rec leav) 3).state = .leaving ∧
      (recordAt (rec pend) 3).state = .pending ∧ holder base x = none ∧ lowestFree base = some 0 ∧
      lowestFree { base with table := { base.table with records := Vector.replicate 128 (.active y tr) } } = none := by
  decide +kernel

theorem wit_RangeResultOutcomes :
    let r : RangeResult := ⟨3, x, 95, 1024, .arrival (2925009 + 164096)⟩
    let s := setSlot 3 (.out x 95 1024) (rec rang)
    running s = true ∧ slotAt s r.handle = .out r.identity r.cycle r.offset ∧ recordAt s r.handle = .ranging x rf ∧
      slotAt (rec rang) 3 ≠ .out x 95 1024 ∧ rf.attempts < 4 ∧ rf.samples.getLast? = some 2925003 ∧
      (2925009 + 164096 : Int) - 4 * (1024 + 40000) - 2925003 ≤ 4 * s.host.config.rangingTolerance ∧
      (2925020 : Int) - 2925003 > 4 * s.host.config.rangingTolerance ∧
      (0 : Int) ≤ 1920000 - 40000 - max 0 (((7520001 + 7520001 + 1) / 2 + 2) / 4) ∧
      (1920000 : Int) - 40000 - max 0 (((7520002 + 7520002 + 1) / 2 + 2) / 4) < 0 := by decide +kernel

theorem wit_OutcomesAndPlacements :
    let s := hand (.outcome 3 x (.proceed [] 3)) (setSlot 3 (.answered x) (rec rang))
    let p := hand (.placed 3 x 110 2048) (setSlot 3 (.asked x) (rec rang))
    running s = true ∧ s.handed = [] ++ .outcome 3 x (.proceed [] 3) :: [] ∧ recordAt s 3 = .ranging x rf ∧
      rf.stage = .attempting ∧ slotAt s 3 = .answered x ∧ Hold.ranging ∉ s.sched.stack ∧
      p.handed = [] ++ .placed 3 x 110 2048 :: [] ∧ slotAt p 3 = .asked x ∧ recordAt p 3 = .ranging x rf ∧
      slotAt (setRecord 3 act p) 3 = .asked x ∧ recordAt (setRecord 3 act p) 3 = .active x tr ∧
      256 ≤ (full s).builder.backlog.length ∧ recordAt (recHanding act (.outcome 3 x (.proceed [] 3))) 3 = .active x tr ∧
      base.handed = [] ∧ rf.origin = .fresh := by decide +kernel

/-- Two placements wait, that of handle 4 the older; both records await theirs. -/
def twoPlaced : State :=
  { setSlot 4 (.asked y) (setSlot 3 (.asked x) (setRecord 4 (.ranging y { rf with attempts := 0, samples := [] }) (rec rang))) with
    time := calm.time
    handed := [.placed 4 y 110 0, .placed 3 x 110 1024] }

theorem wit_placements_in_order :
    running twoPlaced = true ∧ twoPlaced.time.owesScheduler = false ∧ twoPlaced.sched.placements = [] ∧
      twoPlaced.handed = [] ++ .placed 4 y 110 0 :: [.placed 3 x 110 1024] ∧ (3 : Handle) ≠ 4 ∧
      (request ⟨.verify, 5, x⟩ twoPlaced).sched.placements = [] ∧ base.handed = [] := by decide +kernel

/-- R72: the row of handle 3's placement takes handle 4's older one first; a VERIFY placement takes both before it acts. -/
theorem test_placements_in_order :
    let s := got (exec (.attemptPlaced 3) twoPlaced)
    s.handed = [] ∧ slotAt s 4 = .out y 110 0 ∧ slotAt s 3 = .out x 110 1024 ∧
      (request ⟨.verify, 5, x⟩ twoPlaced).slots = s.slots ∧ (request ⟨.verify, 5, x⟩ twoPlaced).handed = [] := by decide +kernel

theorem wit_TrackerInputs :
    running (rec act) = true ∧ (rec act).handed = [] ∧ recordAt (rec act) 3 = .active x tr ∧
      recordAt (rec offr) 3 = .offering x tr 2 100 ∧ tr.correctionPending = false ∧
      reached (localOf (rec act).time 90) tr.effective = true ∧ reached (localOf (rec act).time 89) tr.effective = false ∧
      tr.missingRun + 1 < (rec act).host.config.missingLimit ∧ (recordAt base 3).state = .free ∧
      (tr.drift - tr.drift / 8 + 40).natAbs = 32 * (rec act).host.config.driftThreshold := by decide +kernel

theorem wit_TrackerResults :
    let s := recHanding act (.tracked 3 x .active (.missing 2))
    running s = true ∧ s.handed = [] ++ .tracked 3 x .active (.missing 2) :: [] ∧ recordAt s 3 = .active x tr ∧
      recordAt (recHanding offr (.tracked 3 x .offering .lost)) 3 = .offering x tr 2 100 ∧
      recordAt (recHanding lst (.tracked 3 x .active .lost)) 3 = lst ∧ base.handed = [] ∧ tr.atLimit = false ∧
      256 ≤ (full s).builder.backlog.length := by decide +kernel

theorem wit_DeliveryNotices :
    let a := recHanding (.ranging x { rf with stage := .awaitAssign }) (.delivered (.assign 3 x 99))
    let d := recHanding (.ranging x { rf with stage := .awaitSetDelay, launchDelay := some 7 })
      (.delivered (.setDelay 3 x 7 99))
    let c := recHanding (.active x { tr with correctionPending := true }) (.delivered (.setDelay 3 x 7 99))
    let r := recHanding leav (.delivered (.retune 3 x 99))
    running a = true ∧ a.handed = [.delivered (.assign 3 x 99)] ∧
      recordAt a 3 = .ranging x { rf with stage := .awaitAssign } ∧ Hold.ranging ∉ a.sched.stack ∧
      d.handed = [.delivered (.setDelay 3 x 7 99)] ∧
      recordAt d 3 = .ranging x { rf with stage := .awaitSetDelay, launchDelay := some 7 } ∧
      recordAt c 3 = .active x { tr with correctionPending := true } ∧ r.handed = [.delivered (.retune 3 x 99)] ∧
      rf.heard.isSome = true ∧ { rf with heard := none }.heard = none ∧ { rf with launchDelay := some 7 }.launchDelay = some 7 := by
  decide +kernel

theorem wit_host_statements :
    calm.host.held = false ∧ calm.host.part = .running ∧ calm.time.owesScheduler = false ∧
      (inPart .init).host.held = false ∧ (inPart .init).host.part = .init ∧
      (inPart .aligning).host.part = .aligning ∧ { base.host with held := true }.held = true ∧ base.host.events = [] ∧
      (128 : Byte).toNat = 128 ∧ (3 : Byte).toNat = (3 : Handle).val ∧ (127 : Byte).toNat = (127 : Handle).val ∧
      base.table.barred.length < 16 ∧ 16 ≤ { base.table with barred := List.replicate 16 y }.barred.length := by decide

theorem wit_CommandsTurnedAway :
    running (inPart .init) = false ∧ actsInRunning (.hearing ⟨x, 0, 0, 0⟩) = true ∧ { base.host with held := true }.held = true ∧
      calm.host.held = false ∧ (inPart .aligning).host.part ≠ .init := by decide

theorem wit_HostPortBytes :
    calm.host.held = false ∧ (EventRecord.bytes ⟨0, .registered 3 x .fresh⟩).head? = some (BitVec.ofNat 8 (0 + 1)) ∧
      (EventRecord.bytes ⟨0, .windowClosed 0⟩).head? = some (BitVec.ofNat 8 (18 + 1)) := by decide

/-- The parameters of CONFIGURE at their defaults, with this channel count. -/
def parameters (channels : BitVec 32) : ConfigFrame :=
  ⟨channels, 1920000, 0, 1250000, 9, 2000, 40, 8, 4, 4, 4, 64, 20000, 300, 10000, 0x55, 0x40600⟩

theorem wit_ConfigureStartRestart :
    configProblem 0 (parameters 4) = none ∧ configProblem 2 (parameters 2) = some 1 ∧
      configProblem 0 { parameters 1 with eventMask := 0x80000 } = some 17 ∧
      (inPart .init).host.ownChannel.val < (inPart .init).host.config.channelCount ∧
      (inPart .init).host.config.channelCount ≤ (1 : Channel).val ∧
      configOfFrame (parameters 1) = .defaults ∧ calm.host.held = false ∧ calm.time.owesBuild = false := by decide

/-- R180's ranges at their ends: the last value inside and the first outside, each failing under its own number. -/
theorem test_configure_ranges :
    let p := parameters 1
    ([p, { p with lead := 8, treeLoopTime := 1875000 }, { p with lead := 15, treeLoopTime := 2137151 },
        { p with treeLoopTime := 400000, maxLoopDelay := 360000 }, { p with minLoopDelay := 1250000 },
        { p with minLoopDelay := 630000, maxLoopDelay := 1880000 },
        { p with discoveryPeriod := 100 }, { p with discoveryPeriod := 60000 }, { p with fastPeriod := 20 },
        { p with fastPeriod := 1000 }, { p with settleTime := 4 }, { p with settleTime := 64 },
        { p with rangingTolerance := 1 }, { p with rangingTolerance := 16 }, { p with driftThreshold := 1 },
        { p with driftThreshold := 16 }, { p with missingLimit := 2 }, { p with missingLimit := 15 },
        { p with freshness := 8 }, { p with freshness := 1000 }, { p with retention := 1 }, { p with retention := 60000 },
        { p with handoverTime := 50 }, { p with handoverTime := 10000 }, { p with absenceTime := 1000 },
        { p with absenceTime := 60000 }, { p with trainingPattern := 255 }, { p with eventMask := 0x7FFFF }].map
      (configProblem 0)) = List.replicate 28 none ∧
    ([{ p with channelCount := 0 }, { p with channelCount := 5 }, { p with treeLoopTime := 399999 },
        { p with treeLoopTime := 2137152 }, { p with minLoopDelay := 1250001 }, { p with maxLoopDelay := 1250001 },
        { p with minLoopDelay := 630001, maxLoopDelay := 1880001 }, { p with lead := 8 }, { p with lead := 16 },
        { p with discoveryPeriod := 99 }, { p with fastPeriod := 1001 }, { p with settleTime := 3 },
        { p with rangingTolerance := 0 }, { p with driftThreshold := 17 }, { p with missingLimit := 16 },
        { p with freshness := 7 }, { p with retention := 0 }, { p with handoverTime := 49 },
        { p with absenceTime := 60001 }, { p with trainingPattern := 256 }].map
      (configProblem 0)) =
      [some 1, some 1, some 2, some 2, some 3, some 4, some 4, some 5, some 5, some 6, some 7, some 8, some 9, some 10,
        some 11, some 12, some 13, some 14, some 15, some 16] := by decide

theorem wit_BarUnbarDeregister :
    holder (rec act) x = some 3 ∧ (recordAt (rec act) 3).state = .active ∧ (recordAt (rec offr) 3).state = .offering ∧
      holder base x = none ∧ recordAt base 3 = .free ∧ (recordAt (rec act) 3).identity? = some x := by decide +kernel

theorem wit_RerangeAndHandover :
    (recordAt (rec act) 3).state = .active ∧ (recordAt (rec pend) 3).state = .pending ∧ recordAt (rec act) 3 = .active x tr ∧
      laneChannel base.host.ownChannel 0 = 1 ∧ base.link.lanes[0].state ≠ .up ∧ (laneIn up).link.lanes[0].state = .up ∧
      (1 : Channel).val < base.host.config.channelCount ∧ (1 : Channel) ≠ base.host.ownChannel ∧
      (4 : Byte).toNat = base.host.config.channelCount := by decide +kernel

theorem wit_SuspendResumeDiscoverNow :
    Hold.discovery ∈ { base.sched with stack := [.discovery] }.stack ∧ Hold.ranging ∉ base.sched.stack ∧ (base.sched.placements.map Request.handle).Nodup ∧
      base.sched.stack = [] ∧
      { base.sched with stack := [.discovery, .ranging] }.stack = [Hold.discovery] ++ [Hold.ranging] ∧
      (inWindow 0).sched.window.isSome = true ∧ base.sched.window = none ∧ base.sched.due = false := by decide

/-- Two records that wait for their next attempt, ranging suspended and the placement queue empty. -/
def twoWaiting : State :=
  let s := setRecord 4 (.ranging y rf) (rec rang)
  { s with sched := { s.sched with stack := [.ranging] } }

theorem wit_SuspendResumeDiscoverNow_asked :
    twoWaiting.sched.stack = [] ++ [.ranging] ∧ (List.finRange 128).filter (awaitsAttempt twoWaiting) = [3, 4] ∧
      (∀ q ∈ twoWaiting.sched.placements, q.handle ∉ [3, 4]) ∧ recordAt twoWaiting 3 = .ranging x rf := by decide +kernel

theorem wit_FrameRoundTrip :
    encodeFrame (.handover 3 1) = some [14, 2, 3, 1] ∧ decodeFrame [14, 2, 3] = .frameDiscarded ∧
      decodeFrame [14, 1, 3] = .badFrame 14 1 ∧ decodeFrame [0x12, 0] = .badFrame 0x12 0 := by decide

theorem wit_FrameRoundTrip_bad : ∀ i, encodeFrame i ≠ some [0x12, 0] := by
  intro i; cases i <;> simp [encodeFrame]

/-- The step that keeps the laws: from the reset state, with a well-formed command waiting. -/
theorem wit_EveryStepKeepsTheLaws :
    ∃ t, step { State.reset with pending := [.readStatus] } = .next t ∧ t.pending = [] ∧ Instr.wellFormed .readStatus = true :=
  ⟨_, rfl, rfl, rfl⟩

/-- A window announced at cycle 100 for cycle 109, where the laws of a window in progress hold. -/
theorem wit_WindowWithin :
    WindowWithin calm
      { stage := .announced, grantCycle := 109, first := 109, last := 113, bursts := 0, activity := false
        startDeadline := 109, closeDeadline := 115 } :=
  ⟨by decide, by decide, by decide, by decide,
    fun _ => ⟨by decide +kernel, by decide +kernel⟩, ⟨by decide +kernel, by decide +kernel⟩⟩

/-- A record in ATTEMPTING with its third grant out, and one whose outcome is handed. -/
theorem wit_AttemptsWithin :
    AttemptsWithin (setSlot 3 (.out x 95 1024) (rec rang)) 3 x rf ∧
      AttemptsWithin (hand (.outcome 3 x (.proceed [2925003] 2)) (setSlot 3 (.answered x) (rec rang))) 3 x rf := by
  constructor
  · refine ⟨by decide, by decide, by decide, ?_, by decide +kernel⟩
    show x = x ∧ _
    exact ⟨rfl, by decide +kernel, by decide +kernel, by decide⟩
  · refine ⟨by decide, by decide, by decide, ?_, by decide +kernel⟩
    show x = x ∧ _
    exact ⟨rfl, by decide +kernel, _, rfl, by decide, by decide⟩

/-! ### Effects -/

/-- CONFIGURE in INIT, then START: the part waits for the alignment strobe, which starts both counts at 0. -/
theorem test_bring_up :
    let s := got (exec (.configure (parameters 4)) (inPart .init))
    let t := got (exec .start s)
    let u := got (exec (.cycleStrobe true .counts) t)
    s.host.response = some (.ok .nothing) ∧ t.host.part = .aligning ∧ u.host.part = .running ∧ u.time.treeCycle = 0 ∧
      u.sched.due = true := by decide +kernel

/-- A hearing of an unknown identity takes handle 0 and claims it from the peers. -/
theorem test_hearing :
    let s := got (exec (.hearing ⟨x, 1, 731200, 95⟩) base)
    recordAt s 0 = .pending x ⟨95, 731200⟩ 108 ∧ s.link.outbound = [.claim x 95] := by decide +kernel

/-- The agreement of R106's fifth row is handed to the registration controller. -/
theorem test_range_result :
    let s := setSlot 3 (.out x 95 1024) (rec rang)
    (got (exec (.rangeAttemptResult ⟨3, x, 95, 1024, .arrival (2925009 + 164096)⟩) s)).handed =
      [.outcome 3 x (.agreement [2925003, 2925009] 1148748)] := by decide +kernel

/-- A verification burst in place makes an ARRIVING record ACTIVE and tells its source. -/
theorem test_verification :
    let s := got (exec (.verificationBurst ⟨3, x, 95, 1024, 7684096⟩) (rec arr))
    (recordAt s 3).state = .active ∧ s.link.outbound = [.taken x 2] := by decide +kernel

/-- A FILL in SEEKING with one good FILL behind it brings the lane to HEARD, and LANE-CHANGE is queued. -/
theorem test_lane_word :
    let s := got (exec (.laneWord 0 (fill 9)) (laneIn { up with state := .seeking, fillRun := 1 }))
    (laneAt s 0).state = .heard ∧ s.host.events = [⟨100, .laneChange 1 .seeking .heard⟩] := by decide +kernel

/-- An uncorrectable header in the window is counted, captured, and sets HEADER. -/
theorem test_uncorrectable_header :
    let s := got (exec (.burstReport (report 0 0 160000 (flipAt (flipAt (header 0 0) 5) 9))) (inWindow 0))
    s.classifier.capture = some ⟨95, .discover, 160000⟩ ∧ s.host.attention.header = true ∧
      s.host.counters[Counter.headersUncorrectable.index] = 1 := by decide +kernel

/-- A tracker result that corrects the launch delay queues SET-DELAY. -/
theorem test_tracker_result :
    let s := got (exec (.trackerResultApplied 3)
      (recHanding act (.tracked 3 x .active (.aligned 128 100 (some ⟨1148744, none⟩)))))
    s.builder.backlog = [⟨.setDelay 3 1148744, some x⟩] ∧
      recordAt s 3 = .active x { tr with drift := 128, correctionPending := true, missingRun := 0, lastGood := 100 } := by
  decide +kernel

/-- R45: the ASSIGN's row takes the SET-DELAY notice handed before it, so that none from before a re-ranging outlasts it. -/
theorem test_deliveries_in_order :
    let s := got (exec (.assignDeliveryNotice 3)
      { rec (.ranging x { rf with origin := .rerange, stage := .awaitAssign, samples := [], attempts := 0, launchDelay := some 7 }) with
        handed := [.delivered (.setDelay 3 x 7 99), .delivered (.assign 3 x 101)] })
    s.handed.filterMap deliveryNotice = [] ∧ (recordAt s 3).state = .ranging ∧ slotAt s 3 ≠ .idle := by
  decide +kernel

/-- R111: the second input's row takes the first one, applies its result, and computes its own against the run it left. -/
theorem test_tracker_inputs_in_order :
    let s := got (exec (.trackerInput (missed 3 97))
      { rec act with handed := [.trackerInput (missed 3 95), .trackerInput (missed 3 97)] })
    s.handed = [.tracked 3 x .active (.missing 3)] ∧ recordAt s 3 = .active x { tr with missingRun := 2 } := by decide +kernel

/-- R77: the close deadline's row, with the strobe's work owed, removes a passed PEER-QUIET span first. -/
theorem test_removal_before_close :
    let peer : Span := wholeCycles (.peerQuiet 2) 97 2
    let s := got (exec .windowCloseDeadline
      { inWindow 0 with sched := { (inWindow 0).sched with spans := [peer, wholeCycles (.peerQuiet 3) 97 3] } })
    s.sched.window = none ∧ s.sched.spans = [wholeCycles (.peerQuiet 3) 97 3] := by decide +kernel

/-- R124's second row: re-ranged by a second misaligned burst, its ASSIGN gone, the record is freed with a DROP by handle. -/
theorem test_misaligned_then_deregister :
    let s := got (exec (.trackerResultApplied 3) (recHanding act (.tracked 3 x .active .rerange)))
    let t := got (exec (.assignDeliveryNotice 3) (got (exec (.cycleStrobe false .build) s)))
    let u := got (exec (.deregister 3) t)
    (recordAt s 3).state = .ranging ∧ (recordAt t 3).state = .ranging ∧ recordAt u 3 = .free ∧
      u.builder.backlog = [⟨.drop (.byHandle 3) .host, none⟩] := by decide +kernel

/-- R124's third row: a correction computed at count 20 is applied at count 100, its SET-DELAY is queued, and the CLAIM then frees the
stale record; the SET-DELAY's notice matches nothing. -/
theorem test_correction_then_claim :
    let s := got (exec (.trackerResultApplied 3)
      (recHanding act (.tracked 3 x .active (.aligned 128 20 (some ⟨1148744, none⟩)))))
    let t := got (exec (.claim 2 x 95) s)
    let u := got (exec (.setDelayDeliveryNotice 3) (got (exec (.cycleStrobe false .build) t)))
    recordAt t 3 = .free ∧
      t.builder.backlog = [⟨.setDelay 3 1148744, some x⟩, ⟨.drop (.byHandle 3) .peer, none⟩] ∧
      recordAt u 3 = .free ∧ u.handed = [] := by decide +kernel

/-- A placement is found at the first cycle and offset, and its span is reserved. -/
theorem test_placement :
    let s := request ⟨.verify, 3, x⟩ (rec arr)
    s.sched.spans = [⟨.verify 3, ⟨108, 44936⟩, ⟨108, 45384⟩⟩] ∧ s.builder.reservations = s.sched.spans ∧
      recordAt s 3 = .arriving x 7 2 100 (some 104) := by decide +kernel

end Sys2Proof.Tests
end

section
/-! The frame of a RUNNING part's actions. `footing` and `standing` say what no action of a block changes; one lemma per operation of the
model says that the operation keeps them, and a composite is then settled by `simp`. -/

namespace Sys2Proof.Machine

/-- The queue of commands, the pin, the part state, the channel, the configuration and the two counts: what, in RUNNING, only the strobe,
RESTART and the pin change. -/
structure Footing where
  pending : List Instr
  held : Bool
  part : PartState
  ownChannel : Channel
  config : Configuration
  treeCycle : TreeCycle
  localCount : LocalCount

/-- The footing of a state. -/
def footing (s : State) : Footing where
  pending := s.pending
  held := s.host.held
  part := s.host.part
  ownChannel := s.host.ownChannel
  config := s.host.config
  treeCycle := s.time.treeCycle
  localCount := s.time.localCount

/-- The footing, and the peer link but for its outbound queue: what no block but the peer link unit changes either. -/
def standing (s : State) : Footing × PeerLink :=
  (footing s, { s.link with outbound := [] })

theorem footing_eq_of_standing_eq {s t : State} (e : standing t = standing s) : footing t = footing s :=
  congrArg Prod.fst e

theorem SchedulerFrame.standing_eq {s t : State} (f : SchedulerFrame s t) : standing t = standing s := by
  unfold standing footing
  rw [f.pending, f.time, f.link, f.host]

@[simp] theorem standing_ite (c : Prop) [Decidable c] (s t : State) :
    standing (if c then s else t) = if c then standing s else standing t :=
  apply_ite standing c s t

theorem standing_foldl {α : Type} {f : State → α → State} (each : ∀ s a, standing (f s a) = standing s) (l : List α)
    (s : State) : standing (l.foldl f s) = standing s := by
  induction l generalizing s with
  | nil => rfl
  | cons a l ih => rw [List.foldl_cons, ih, each]

/-! ### The shared operations -/

@[simp] theorem standing_raise (e : Event) (s : State) : standing (raise e s) = standing s :=
  (frame_raise e s).standing_eq

@[simp] theorem standing_bump (c : Counter) (s : State) : standing (bump c s) = standing s := rfl

@[simp] theorem standing_attend (c : Condition) (s : State) : standing (attend c s) = standing s := rfl

@[simp] theorem standing_respond (r : Response) (s : State) : standing (respond r s) = standing s := rfl

@[simp] theorem standing_queueNotice (n : Notice) (s : State) : standing (queueNotice n s) = standing s :=
  (frame_queueNotice n s).standing_eq

@[simp] theorem standing_queueMessage (m : Message) (tag : Option Identity) (s : State) :
    standing (queueMessage m tag s) = standing s := by
  rcases queueMessage_cases m tag s with ⟨_, e⟩ | ⟨_, e⟩ <;> rw [e] <;> rfl

@[simp] theorem standing_hand (x : Handoff) (s : State) : standing (hand x s) = standing s := rfl

@[simp] theorem standing_takeEvent (x : Handoff) (s : State) : standing (takeEvent x s) = standing s := rfl

theorem standing_of_takeHanded {α : Type} {sel : Handoff → Option α} {s t : State} {a : α}
    (taken : takeHanded sel s = some (a, t)) : standing t = standing s := by
  obtain ⟨-, e, -⟩ := takeHanded_spec taken
  rw [e]
  rfl

theorem standing_takeInOrder {α : Type} [DecidableEq α] {sel : Handoff → Option α} {take : α → State → State}
    (each : ∀ a s, standing (take a s) = standing s) (a : α) (s : State) :
    standing (takeInOrder sel take a s) = standing s := by
  rw [takeInOrder, each, standing_foldl fun s b => each b s]

theorem standing_takeWantedInOrder {α : Type} [DecidableEq α] {sel : Handoff → Option α} {want : α → Bool}
    {take : α → State → State} (each : ∀ a s, standing (take a s) = standing s) (s : State) :
    standing (takeWantedInOrder sel want take s) = standing s := by
  unfold takeWantedInOrder
  split
  · exact standing_takeInOrder each _ _
  · rfl

@[simp] theorem standing_setRecord (h : Handle) (r : Record) (s : State) : standing (setRecord h r s) = standing s := rfl

@[simp] theorem standing_setSlot (h : Handle) (v : Slot) (s : State) : standing (setSlot h v s) = standing s := rfl

@[simp] theorem standing_dropRequest (h : Handle) (s : State) : standing (dropRequest h s) = standing s := rfl

@[simp] theorem standing_withdrawRequest (h : Handle) (s : State) : standing (withdrawRequest h s) = standing s := by
  simp [withdrawRequest]

@[simp] theorem standing_freeRecord (h : Handle) (s : State) : standing (freeRecord h s) = standing s := by
  simp [freeRecord]

@[simp] theorem standing_uncontest (x : Identity) (s : State) : standing (uncontest x s) = standing s := rfl

@[simp] theorem standing_contest (x : Identity) (s : State) : standing (contest x s) = standing s := rfl

@[simp] theorem standing_addSpan (x : Span) (s : State) : standing (addSpan x s) = standing s := rfl

/-! ### The window scheduler -/

@[simp] theorem standing_serveWindowStart (s : State) : standing (serveWindowStart s) = standing s :=
  (frame_serveWindowStart s).standing_eq

@[simp] theorem standing_serveWindowClose (s : State) : standing (serveWindowClose s) = standing s :=
  (frame_serveWindowClose s).standing_eq

@[simp] theorem standing_serveDiscoveryDue (s : State) : standing (serveDiscoveryDue s) = standing s :=
  (frame_serveDiscoveryDue s).standing_eq

@[simp] theorem standing_schedulerWork (s : State) : standing (schedulerWork s) = standing s :=
  (schedulerWork_frame s).standing_eq

@[simp] theorem standing_owedScheduler (s : State) : standing (owedScheduler s) = standing s := by
  simp [owedScheduler]

@[simp] theorem standing_request (q : Request) (s : State) : standing (request q s) = standing s := by
  rw [request, (frame_meetRequest q _).standing_eq, standing_owedScheduler]

@[simp] theorem standing_enqueue (q : Request) (s : State) : standing (enqueue q s) = standing s := by
  rcases enqueue_cases q s with e | e
  · rw [e]
  · rw [e]; rfl

@[simp] theorem standing_takeOnePlacement (p : RangePlacement) (s : State) :
    standing (takeOnePlacement p s) = standing s :=
  (frame_takePlacement _ _ _ _ _).standing_eq

@[simp] theorem standing_reserveQuiet (p : Channel) (first : TreeCycle) (length : BitVec 4) (s : State) :
    standing (reserveQuiet p first length s) = standing s := by
  simp [reserveQuiet]

@[simp] theorem standing_takeQuiet (p : Channel) (first : TreeCycle) (length : BitVec 4) (s : State) :
    standing (takeQuiet p first length s) = standing s := by
  simp [takeQuiet]

/-! ### The burst classifier -/

@[simp] theorem standing_offerCapture (cycle : TreeCycle) (kind : ReportKind) (q : BitVec 28) (s : State) :
    standing (offerCapture cycle kind q s) = standing s := by
  unfold offerCapture
  split <;> rfl

theorem standing_of_takeHeader {cycle : TreeCycle} {kind : ReportKind} {q : BitVec 28} {b : HeaderBlock} {s t : State}
    {f : Option HeaderFields} (taken : takeHeader cycle kind q b s = (f, t)) : standing t = standing s := by
  unfold takeHeader at taken
  split at taken <;> obtain ⟨-, rfl⟩ := Prod.mk.inj taken <;> simp

@[simp] theorem standing_markActivity (s : State) : standing (markActivity s) = standing s := rfl

@[simp] theorem standing_countBurst (s : State) : standing (countBurst s) = standing s := rfl

@[simp] theorem standing_crossHeard (f : HeaderFields) (s : State) : standing (crossHeard f s) = standing s := by
  simp [crossHeard]

@[simp] theorem standing_ownBurst (g : TreeCycle) (q : Int) (f : HeaderFields) (s : State) :
    standing (ownBurst g q f s) = standing s := by
  simp [ownBurst]

@[simp] theorem standing_identityBurst (g : TreeCycle) (q : Int) (ref : TreeCycle) (kind : ReportKind)
    (arrival : BitVec 28) (b : HeaderBlock) (s : State) :
    standing (identityBurst g q ref kind arrival b s) = standing s := by
  unfold identityBurst
  split
  case h_1 taken => simp [standing_of_takeHeader taken]
  case h_2 taken => simp [standing_of_takeHeader taken]

@[simp] theorem standing_windowReport (w : Window) (origin ref : TreeCycle) (kind : ReportKind) (o : BurstOutcome)
    (s : State) : standing (windowReport w origin ref kind o s) = standing s := by
  cases o <;> simp [windowReport, admitBurst]

@[simp] theorem standing_discoverReport (ref : TreeCycle) (o : BurstOutcome) (s : State) :
    standing (discoverReport ref o s) = standing s := by
  unfold discoverReport
  split <;> simp

@[simp] theorem standing_windowSummary (ref : TreeCycle) (light : Bool) (s : State) :
    standing (windowSummary ref light s) = standing s := by
  unfold windowSummary
  split <;> simp

@[simp] theorem standing_dropEntry (sel : DirectedGrant → Bool) (s : State) : standing (dropEntry sel s) = standing s := rfl

@[simp] theorem standing_handRange (e : DirectedGrant) (a : RangeAnswer) (s : State) :
    standing (handRange e a s) = standing s := rfl

@[simp] theorem standing_rangeReport (e : DirectedGrant) (o : BurstOutcome) (s : State) :
    standing (rangeReport e o s) = standing s := by
  cases o with
  | noBurst => rfl
  | undecoded => rfl
  | good q b =>
    unfold rangeReport
    dsimp only
    split
    case h_1 taken => simp [standing_of_takeHeader taken]
    case h_2 taken => simp [standing_of_takeHeader taken]

@[simp] theorem standing_handVerify (e : DirectedGrant) (q : Nat) (taker : VerifyTaker) (s : State) :
    standing (handVerify e q taker s) = standing s := by
  cases taker <;> rfl

@[simp] theorem standing_handMissing (e : DirectedGrant) (taker : VerifyTaker) (s : State) :
    standing (handMissing e taker s) = standing s := by
  cases taker <;> rfl

@[simp] theorem standing_verifyReport (e : DirectedGrant) (o : BurstOutcome) (s : State) :
    standing (verifyReport e o s) = standing s := by
  unfold verifyReport
  split
  · rfl
  · cases o with
    | noBurst => simp
    | undecoded => simp
    | good q b =>
      dsimp only
      split
      case h_1 taken => exact standing_of_takeHeader taken
      case h_2 taken => simp [standing_of_takeHeader taken]

@[simp] theorem standing_answerEntry (e : DirectedGrant) (o : BurstOutcome) (s : State) :
    standing (answerEntry e o s) = standing s := by
  unfold answerEntry
  split <;> simp

@[simp] theorem standing_directedReport (k : DirectedKind) (ref : TreeCycle) (h : Handle) (o : BurstOutcome) (s : State) :
    standing (directedReport k ref h o s) = standing s := by
  unfold directedReport
  split <;> simp

@[simp] theorem standing_serveExpiry (k : DirectedKind) (h : Handle) (r : TreeCycle) (s : State) :
    standing (serveExpiry k h r s) = standing s := by
  unfold serveExpiry
  dsimp only
  split <;> simp

@[simp] theorem standing_handData (ref : TreeCycle) (h : Handle) (offset : Nat) (arrival : Option (BitVec 28))
    (x : Identity) (found : TrackedState) (s : State) : standing (handData ref h offset arrival x found s) = standing s := by
  cases arrival <;> rfl

@[simp] theorem standing_dataReport (ref : TreeCycle) (h : Handle) (offset : Nat) (arrival : Option (BitVec 28))
    (s : State) : standing (dataReport ref h offset arrival s) = standing s := by
  unfold dataReport
  split <;> simp

@[simp] theorem standing_quietReport (ref : TreeCycle) (o : BurstOutcome) (s : State) :
    standing (quietReport ref o s) = standing s := by
  cases o with
  | undecoded => rfl
  | noBurst => rfl
  | good q b =>
    unfold quietReport
    dsimp only
    split
    case h_1 taken => exact standing_of_takeHeader taken
    case h_2 taken => simp [standing_of_takeHeader taken]

@[simp] theorem standing_ungrantedReport (ref : TreeCycle) (n : SpanName) (o : BurstOutcome) (s : State) :
    standing (ungrantedReport ref n o s) = standing s := by
  unfold ungrantedReport
  split <;> simp

@[simp] theorem standing_takeReport (r : RawReport) (s : State) : standing (takeReport r s) = standing s := by
  unfold takeReport
  split <;> simp

@[simp] theorem standing_takeSummary (r : RawSummary) (s : State) : standing (takeSummary r s) = standing s := by
  unfold takeSummary
  split <;> simp

/-! ### The registration controller -/

@[simp] theorem standing_dropAndRelease (h : Handle) (x : Identity) (reason : DropReason) (s : State) :
    standing (dropAndRelease h x reason s) = standing s := by
  simp [dropAndRelease, queueDrop]

@[simp] theorem standing_makeLost (h : Handle) (x : Identity) (delay : Nat) (lastGood : LocalCount) (s : State) :
    standing (makeLost h x delay lastGood s) = standing s := rfl

@[simp] theorem standing_failRanging (h : Handle) (reason : RangingFailure) (s : State) :
    standing (failRanging h reason s) = standing s := by
  unfold failRanging
  split
  case h_1 x r _ => cases r.origin <;> simp
  all_goals rfl

theorem standing_queueAssign {event : State → State} (each : ∀ s, standing (event s) = standing s) (h : Handle)
    (x : Identity) (s : State) : standing (queueAssign h x event s) = standing s := by
  simp [queueAssign, each]

theorem standing_rerangeWith {first : State → State} (each : ∀ s, standing (first s) = standing s) (h : Handle)
    (x : Identity) (delay : Nat) (lastGood : LocalCount) (cause : RerangeCause) (s : State) :
    standing (rerangeWith h x delay lastGood cause first s) = standing s := by
  simp [rerangeWith, standing_queueAssign, each]

@[simp] theorem standing_enterReranging (h : Handle) (cause : RerangeCause) (s : State) :
    standing (enterReranging h cause s) = standing s := by
  unfold enterReranging
  split <;> simp [standing_rerangeWith]

@[simp] theorem standing_heardAgain (h : Handle) (e : Hearing) (s : State) : standing (heardAgain h e s) = standing s := by
  unfold heardAgain
  split <;> simp

@[simp] theorem standing_heardUnknown (e : Hearing) (s : State) : standing (heardUnknown e s) = standing s := by
  unfold heardUnknown
  split <;> simp

@[simp] theorem standing_takeHearing (e : Hearing) (s : State) : standing (takeHearing e s) = standing s := by
  unfold takeHearing
  cases holder s e.identity <;> simp

@[simp] theorem standing_serveSettle (h : Handle) (s : State) : standing (serveSettle h s) = standing s := by
  unfold serveSettle
  split <;> simp [standing_queueAssign]

@[simp] theorem standing_serveRetention (h : Handle) (s : State) : standing (serveRetention h s) = standing s := by
  unfold serveRetention
  split <;> simp

@[simp] theorem standing_serveContestedExpiry (x : Identity) (s : State) :
    standing (serveContestedExpiry x s) = standing s := by
  unfold serveContestedExpiry
  split <;> simp

@[simp] theorem standing_declareLost (h : Handle) (s : State) : standing (declareLost h s) = standing s := by
  unfold declareLost
  split <;> simp

/-! ### The ranging unit -/

theorem standing_askRangeBy {make : Request → State → State} (each : ∀ q s, standing (make q s) = standing s) (h : Handle)
    (s : State) : standing (askRangeBy make h s) = standing s := by
  unfold askRangeBy
  split <;> simp [each]

@[simp] theorem standing_askRange (h : Handle) (s : State) : standing (askRange h s) = standing s :=
  standing_askRangeBy standing_request h s

@[simp] theorem standing_queueRange (h : Handle) (s : State) : standing (queueRange h s) = standing s :=
  standing_askRangeBy standing_enqueue h s

@[simp] theorem standing_askOrWait (h : Handle) (s : State) : standing (askOrWait h s) = standing s := by
  simp [askOrWait]

@[simp] theorem standing_takeRangeResult (r : RangeResult) (s : State) :
    standing (takeRangeResult r s) = standing s := by
  simp [takeRangeResult]

@[simp] theorem standing_settleSlot (h : Handle) (x : Identity) (s : State) : standing (settleSlot h x s) = standing s := by
  simp [settleSlot]

@[simp] theorem standing_applyOutcome (h : Handle) (x : Identity) (r : RangingFields) (o : RangingOutcome) (s : State) :
    standing (applyOutcome h x r o s) = standing s := by
  cases o <;> simp [applyOutcome]

@[simp] theorem standing_takeOutcome (h : Handle) (x : Identity) (o : RangingOutcome) (s : State) :
    standing (takeOutcome h x o s) = standing s := by
  unfold takeOutcome
  split <;> simp

@[simp] theorem standing_beginAttempts (h : Handle) (s : State) : standing (beginAttempts h s) = standing s :=
  standing_askOrWait h _

/-! ### The delay tracker -/

@[simp] theorem standing_setTracking (h : Handle) (t : Tracking) (s : State) : standing (setTracking h t s) = standing s :=
  rfl

@[simp] theorem standing_applyCorrection (h : Handle) (x : Identity) (t : Tracking) (k : Correction) (s : State) :
    standing (applyCorrection h x t k s) = standing s := by
  simp [applyCorrection]

@[simp] theorem standing_raiseLimit (h : Handle) (x : Identity) (was : Bool) (k : Correction) (s : State) :
    standing (raiseLimit h x was k s) = standing s := by
  unfold raiseLimit
  split <;> simp

@[simp] theorem standing_applyTracked (h : Handle) (x : Identity) (t : Tracking) (r : TrackerResult) (s : State) :
    standing (applyTracked h x t r s) = standing s := by
  unfold applyTracked
  split <;> simp

@[simp] theorem standing_takeTracked (h : Handle) (x : Identity) (found : TrackedState) (r : TrackerResult) (s : State) :
    standing (takeTracked h x found r s) = standing s := by
  unfold takeTracked
  split <;> simp

@[simp] theorem standing_takeTrackedFor (h : Handle) (s : State) : standing (takeTrackedFor h s) = standing s := by
  unfold takeTrackedFor
  split
  case h_1 taken => rw [standing_takeTracked, standing_of_takeHanded taken]
  case h_2 => rfl

@[simp] theorem standing_handResult (i : TrackerInput) (found : TrackedState) (x : Identity) (t : Tracking) (s : State) :
    standing (handResult i found x t s) = standing s := by
  unfold handResult
  cases trackerResult s.host.config s.time t i.kind <;> simp

@[simp] theorem standing_takeOneInput (i : TrackerInput) (s : State) : standing (takeOneInput i s) = standing s := by
  unfold takeOneInput takeInput
  split <;> simp

/-! ### Handover -/

@[simp] theorem standing_takeHandoff (p : Channel) (x : Identity) (delay : BitVec 21) (s : State) :
    standing (takeHandoff p x delay s) = standing s := by
  unfold takeHandoff answerHandoff
  cases lowestFree (uncontest x s) <;> simp [answerDecline, acceptHandoff, askVerify]

@[simp] theorem standing_takeAccept (p : Channel) (x : Identity) (newHandle : Handle) (s : State) :
    standing (takeAccept p x newHandle s) = standing s := by
  unfold takeAccept
  split
  · simp
  · split <;> simp

@[simp] theorem standing_endOffer (h : Handle) (x : Identity) (t : Tracking) (peer : Channel) (reason : DeclinedBy)
    (s : State) : standing (endOffer h x t peer reason s) = standing s := by
  simp [endOffer]

@[simp] theorem standing_takeDecline (p : Channel) (x : Identity) (reason : BitVec 4) (s : State) :
    standing (takeDecline p x reason s) = standing s := by
  unfold takeDecline
  split
  · rfl
  · split <;> simp

@[simp] theorem standing_serveOffer (h : Handle) (s : State) : standing (serveOffer h s) = standing s := by
  unfold serveOffer
  split <;> simp

@[simp] theorem standing_handoverDone (h : Handle) (x : Identity) (target : Channel) (newHandle : Handle) (s : State) :
    standing (handoverDone h x target newHandle s) = standing s := by
  simp [handoverDone]

@[simp] theorem standing_takeTaken (p : Channel) (x : Identity) (s : State) : standing (takeTaken p x s) = standing s := by
  unfold takeTaken
  split
  · rfl
  · split
    · exact standing_handoverDone _ _ _ _ _
    · exact standing_handoverDone _ _ _ _ _
    all_goals rfl

@[simp] theorem standing_lapseSource (h : Handle) (x : Identity) (delay : Nat) (peer : Channel) (cause : LapsedBy)
    (s : State) : standing (lapseSource h x delay peer cause s) = standing s := by
  simp [lapseSource]

@[simp] theorem standing_takeLapsed (p : Channel) (x : Identity) (s : State) : standing (takeLapsed p x s) = standing s := by
  unfold takeLapsed
  split
  · rfl
  · split <;> simp

@[simp] theorem standing_serveHandoverSource (h : Handle) (s : State) :
    standing (serveHandoverSource h s) = standing s := by
  unfold serveHandoverSource
  split <;> simp

@[simp] theorem standing_serveHandoverTarget (h : Handle) (s : State) :
    standing (serveHandoverTarget h s) = standing s := by
  unfold serveHandoverTarget
  split <;> simp

@[simp] theorem standing_takeWithdraw (p : Channel) (x : Identity) (s : State) :
    standing (takeWithdraw p x s) = standing s := by
  unfold takeWithdraw
  split
  · rfl
  · split <;> simp

@[simp] theorem standing_serveVerifyRetry (h : Handle) (s : State) : standing (serveVerifyRetry h s) = standing s := by
  unfold serveVerifyRetry
  split <;> simp [askVerify]

@[simp] theorem standing_verified (h : Handle) (x : Identity) (delay : Nat) (source : Channel) (e : Int) (s : State) :
    standing (verified h x delay source e s) = standing s := by
  simp [verified]

@[simp] theorem standing_takeVerification (v : VerificationBurst) (s : State) :
    standing (takeVerification v s) = standing s := by
  unfold takeVerification
  split <;> simp

@[simp] theorem standing_takeOneVerification (v : VerificationBurst) (s : State) :
    standing (takeOneVerification v s) = standing s := by
  simp [takeOneVerification]

/-! ### The tree notices and the delivery notices -/

@[simp] theorem standing_freeForClaim (h : Handle) (x : Identity) (p : Channel) (drop : Bool) (offeredTo : Option Channel)
    (s : State) : standing (freeForClaim h x p drop offeredTo s) = standing s := by
  cases offeredTo <;> simp [freeForClaim, queueDrop]

@[simp] theorem standing_takeClaim (p : Channel) (x : Identity) (heard : TreeCycle) (s : State) :
    standing (takeClaim p x heard s) = standing s := by
  unfold takeClaim
  split
  · rfl
  · split <;> simp

@[simp] theorem standing_takeObject (q : Channel) (x : Identity) (s : State) : standing (takeObject q x s) = standing s := by
  unfold takeObject
  split
  · rfl
  · split <;> simp

@[simp] theorem standing_takeCross (p : Channel) (x : Identity) (s : State) : standing (takeCross p x s) = standing s := by
  unfold takeCross
  split <;> simp

@[simp] theorem standing_takeCrossHeard (b : CrossHeard) (s : State) : standing (takeCrossHeard b s) = standing s := by
  simp [takeCrossHeard]

@[simp] theorem standing_actOn (p : Channel) (n : Notice) (s : State) : standing (actOn p n s) = standing s := by
  cases n <;> simp [actOn]

@[simp] theorem standing_takeNotice (p : Channel) (n : Notice) (s : State) : standing (takeNotice p n s) = standing s := by
  unfold takeNotice
  dsimp only
  split <;> simp

@[simp] theorem standing_assignDelivered (h : Handle) (x : Identity) (s : State) :
    standing (assignDelivered h x s) = standing s := by
  unfold assignDelivered
  split <;> simp

@[simp] theorem standing_setDelayDelivered (h : Handle) (x : Identity) (delay : Nat) (c : TreeCycle) (s : State) :
    standing (setDelayDelivered h x delay c s) = standing s := by
  unfold setDelayDelivered
  dsimp only
  split <;> simp

@[simp] theorem standing_takeDelivery (d : Delivery) (s : State) : standing (takeDelivery d s) = standing s := by
  cases d <;> simp [takeDelivery, actOnDelivery]

/-! ### The slate and the strobe's leftovers -/

@[simp] theorem standing_buildSlate (s : State) : standing (buildSlate s) = standing s := by
  unfold buildSlate
  dsimp only
  split <;> rfl

@[simp] theorem standing_owedBuild (s : State) : standing (owedBuild s) = standing s := by
  simp [owedBuild]

@[simp] theorem standing_serveRecord (s : State) (h : Handle) : standing (serveRecord s h) = standing s := by
  unfold serveRecord
  split <;> simp

@[simp] theorem standing_serveEntry (s : State) (e : DirectedGrant) : standing (serveEntry s e) = standing s :=
  standing_serveExpiry _ _ _ s

/-! ### The host commands -/

@[simp] theorem standing_respondOk (s : State) : standing (respondOk s) = standing s := rfl

@[simp] theorem standing_readStatus (s : State) : standing (readStatus s) = standing s := rfl

@[simp] theorem standing_readEvent (s : State) : standing (readEvent s) = standing s := by
  unfold readEvent
  split <;> rfl

@[simp] theorem standing_readCounters (clear : Byte) (s : State) : standing (readCounters clear s) = standing s := by
  unfold readCounters
  split <;> rfl

@[simp] theorem standing_clearAttention (conditions : Byte) (s : State) :
    standing (clearAttention conditions s) = standing s := by
  unfold clearAttention
  split <;> rfl

@[simp] theorem standing_addBarred (x : Identity) (s : State) : standing (addBarred x s) = standing s := rfl

@[simp] theorem standing_barHeld (h : Handle) (x : Identity) (s : State) : standing (barHeld h x s) = standing s := by
  unfold barHeld
  split <;> simp

@[simp] theorem standing_bar (x : Identity) (s : State) : standing (bar x s) = standing s := by
  unfold bar
  cases holder s x <;> simp

@[simp] theorem standing_unbar (x : Identity) (s : State) : standing (unbar x s) = standing s := rfl

@[simp] theorem standing_readRecord (h : Byte) (s : State) : standing (readRecord h s) = standing s := by
  unfold readRecord
  split <;> rfl

@[simp] theorem standing_findIdentity (x : Identity) (s : State) : standing (findIdentity x s) = standing s := rfl

@[simp] theorem standing_deregister (h : Byte) (s : State) : standing (deregister h s) = standing s := by
  unfold deregister deregisterRecord
  split
  · simp
  · split <;> simp

@[simp] theorem standing_rerange (h : Byte) (s : State) : standing (rerange h s) = standing s := by
  unfold rerange rerangeRecord
  split
  · simp
  · split <;> simp

@[simp] theorem standing_handoverRecord (h : Handle) (target : Channel) (s : State) :
    standing (handoverRecord h target s) = standing s := by
  unfold handoverRecord
  split <;> simp [makeOffer]

@[simp] theorem standing_handover (h target : Byte) (s : State) : standing (handover h target s) = standing s := by
  unfold handover
  split <;> simp

@[simp] theorem standing_withdrawRangeRequests (s : State) : standing (withdrawRangeRequests s) = standing s :=
  standing_foldl (fun s (r : Request) => standing_withdrawRequest r.handle s) _ s

@[simp] theorem standing_pushHold (k : Hold) (s : State) : standing (pushHold k s) = standing s := by
  cases k with
  | ranging => exact standing_withdrawRangeRequests _
  | discovery => rfl

@[simp] theorem standing_suspend (kind : Byte) (s : State) : standing (suspend kind s) = standing s := by
  unfold suspend
  split <;> simp

@[simp] theorem standing_askWaiting (s : State) : standing (askWaiting s) = standing s := by
  unfold askWaiting
  split
  · rfl
  · rw [standing_foldl fun s h => standing_queueRange h s, standing_askRange]

@[simp] theorem standing_endHold (k : Hold) (s : State) : standing (endHold k s) = standing s := by
  cases k <;> simp [endHold]

@[simp] theorem standing_resume (s : State) : standing (resume s) = standing s := by
  unfold resume
  split
  · rfl
  · exact standing_endHold _ _

@[simp] theorem standing_discoverNow (s : State) : standing (discoverNow s) = standing s := by
  unfold discoverNow
  split
  · rfl
  · split <;> rfl

end Sys2Proof.Machine
end

section
/-! The link's laws, kept by every operation of the peer link unit (R125 to R142), and what the strobe's leftovers keep. -/

namespace Sys2Proof.Machine

/-- The footing stands and the link keeps its laws. -/
structure Steady (s t : State) : Prop where
  footing : footing t = footing s
  link : LinkLaws s → LinkLaws t

theorem Steady.refl (s : State) : Steady s s :=
  ⟨rfl, id⟩

theorem Steady.trans {s t u : State} (a : Steady s t) (b : Steady t u) : Steady s u :=
  ⟨b.footing.trans a.footing, fun laws => b.link (a.link laws)⟩

/-- The link's laws do not read the outbound queue. -/
theorem Steady.of_standing_eq {s t : State} (e : standing t = standing s) : Steady s t where
  footing := footing_eq_of_standing_eq e
  link := fun laws => by
    have lanes : t.link.lanes = s.link.lanes := congrArg (fun f => f.2.lanes) e
    have sending : t.link.sending = s.link.sending := congrArg (fun f => f.2.sending) e
    have sinceFill : t.link.sinceFill = s.link.sinceFill := congrArg (fun f => f.2.sinceFill) e
    have strobeWords : t.link.strobeWords = s.link.strobeWords := congrArg (fun f => f.2.strobeWords) e
    exact ⟨lanes ▸ laws.lanes, sending ▸ laws.sending, sinceFill ▸ sending ▸ laws.fillGap, strobeWords ▸ laws.strobeWords⟩

theorem steady_foldl {α : Type} {f : State → α → State} (each : ∀ s a, Steady s (f s a)) (l : List α) (s : State) :
    Steady s (l.foldl f s) := by
  induction l generalizing s with
  | nil => exact .refl s
  | cons a l ih => exact (each s a).trans (ih _)

/-! ### Receivers -/

/-- A receiver written within its ranges, given that the one it takes the place of is. -/
theorem steady_setLane {l : LaneNo} {v : Lane} {s : State} (within : LaneWithin (laneAt s l) → LaneWithin v) :
    Steady s (setLane l v s) where
  footing := rfl
  link := fun laws => by
    refine ⟨fun k => ?_, laws.sending, laws.fillGap, laws.strobeWords⟩
    change LaneWithin (laneAt (setLane l v s) k)
    by_cases same : k = l
    · rw [same, laneAt_setLane_self]
      exact within (laws.lanes l)
    · rw [laneAt_setLane_ne v s same]
      exact laws.lanes k

/-- The receiver after a notice in assembly is discarded (R140). -/
theorem laneAt_discardAssembly (l : LaneNo) (s : State) :
    laneAt (discardAssembly l s) l = { laneAt s l with assembly := none } := by
  unfold discardAssembly
  split
  · exact laneAt_setLane_self _ _ _
  case h_2 empty => rw [← empty]

/-- A receiver that holds no notice in assembly. -/
theorem LaneWithin.emptied {v : Lane} (within : LaneWithin v) : LaneWithin { v with assembly := none } :=
  { within with assembling := by simp }

theorem steady_discardAssembly (l : LaneNo) (s : State) : Steady s (discardAssembly l s) := by
  unfold discardAssembly
  split
  · exact (steady_setLane fun within => within.emptied).trans (.of_standing_eq rfl)
  · exact .refl s

/-- The fields a change of lane state gives lie within their ranges, the notice in assembly being gone (R139, R140). -/
def EntersWithin (entered : LaneState) (next : Lane → Lane) : Prop :=
  ∀ v, LaneWithin v → v.assembly = none → LaneWithin (next { v with state := entered })

theorem steady_changeLane {entered : LaneState} {next : Lane → Lane} (enters : EntersWithin entered next) (l : LaneNo)
    (s : State) : Steady s (changeLane l entered next s) := by
  unfold changeLane
  refine (steady_discardAssembly l s).trans (Steady.trans (steady_setLane fun within => ?_) (.of_standing_eq (standing_raise _ _)))
  exact enters _ within (by rw [laneAt_discardAssembly])

theorem enters_seeking : EntersWithin .seeking seekingFields := fun _ within empty =>
  { within with fillRun := Nat.zero_le _, goodCount := Nat.zero_le _, assembling := by simp [seekingFields, empty] }

theorem enters_heard : EntersWithin .heard heardFields := fun _ within empty =>
  { within with fillRun := Nat.zero_le _, mismatchCount := Nat.zero_le _, assembling := by simp [heardFields, empty] }

theorem enters_up : EntersWithin .up upFields := fun _ within empty =>
  { within with fillRun := Nat.zero_le _, assembling := by simp [upFields, empty] }

theorem enters_hold : EntersWithin .hold holdFields := fun _ within empty =>
  { within with fillRun := Nat.zero_le _, goodCount := Nat.zero_le _, assembling := by simp [holdFields, empty] }

theorem enters_silent (absence : LocalCount) : EntersWithin .silent (silentFields absence) := fun _ within empty =>
  { within with
    fillRun := Nat.zero_le _, goodCount := Nat.zero_le _, silence := Nat.zero_le _
    assembling := by simp [silentFields, empty] }

theorem enters_absent : EntersWithin .absent fun v => { v with absence := none } := fun _ within empty =>
  { within with assembling := by simp [empty] }

theorem steady_goSilent (l : LaneNo) (s : State) : Steady s (goSilent l s) :=
  steady_changeLane (enters_silent _) l s

/-! ### The lane state machine -/

theorem steady_heardMismatch (l : LaneNo) (f : FillInfo) (s : State) : Steady s (heardMismatch l f s) := by
  unfold heardMismatch
  dsimp only
  split
  · exact steady_setLane fun within => { within with mismatchCount := Nat.zero_le _ }
  · have counted : Steady s (setLane l
        { laneAt s l with
          mismatchCount := min 2 ((laneAt s l).mismatchCount + 1)
          mismatchRaised := (laneAt s l).mismatchRaised || min 2 ((laneAt s l).mismatchCount + 1) == 2 } s) :=
      steady_setLane fun within => { within with mismatchCount := Nat.min_le_left _ _ }
    split
    · exact counted.trans (.of_standing_eq ((standing_attend _ _).trans (standing_raise _ _)))
    · exact counted

theorem steady_heardUpTest (l : LaneNo) (f : FillInfo) (s : State) : Steady s (heardUpTest l f s) := by
  unfold heardUpTest
  dsimp only
  split
  · split
    · exact steady_setLane fun within => { within with fillRun := Nat.le_refl _ }
    · exact steady_changeLane enters_up l s
  · exact steady_setLane fun within => { within with fillRun := Nat.zero_le _ }

theorem steady_upFill (l : LaneNo) (f : FillInfo) (s : State) : Steady s (upFill l f s) := by
  unfold upFill
  dsimp only
  split
  · exact steady_setLane fun within => { within with fillRun := Nat.zero_le _ }
  · split
    · exact steady_setLane fun within => { within with fillRun := Nat.le_refl _ }
    · exact steady_changeLane enters_heard l s

theorem steady_seekingFill (l : LaneNo) (s : State) : Steady s (seekingFill l s) := by
  unfold seekingFill
  dsimp only
  split
  · exact steady_setLane fun within => { within with fillRun := Nat.le_refl _ }
  · exact steady_changeLane enters_heard l s

theorem steady_holdGood (l : LaneNo) (s : State) : Steady s (holdGood l s) := by
  unfold holdGood
  dsimp only
  split
  case isTrue below => exact steady_setLane fun within => { within with goodCount := Nat.le_of_lt_succ below }
  · exact steady_changeLane enters_seeking l s

theorem steady_goodStep (l : LaneNo) (fill : Option FillInfo) (s : State) : Steady s (goodStep l fill s) := by
  unfold goodStep
  split
  · exact steady_changeLane enters_seeking l s
  · exact steady_changeLane enters_seeking l s
  · exact steady_holdGood l s
  · exact steady_seekingFill l s
  · exact (steady_heardMismatch l _ s).trans (steady_heardUpTest l _ _)
  · exact steady_upFill l _ s
  all_goals exact .refl s

theorem steady_badRunStep (l : LaneNo) (s : State) : Steady s (badRunStep l s) := by
  unfold badRunStep
  dsimp only
  split
  · exact (steady_changeLane enters_hold l s).trans (.of_standing_eq rfl)
  · exact steady_setLane fun within => { within with fillRun := Nat.zero_le _, mismatchCount := Nat.zero_le _ }

theorem steady_badStep (l : LaneNo) (s : State) : Steady s (badStep l s) := by
  unfold badStep
  split
  · exact .refl s
  · exact .refl s
  · exact steady_setLane fun within => { within with goodCount := Nat.zero_le _ }
  all_goals exact steady_badRunStep l s

/-- The silence timer is counted up short of the 64th word time alone (R138). -/
theorem steady_countSilence (l : LaneNo) (s : State) : Steady s (countSilence l s) := by
  have counted : Steady s
      (if (laneAt s l).silence + 1 < 64 then setLane l { laneAt s l with silence := (laneAt s l).silence + 1 } s
        else goSilent l s) := by
    split
    case isTrue below => exact steady_setLane fun within => { within with silence := Nat.le_of_lt_succ below }
    · exact steady_goSilent l s
  unfold countSilence
  dsimp only
  split
  · exact .refl s
  · exact .refl s
  all_goals exact counted

/-! ### Notice assembly -/

theorem standing_completeNotice (l : LaneNo) (a : Assembly) (s : State) : standing (completeNotice l a s) = standing s := by
  unfold completeNotice deliverNotice
  split <;> simp

/-- A notice placed in an UP lane, with no more words than its body count, stays in assembly only short of it (R140). -/
theorem steady_placeAssembly {l : LaneNo} {a : Assembly} {s : State}
    (ready : LaneWithin (laneAt s l) → (laneAt s l).state = .up ∧ a.bodies.length ≤ a.bodyCount.toNat) :
    Steady s (placeAssembly l a s) := by
  unfold placeAssembly
  split
  · exact (steady_setLane fun within => within.emptied).trans (.of_standing_eq (standing_completeNotice l a _))
  case isFalse short =>
    refine steady_setLane fun within => { within with assembling := fun b held => ?_ }
    obtain ⟨up, fits⟩ := ready within
    obtain rfl : a = b := Option.some.inj held
    exact ⟨up, Nat.lt_of_le_of_ne fits short⟩

theorem steady_assembleHead (l : LaneNo) (p : BitVec 28) (s : State) : Steady s (assembleHead l p s) := by
  unfold assembleHead
  split
  case isTrue up =>
    refine (steady_discardAssembly l s).trans (steady_placeAssembly fun _ => ⟨?_, Nat.zero_le _⟩)
    rw [laneAt_discardAssembly, up]
  · exact .of_standing_eq rfl

theorem steady_assembleBody (l : LaneNo) (p : BitVec 28) (s : State) : Steady s (assembleBody l p s) := by
  unfold assembleBody
  split
  case h_1 a held =>
    refine steady_placeAssembly fun within => ?_
    obtain ⟨up, short⟩ := within.assembling a held
    exact ⟨up, by simpa using short⟩
  · exact .refl s

/-! ### A word taken -/

theorem steady_markGood (l : LaneNo) (fill : Option FillInfo) (s : State) : Steady s (markGood l fill s) :=
  steady_setLane fun within => { within with silence := Nat.zero_le _ }

theorem steady_takeGood (l : LaneNo) (w : LaneWord) (s : State) : Steady s (takeGood l w s) := by
  unfold takeGood
  split
  · exact (steady_markGood l _ s).trans ((steady_discardAssembly l _).trans (steady_goodStep l _ _))
  · exact (steady_markGood l _ s).trans ((steady_assembleHead l _ _).trans (steady_goodStep l _ _))
  · exact (steady_markGood l _ s).trans ((steady_assembleBody l _ _).trans (steady_goodStep l _ _))
  · exact .refl s

theorem steady_takeBad (l : LaneNo) (s : State) : Steady s (takeBad l s) :=
  (Steady.of_standing_eq (standing_bump _ s)).trans
    ((steady_discardAssembly l _).trans ((steady_badStep l _).trans (steady_countSilence l _)))

theorem steady_takeWord (l : LaneNo) (w : LaneWord) (s : State) : Steady s (takeWord l w s) := by
  have expected : Steady s
      (setLane l { laneAt s l with expected := nextExpected (laneAt s l).expected w } s) :=
    steady_setLane fun within => { within with }
  unfold takeWord
  dsimp only
  split
  · exact expected.trans (steady_takeGood l w _)
  · exact expected.trans (steady_takeBad l _)

theorem steady_takeSilence (l : LaneNo) (s : State) : Steady s (takeSilence l s) := by
  unfold takeSilence
  split
  · exact .refl s
  · exact .refl s
  all_goals exact steady_goSilent l s

theorem steady_serveAbsence (l : LaneNo) (s : State) : Steady s (serveAbsence l s) := by
  unfold serveAbsence
  split
  · split
    · exact steady_changeLane enters_absent l s
    · exact .refl s
  all_goals exact .refl s

/-! ### The transmitter (R130) -/

/-- A notice has at most two words after its HEAD (R190). -/
theorem Notice.words_length_le (n : Notice) : n.words.length ≤ 3 := by
  cases n <;> simp [Notice.words, identityWords]

theorem steady_sendFill (s : State) : Steady s (sendFill s) where
  footing := rfl
  link := fun laws => ⟨laws.lanes, laws.sending, by have := laws.sending; simp [sendFill, sendWord]; omega, laws.strobeWords⟩

/-- A word of a notice sent, with no more to follow it than the words between two FILLs leave room for. -/
theorem steady_sendNoticeWord {rest : List (BitVec 30)} {s : State} (typed : BitVec 30)
    (room : LinkLaws s → rest.length ≤ 2 ∧ s.link.sinceFill + 1 + rest.length ≤ 18) :
    Steady s (sendNoticeWord typed rest s) where
  footing := rfl
  link := fun laws =>
    have ⟨few, gap⟩ := room laws
    ⟨laws.lanes, few, gap, laws.strobeWords⟩

theorem steady_sendNext (s : State) : Steady s (sendNext s) := by
  unfold sendNext
  split
  case h_1 w rest partly =>
    refine steady_sendNoticeWord w fun laws => ?_
    have sending := laws.sending
    have gap := laws.fillGap
    rw [partly, List.length_cons] at sending gap
    omega
  · split
    · exact steady_sendFill s
    case isFalse early =>
      split
      · exact steady_sendFill s
      case h_2 n queue _ =>
        split
        · exact steady_sendFill s
        case h_2 head bodies spelled =>
          have short := n.words_length_le
          rw [spelled, List.length_cons] at short
          have dequeued : Steady s { s with link := { s.link with outbound := queue } } := .of_standing_eq rfl
          refine dequeued.trans (steady_sendNoticeWord head fun _ => ?_)
          dsimp only
          omega

theorem steady_transmitWord (s : State) : Steady s (transmitWord s) := by
  have counted : Steady s { s with link := countWordTime s.link } :=
    ⟨rfl, fun laws => ⟨laws.lanes, laws.sending, laws.fillGap, Nat.min_le_left _ _⟩⟩
  exact counted.trans (steady_sendNext _)

/-! ### What a strobe left to be done -/

theorem steady_serveLane (s : State) (l : LaneNo) : Steady s (serveLane s l) := by
  unfold serveLane
  split
  · exact steady_serveAbsence l s
  · exact .refl s

theorem steady_serveLeftovers (s : State) : Steady s (serveLeftovers s) := by
  have contested : ∀ t (c : Contested), Steady t (serveContestedExpiry c.identity t) := fun t c =>
    .of_standing_eq (standing_serveContestedExpiry c.identity t)
  have records : ∀ t h, Steady t (serveRecord t h) := fun t h => .of_standing_eq (standing_serveRecord t h)
  have entries : ∀ t e, Steady t (serveEntry t e) := fun t e => .of_standing_eq (standing_serveEntry t e)
  exact (steady_foldl contested _ s).trans
    ((steady_foldl records _ _).trans ((steady_foldl steady_serveLane _ _).trans (steady_foldl entries _ _)))

theorem steady_finishStrobe (s : State) : Steady s (finishStrobe s) := by
  have owed : Steady s (owedBuild (owedScheduler s)) := .of_standing_eq (by simp)
  unfold finishStrobe
  dsimp only
  split
  · exact owed.trans (steady_serveLeftovers _)
  · exact owed

end Sys2Proof.Machine
end

section
/-! The four laws of the part's state (R4, R130, R131, R134 to R140, R178, R180), kept by every command. -/

namespace Sys2Proof.Machine

/-- The four laws of the part's state are kept from `s` to `t`, each by itself. -/
structure KeepsLaws (s t : State) : Prop where
  quiet : QuietLaw s → QuietLaw t
  counts : CountsAgree s → CountsAgree t
  config : ConfigWithin s.host.config → ConfigWithin t.host.config
  link : LinkLaws s → LinkLaws t

theorem KeepsLaws.refl (s : State) : KeepsLaws s s :=
  ⟨id, id, id, id⟩

theorem KeepsLaws.trans {s t u : State} (a : KeepsLaws s t) (b : KeepsLaws t u) : KeepsLaws s u :=
  ⟨b.quiet ∘ a.quiet, b.counts ∘ a.counts, b.config ∘ a.config, b.link ∘ a.link⟩

theorem Steady.part {s t : State} (f : Steady s t) : t.host.part = s.host.part :=
  congrArg Footing.part f.footing

theorem Steady.config {s t : State} (f : Steady s t) : t.host.config = s.host.config :=
  congrArg Footing.config f.footing

/-- A steady change keeps the laws where it keeps a part outside RUNNING quiet. -/
theorem Steady.keepsLaws {s t : State} (f : Steady s t)
    (quiet : s.host.part ≠ .running → QuietOutsideRunning s → QuietOutsideRunning t) : KeepsLaws s t where
  quiet := fun law idle => by
    rw [f.part] at idle
    exact quiet idle (law idle)
  counts := fun law run => by
    have tree : t.time.treeCycle = s.time.treeCycle := congrArg Footing.treeCycle f.footing
    have count : t.time.localCount = s.time.localCount := congrArg Footing.localCount f.footing
    rw [tree, count]
    exact law (f.part ▸ run)
  config := fun within => f.config ▸ within
  link := f.link

/-- In RUNNING a steady change keeps the laws. -/
theorem Steady.keepsLaws_of_running {s t : State} (f : Steady s t) (run : s.host.part = .running) : KeepsLaws s t :=
  f.keepsLaws fun idle => absurd run idle

/-- An action that is taken in RUNNING alone. -/
theorem Steady.keepsLaws_guarded {s t : State} {c : Prop} [Decidable c] (f : Steady s t) (run : c → running s = true) :
    KeepsLaws s (if c then t else s) := by
  split
  case isTrue guard =>
    obtain ⟨-, part⟩ := (running_iff s).1 (run guard)
    exact f.keepsLaws_of_running part
  · exact .refl s

/-- What the quiet of a part outside RUNNING is about. -/
def quietView (s : State) :=
  (s.table.records, s.table.contested, s.sched, s.classifier.issued, s.slots, s.link.outbound, s.link.laneOut, s.link.lanes,
    s.builder.backlog, s.builder.reservations, s.handed, s.time.owesScheduler)

theorem QuietOutsideRunning.of_view {s t : State} (q : QuietOutsideRunning s) (same : quietView t = quietView s) :
    QuietOutsideRunning t := by
  simp only [quietView, Prod.mk.injEq] at same
  obtain ⟨records, contested, sched, issued, slots, outbound, laneOut, lanes, backlog, reservations, handed, owed⟩ := same
  exact ⟨records ▸ q.records, contested ▸ q.contested, sched ▸ q.sched, issued ▸ q.issued, slots ▸ q.slots,
    outbound ▸ q.outbound, laneOut ▸ q.silent, lanes ▸ q.lanes, backlog ▸ q.backlog, reservations ▸ q.reservations,
    handed ▸ q.handed, owed ▸ q.owed⟩

/-- A change of nothing that the laws are about. -/
theorem KeepsLaws.of_views {s t : State} (e : standing t = standing s) (same : quietView t = quietView s) : KeepsLaws s t :=
  (Steady.of_standing_eq e).keepsLaws fun _ q => q.of_view same

/-! ### The strobe and the pin -/

theorem keepsLaws_owedScheduler (s : State) : KeepsLaws s (owedScheduler s) :=
  (Steady.of_standing_eq (standing_schedulerWork s)).keepsLaws_guarded fun owed => (Bool.and_eq_true_iff.1 owed).1

/-- Outside RUNNING the build writes the last slate alone (R176). -/
theorem keepsLaws_owedBuild (s : State) : KeepsLaws s (owedBuild s) :=
  (Steady.of_standing_eq (standing_owedBuild s)).keepsLaws fun idle q => q.of_view <| by
    simp only [owedBuild, buildSlate, idle, if_false]
    split <;> rfl

theorem keepsLaws_finishStrobe (s : State) : KeepsLaws s (finishStrobe s) := by
  refine (keepsLaws_owedScheduler s).trans ((keepsLaws_owedBuild _).trans ?_)
  unfold finishStrobe
  dsimp only
  split
  case isTrue run => exact (steady_serveLeftovers _).keepsLaws_of_running run
  · exact .refl _

/-- The two counts advance together (R4). -/
theorem keepsLaws_advanceCounts {s : State} (run : s.host.part = .running) : KeepsLaws s (advanceCounts s) where
  quiet := fun _ idle => absurd run idle
  counts := fun law _ => by
    change s.time.treeCycle + 1 = (s.time.localCount + 1).setWidth 16
    rw [law run]
    bv_omega
  config := id
  link := fun laws => ⟨laws.lanes, laws.sending, laws.fillGap, Nat.zero_le _⟩

/-- At the alignment strobe both counts are 0, and a receiver's absence deadline alone is set (R5, R133). -/
theorem keepsLaws_align (s : State) : KeepsLaws s (align s) where
  quiet := fun _ idle => absurd rfl idle
  counts := fun _ _ => rfl
  config := id
  link := fun laws => by
    have aligned : ∀ l v, LaneWithin v → LaneWithin (alignLane s.host l v) := fun l v within => by
      unfold alignLane
      split
      · exact { within with }
      · exact within
    refine ⟨fun l => ?_, laws.sending, ?_, Nat.zero_le _⟩
    · simpa [align] using aligned l _ (laws.lanes l)
    · have sending := laws.sending
      change 16 + s.link.sending.length ≤ 18
      omega

theorem keepsLaws_strobeCounts (epoch : Bool) (s : State) : KeepsLaws s (strobeCounts epoch s) := by
  unfold strobeCounts
  split
  case h_1 run => exact keepsLaws_advanceCounts run
  · split
    · exact keepsLaws_align s
    · exact .of_views rfl rfl
  · exact .of_views rfl rfl

theorem keepsLaws_takeStrobe (epoch : Bool) (part : StrobePart) (s : State) : KeepsLaws s (takeStrobe epoch part s) := by
  have counted : KeepsLaws s (strobeCounts epoch (finishStrobe s)) :=
    (keepsLaws_finishStrobe s).trans (keepsLaws_strobeCounts epoch _)
  cases part with
  | whole => exact counted.trans ((keepsLaws_owedScheduler _).trans (keepsLaws_owedBuild _))
  | counts => exact counted
  | scheduler => exact keepsLaws_owedScheduler s
  | build => exact keepsLaws_owedBuild s

theorem configWithin_defaults : ConfigWithin .defaults := by
  constructor <;> decide

/-- The link after the pin and after RESTART has its laws (R129, R130, R133). -/
theorem linkLaws_atReset {s : State} (reset : s.link = .atReset) : LinkLaws s := by
  have fresh : LaneWithin Lane.fresh := ⟨by decide, by decide, by decide, by decide, by simp [Lane.fresh]⟩
  constructor <;> rw [reset]
  · intro l
    simpa [PeerLink.atReset] using fresh
  all_goals decide

/-- The part is quiet after the pin and after RESTART (R182, R188). -/
theorem quietOutsideRunning_emptyBlocks (s : State) : QuietOutsideRunning (emptyBlocks s) :=
  ⟨rfl, rfl, rfl, rfl, rfl, rfl, rfl, rfl, rfl, rfl, rfl, rfl⟩

theorem keepsLaws_afterPin (s : State) (own : Channel) (waiting : List Instr) (drawn : Nat) :
    KeepsLaws s { State.afterPin own with pending := waiting, freeCount := drawn } where
  quiet := fun _ _ => ⟨rfl, rfl, rfl, rfl, rfl, rfl, rfl, rfl, rfl, rfl, rfl, rfl⟩
  counts := fun _ run => nomatch run
  config := fun _ => configWithin_defaults
  link := fun _ => linkLaws_atReset rfl

/-- A part held in reset has its lane silent and its part state as it was (R188, log entry 15). -/
theorem keepsLaws_resetHeld (s : State) :
    KeepsLaws s
      { s with host := { s.host with held := true, response := none }, link := { s.link with laneOut := none } } where
  quiet := fun law idle => { law idle with silent := rfl }
  counts := id
  config := id
  link := fun laws => { laws with }

/-! ### The host commands -/

/-- A frame keeps the laws where what it does in the part states listed for it does. -/
theorem keepsLaws_command {taken : PartState → Bool} {decide : State → State}
    (each : ∀ s, taken s.host.part = true → KeepsLaws s (decide s)) (s : State) : KeepsLaws s (command taken decide s) := by
  unfold command answer
  split
  · exact .refl s
  · refine (keepsLaws_owedScheduler s).trans ?_
    split
    case isTrue listed => exact each _ listed
    · exact .of_views rfl rfl

/-- A frame of RUNNING alone (R179). -/
theorem keepsLaws_command_inRunning {decide : State → State} (each : ∀ s, standing (decide s) = standing s) (s : State) :
    KeepsLaws s (command inRunning decide s) :=
  keepsLaws_command (fun s listed => (Steady.of_standing_eq (each s)).keepsLaws_of_running (by simpa [inRunning] using listed)) s

/-- A frame that touches nothing the laws are about. -/
theorem keepsLaws_command_of_views {taken : PartState → Bool} {decide : State → State}
    (each : ∀ s, standing (decide s) = standing s) (same : ∀ s, quietView (decide s) = quietView s) (s : State) :
    KeepsLaws s (command taken decide s) :=
  keepsLaws_command (fun s _ => .of_views (each s) (same s)) s

theorem quietView_readEvent (s : State) : quietView (readEvent s) = quietView s := by
  unfold readEvent
  split <;> rfl

theorem quietView_readCounters (clear : Byte) (s : State) : quietView (readCounters clear s) = quietView s := by
  unfold readCounters
  split <;> rfl

theorem quietView_clearAttention (conditions : Byte) (s : State) :
    quietView (clearAttention conditions s) = quietView s := by
  unfold clearAttention
  split <;> rfl

/-- No record of a quiet part holds an identity. -/
theorem QuietOutsideRunning.holder_eq_none {s : State} (q : QuietOutsideRunning s) (x : Identity) : holder s x = none := by
  have free : ∀ h, recordAt s h = .free := fun h => by simp [recordAt, q.records]
  simp [holder, free, Record.identity?]

/-- In INIT no record is freed by BAR (R22). -/
theorem keepsLaws_bar (x : Identity) (s : State) : KeepsLaws s (bar x s) :=
  (Steady.of_standing_eq (standing_bar x s)).keepsLaws fun _ q => q.of_view <| by
    unfold bar
    rw [q.holder_eq_none x]
    split
    · rfl
    · split <;> rfl

/-- The checks of CONFIGURE give the ranges of its table (R180). -/
theorem configWithin_of_accepted {own : Channel} {f : ConfigFrame} (accepted : configProblem own f = none) :
    ConfigWithin (configOfFrame f) := by
  have passed : (configChecks own f).findIdx? (!·) = none := by simpa [configProblem] using accepted
  have all : ∀ b ∈ configChecks own f, b = true := by simpa [List.findIdx?_eq_none_iff] using passed
  simp only [configChecks, List.forall_mem_cons, Bool.and_eq_true, decide_eq_true_eq] at all
  obtain ⟨⟨channelCount, -⟩, treeLoopTime, minLoopDelay, maxLoopDelay, ⟨⟨leadLow, leadHigh⟩, leadTree⟩, discoveryPeriod,
    fastPeriod, settleTime, rangingTolerance, driftThreshold, missingLimit, freshness, retention, handoverTime, absenceTime,
    -⟩ := all
  exact ⟨channelCount, treeLoopTime, minLoopDelay, maxLoopDelay, ⟨leadLow, leadHigh, leadTree⟩, discoveryPeriod, fastPeriod,
    settleTime, rangingTolerance, driftThreshold, missingLimit, freshness, retention, handoverTime, absenceTime⟩

theorem keepsLaws_configure (f : ConfigFrame) (s : State) : KeepsLaws s (configure f s) := by
  unfold configure
  split
  · exact .of_views rfl rfl
  case h_2 accepted =>
    exact
      { quiet := fun law idle => (law idle).of_view rfl
        counts := id
        config := fun _ => configWithin_of_accepted accepted
        link := fun laws => { laws with } }

/-- START leaves INIT for ALIGNING (R181), so the part stays outside RUNNING. -/
theorem keepsLaws_startPart {s : State} (init : inInit s.host.part = true) : KeepsLaws s (startPart s) := by
  have idle : s.host.part ≠ .running := by
    rw [beq_iff_eq.1 init]
    decide
  unfold startPart
  split
  · exact .of_views rfl rfl
  · exact
      { quiet := fun law _ => (law idle).of_view rfl
        counts := fun _ run => nomatch run
        config := id
        link := fun laws => { laws with } }

theorem keepsLaws_restartPart (s : State) : KeepsLaws s (restartPart s) := by
  refine (keepsLaws_finishStrobe s).trans ?_
  exact
    { quiet := fun _ _ => (quietOutsideRunning_emptyBlocks _).of_view rfl
      counts := fun _ run => nomatch run
      config := id
      link := fun _ => linkLaws_atReset rfl }

/-! ### Every command -/

theorem KeepsLaws.of_next {s t u : State} (done : (.next u : Host.Outcome State Fault Refusal) = .next t)
    (keeps : KeepsLaws s u) : KeepsLaws s t :=
  Host.Outcome.next.inj done ▸ keeps

/-- The row of an action that the part takes in RUNNING alone. -/
theorem keepsLaws_row {s t : State} (e : standing t = standing s) : KeepsLaws s (if running s then t else s) :=
  (Steady.of_standing_eq e).keepsLaws_guarded id

/-- The row of an action of a configured lane. -/
theorem keepsLaws_laneRow {l : LaneNo} {s t : State} (f : Steady s t) :
    KeepsLaws s (if running s && laneConfigured s.host l then t else s) :=
  f.keepsLaws_guarded fun guard => (Bool.and_eq_true_iff.1 guard).1

theorem keepsLaws_noticeRow (p : Channel) (n : Notice) (s : State) : KeepsLaws s (noticeRow p n s) :=
  (Steady.of_standing_eq (standing_takeInOrder (standing_takeNotice p) n s)).keepsLaws_guarded fun guard =>
    (Bool.and_eq_true_iff.1 guard).1

theorem keepsLaws_deliveryRow (sel : Delivery → Bool) (s : State) : KeepsLaws s (deliveryRow sel s) :=
  keepsLaws_row (standing_takeWantedInOrder standing_takeDelivery s)

theorem keepsLaws_rangingOutcomeApplied (h : Handle) (s : State) :
    KeepsLaws s (if running s then
      match takeHanded (outcomeFor h) s with
      | some ((x, o), t) => takeOutcome h x o t
      | none => s
    else s) := by
  refine keepsLaws_row ?_
  split
  case h_1 taken => rw [standing_takeOutcome, standing_of_takeHanded taken]
  · rfl

/-- The time-out leaves the count of word times at its bound (R131). -/
theorem steady_runningFlagTimeout (s : State) : Steady s { s with link := { s.link with strobeWords := 320 } } :=
  ⟨rfl, fun laws => ⟨laws.lanes, laws.sending, laws.fillGap, Nat.le_refl _⟩⟩

/-- Every command keeps the four laws of the part's state. -/
theorem keepsLaws_exec {c : Instr} {s t : State} (done : exec c s = .next t) : KeepsLaws s t := by
  cases c with
  | resetPinEvent straps => exact .of_next done (keepsLaws_afterPin s _ _ _)
  | resetHeld => exact .of_next done (keepsLaws_resetHeld s)
  | cycleStrobe epoch part =>
    refine .of_next done ?_
    split
    · exact .refl s
    · exact keepsLaws_takeStrobe epoch part s
  | settleDeadline h => exact .of_next done (keepsLaws_row (standing_serveSettle h s))
  | offerDeadline h => exact .of_next done (keepsLaws_row (standing_serveOffer h s))
  | handoverDeadlineSource h => exact .of_next done (keepsLaws_row (standing_serveHandoverSource h s))
  | handoverDeadlineTarget h => exact .of_next done (keepsLaws_row (standing_serveHandoverTarget h s))
  | retentionDeadline h => exact .of_next done (keepsLaws_row (standing_serveRetention h s))
  | discoveryDueDeadline => exact .of_next done (keepsLaws_row (standing_serveDiscoveryDue s))
  | windowStartDeadline => exact .of_next done (keepsLaws_row (standing_serveWindowStart s))
  | windowCloseDeadline => exact .of_next done (keepsLaws_row (standing_serveWindowClose s))
  | verifyRetryDeadline h => exact .of_next done (keepsLaws_row (standing_serveVerifyRetry h s))
  | contestedExpiry x => exact .of_next done (keepsLaws_row (standing_serveContestedExpiry x s))
  | laneAbsenceDeadline l => exact .of_next done (keepsLaws_laneRow (steady_serveAbsence l s))
  | issuedGrantExpiry k h r => exact .of_next done (keepsLaws_row (standing_serveExpiry k h r s))
  | runningFlagTimeout => exact .of_next done ((steady_runningFlagTimeout s).keepsLaws_guarded id)
  | transmitWordTime => exact .of_next done ((steady_transmitWord s).keepsLaws_guarded id)
  | laneWord l w => exact .of_next done (keepsLaws_laneRow (steady_takeWord l w s))
  | laneSilenceTimeout l => exact .of_next done (keepsLaws_laneRow (steady_takeSilence l s))
  | claim | object | release | quiet | cross | handoff | accept | decline | taken | lapsed | withdraw =>
    exact .of_next done (keepsLaws_noticeRow _ _ s)
  | burstReport r => exact .of_next done (keepsLaws_row (standing_takeReport r s))
  | endOfWindowSummary r => exact .of_next done (keepsLaws_row (standing_takeSummary r s))
  | hearing e => exact .of_next done (keepsLaws_row (standing_takeHearing e _))
  | crossHeardBurst b => exact .of_next done (keepsLaws_row (standing_takeCrossHeard b _))
  | rangeAttemptResult r => exact .of_next done (keepsLaws_row (standing_takeRangeResult r _))
  | rangingOutcomeApplied h => exact .of_next done (keepsLaws_rangingOutcomeApplied h s)
  | attemptPlaced h => exact .of_next done (keepsLaws_row (standing_takeWantedInOrder standing_takeOnePlacement s))
  | trackerInput i => exact .of_next done (keepsLaws_row (standing_takeInOrder standing_takeOneInput i s))
  | trackerResultApplied h => exact .of_next done (keepsLaws_row (standing_takeTrackedFor h s))
  | verificationBurst v => exact .of_next done (keepsLaws_row (standing_takeInOrder standing_takeOneVerification v s))
  | assignDeliveryNotice | setDelayDeliveryNotice | retuneDeliveryNotice =>
    exact .of_next done (keepsLaws_deliveryRow _ s)
  | readStatus => exact .of_next done (keepsLaws_command_of_views standing_readStatus (fun _ => rfl) s)
  | configure f => exact .of_next done (keepsLaws_command (fun s _ => keepsLaws_configure f s) s)
  | start => exact .of_next done (keepsLaws_command (fun _ init => keepsLaws_startPart init) s)
  | restart => exact .of_next done (keepsLaws_command (fun s _ => keepsLaws_restartPart s) s)
  | readEvent => exact .of_next done (keepsLaws_command_of_views standing_readEvent quietView_readEvent s)
  | readCounters clear =>
    exact .of_next done (keepsLaws_command_of_views (standing_readCounters clear) (quietView_readCounters clear) s)
  | clearAttention conditions =>
    exact .of_next done
      (keepsLaws_command_of_views (standing_clearAttention conditions) (quietView_clearAttention conditions) s)
  | bar x => exact .of_next done (keepsLaws_command (fun s _ => keepsLaws_bar x s) s)
  | unbar x => exact .of_next done (keepsLaws_command_of_views (standing_unbar x) (fun _ => rfl) s)
  | readRecord h => exact .of_next done (keepsLaws_command_inRunning (standing_readRecord h) s)
  | find x => exact .of_next done (keepsLaws_command_inRunning (standing_findIdentity x) s)
  | deregister h => exact .of_next done (keepsLaws_command_inRunning (standing_deregister h) s)
  | rerange h => exact .of_next done (keepsLaws_command_inRunning (standing_rerange h) s)
  | handover h target => exact .of_next done (keepsLaws_command_inRunning (standing_handover h target) s)
  | suspend kind => exact .of_next done (keepsLaws_command_inRunning (standing_suspend kind) s)
  | resume => exact .of_next done (keepsLaws_command_inRunning standing_resume s)
  | discoverNow => exact .of_next done (keepsLaws_command_inRunning standing_discoverNow s)
  | badFrame code length =>
    exact .of_next done (keepsLaws_command_of_views (standing_respond (.badParameter 0)) (fun _ => rfl) s)
  | frameDiscarded => exact .of_next done (.of_views rfl rfl)

/-- A step takes a command with the queue's rest, or idles; the laws are not about the queue. -/
theorem keepsLaws_step {s t : State} (done : step s = .next t) : KeepsLaws s t := by
  unfold step at done
  split at done
  · exact .of_next done (.refl s)
  case h_2 c rest _ =>
    have dequeued : KeepsLaws s { s with pending := rest } := by
      exact
        { quiet := fun law idle => (law idle).of_view rfl
          counts := id
          config := id
          link := fun laws => { laws with } }
    exact dequeued.trans (keepsLaws_exec done)

end Sys2Proof.Machine

namespace Sys2Proof.Proofs
open Sys2Proof.Machine

/-- Settles O58: each law is kept by every command (`keepsLaws_exec`), so by every step. -/
theorem everyStepKeepsThePartStateLaws : Obligations.EveryStepKeepsThePartStateLaws :=
  ⟨fun _ _ law done => (keepsLaws_step done).quiet law, fun _ _ law done => (keepsLaws_step done).counts law,
    fun _ _ law done => (keepsLaws_step done).config law, fun _ _ law done => (keepsLaws_step done).link law⟩

end Sys2Proof.Proofs
end

section
/-! The deadlines of a record (R7, R37, R44, R49, R160, R162, R163, R166) and the counts of a strobe (R4, R5). -/

namespace Sys2Proof.Machine

/-! ### A row in RUNNING -/

theorem exec_settleDeadline {s : State} (run : running s = true) (h : Handle) :
    exec (.settleDeadline h) s = .next (serveSettle h s) :=
  congrArg Host.Outcome.next (if_pos run)

theorem exec_offerDeadline {s : State} (run : running s = true) (h : Handle) :
    exec (.offerDeadline h) s = .next (serveOffer h s) :=
  congrArg Host.Outcome.next (if_pos run)

theorem exec_handoverDeadlineSource {s : State} (run : running s = true) (h : Handle) :
    exec (.handoverDeadlineSource h) s = .next (serveHandoverSource h s) :=
  congrArg Host.Outcome.next (if_pos run)

theorem exec_handoverDeadlineTarget {s : State} (run : running s = true) (h : Handle) :
    exec (.handoverDeadlineTarget h) s = .next (serveHandoverTarget h s) :=
  congrArg Host.Outcome.next (if_pos run)

theorem exec_retentionDeadline {s : State} (run : running s = true) (h : Handle) :
    exec (.retentionDeadline h) s = .next (serveRetention h s) :=
  congrArg Host.Outcome.next (if_pos run)

theorem exec_verifyRetryDeadline {s : State} (run : running s = true) (h : Handle) :
    exec (.verifyRetryDeadline h) s = .next (serveVerifyRetry h s) :=
  congrArg Host.Outcome.next (if_pos run)

/-! ### A deadline reached, and one that is not or that the record does not hold -/

/-- A settled claim: RANGING, its ASSIGN queued (R37). -/
theorem serveSettle_of_room {s : State} {h : Handle} {x : Identity} {heard : HeardAt} {d : LocalCount}
    (found : recordAt s h = .pending x heard d) (reached : due s d = true) (room : backlogRoom s = true) :
    serveSettle h s = queueMessage (.assign x h) none (setRecord h (.ranging x (settledFields heard)) s) := by
  simp [serveSettle, found, reached, queueAssign, room]

/-- A FRESH sequence that fails while its ASSIGN waits: the DROP goes by identity (R32, R42). -/
theorem failRanging_of_fresh_awaitAssign {s : State} {h : Handle} {x : Identity} {r : RangingFields}
    (found : recordAt s h = .ranging x r) (fresh : r.origin = .fresh) (awaits : r.stage = .awaitAssign)
    (reason : RangingFailure) :
    failRanging h reason s = raise (.rangingFailed h x reason)
      (freeRecord h (queueNotice (.release x) (queueMessage (.drop (.byIdentity x) .ranging) none s))) := by
  simp [failRanging, found, fresh, dropAndRelease, queueDrop, dropAddress, awaits]

/-- A settled claim whose ASSIGN is refused fails NOT-QUEUED (R37, R44). -/
theorem serveSettle_of_full {s : State} {h : Handle} {x : Identity} {heard : HeardAt} {d : LocalCount}
    (found : recordAt s h = .pending x heard d) (reached : due s d = true) (full : backlogRoom s = false) :
    serveSettle h s = raise (.rangingFailed h x .notQueued)
      (freeRecord h (queueNotice (.release x) (queueMessage (.drop (.byIdentity x) .ranging) none
        (queueMessage (.assign x h) none (setRecord h (.ranging x (settledFields heard)) s))))) := by
  have failed := failRanging_of_fresh_awaitAssign (h := h) (x := x) (r := settledFields heard)
    (s := queueMessage (.assign x h) none (setRecord h (.ranging x (settledFields heard)) s)) (by simp) rfl rfl .notQueued
  simp [serveSettle, found, reached, queueAssign, full, failed]

theorem serveSettle_of_not_due {s : State} {h : Handle}
    (idle : ∀ x heard d, recordAt s h = .pending x heard d → due s d = false) : serveSettle h s = s := by
  unfold serveSettle
  split
  case h_1 found => simp [idle _ _ _ found]
  all_goals rfl

theorem serveOffer_of_due {s : State} {h : Handle} {x : Identity} {t : Tracking} {peer : Channel} {d : LocalCount}
    (found : recordAt s h = .offering x t peer d) (reached : due s d = true) :
    serveOffer h s = raise (.handoverDeclined h x peer .noAnswer) (setRecord h (.active x t) s) := by
  simp [serveOffer, found, reached, endOffer]

theorem serveOffer_of_not_due {s : State} {h : Handle}
    (idle : ∀ x t peer d, recordAt s h = .offering x t peer d → due s d = false) : serveOffer h s = s := by
  unfold serveOffer
  split
  case h_1 found => simp [idle _ _ _ _ found]
  all_goals rfl

theorem serveHandoverSource_of_due {s : State} {h g : Handle} {x : Identity} {delay : Nat} {peer : Channel}
    {d : LocalCount} (found : recordAt s h = .leaving x delay peer g d) (reached : due s d = true) :
    serveHandoverSource h s = raise (.handoverLapsed h x .source peer .deadline)
      (setRecord h (.lost x delay s.time.localCount (ahead s s.host.config.retention)) s) := by
  simp [serveHandoverSource, found, reached, lapseSource, makeLost, now]

theorem serveHandoverSource_of_not_due {s : State} {h : Handle}
    (idle : ∀ x delay peer g d, recordAt s h = .leaving x delay peer g d → due s d = false) :
    serveHandoverSource h s = s := by
  unfold serveHandoverSource
  split
  case h_1 found => simp [idle _ _ _ _ _ found]
  all_goals rfl

theorem serveHandoverTarget_of_due {s : State} {h : Handle} {x : Identity} {delay : Nat} {peer : Channel}
    {d : LocalCount} {retry : Option LocalCount} (found : recordAt s h = .arriving x delay peer d retry)
    (reached : due s d = true) :
    serveHandoverTarget h s = raise (.handoverLapsed h x .target peer .deadline)
      (queueNotice (.lapsed x peer) (freeRecord h s)) := by
  simp [serveHandoverTarget, found, reached]

theorem serveHandoverTarget_of_not_due {s : State} {h : Handle}
    (idle : ∀ x delay peer d retry, recordAt s h = .arriving x delay peer d retry → due s d = false) :
    serveHandoverTarget h s = s := by
  unfold serveHandoverTarget
  split
  case h_1 found => simp [idle _ _ _ _ _ found]
  all_goals rfl

/-- A LOST record's DROP goes by handle (R32, R49). -/
theorem serveRetention_of_due {s : State} {h : Handle} {x : Identity} {delay : Nat} {lastGood d : LocalCount}
    (found : recordAt s h = .lost x delay lastGood d) (reached : due s d = true) :
    serveRetention h s = raise (.released h x .retention)
      (freeRecord h (queueNotice (.release x) (queueMessage (.drop (.byHandle h) .retention) none s))) := by
  simp [serveRetention, found, reached, dropAndRelease, queueDrop, dropAddress]

theorem serveRetention_of_not_due {s : State} {h : Handle}
    (idle : ∀ x delay lastGood d, recordAt s h = .lost x delay lastGood d → due s d = false) : serveRetention h s = s := by
  unfold serveRetention
  split
  case h_1 found => simp [idle _ _ _ _ found]
  all_goals rfl

theorem serveVerifyRetry_of_due {s : State} {h : Handle} {x : Identity} {delay : Nat} {peer : Channel} {d r : LocalCount}
    (found : recordAt s h = .arriving x delay peer d (some r)) (reached : due s r = true) :
    serveVerifyRetry h s = request ⟨.verify, h, x⟩ (setRecord h (.arriving x delay peer d none) s) := by
  simp [serveVerifyRetry, found, reached, askVerify]

theorem serveVerifyRetry_of_not_due {s : State} {h : Handle}
    (idle : ∀ x delay peer d r, recordAt s h = .arriving x delay peer d (some r) → due s r = false) :
    serveVerifyRetry h s = s := by
  unfold serveVerifyRetry
  split
  case h_1 found => simp [idle _ _ _ _ _ found]
  all_goals rfl

theorem due_iff (s : State) (d : LocalCount) : due s d = true ↔ (s.time.localCount - d).toNat < 2 ^ 31 := by
  simp [due, reached]

/-! ### The counts of a strobe -/

theorem exec_cycleStrobe {s : State} (released : s.host.held = false) (epoch : Bool) (part : StrobePart) :
    exec (.cycleStrobe epoch part) s = .next (takeStrobe epoch part s) :=
  congrArg Host.Outcome.next (if_neg (by simp [released]))

/-- The work that follows the counts of a whole strobe leaves what the counts wrote. -/
theorem standing_takeStrobe {part : StrobePart} (counting : part = .whole ∨ part = .counts) (epoch : Bool) (s : State) :
    standing (takeStrobe epoch part s) = standing (strobeCounts epoch (finishStrobe s)) := by
  rcases counting with rfl | rfl
  · simp [takeStrobe]
  · rfl

theorem strobeCounts_of_running {s : State} (run : s.host.part = .running) (epoch : Bool) :
    strobeCounts epoch s = advanceCounts s := by
  simp [strobeCounts, run]

theorem strobeCounts_of_aligning {s : State} (aligning : s.host.part = .aligning) : strobeCounts true s = align s := by
  simp [strobeCounts, aligning]

/-- In INIT, and in ALIGNING without EPOCH, the counts stand (R4, R5). -/
theorem footing_strobeCounts_of_idle {epoch : Bool} {s : State}
    (idle : s.host.part = .init ∨ s.host.part = .aligning ∧ epoch = false) :
    footing (strobeCounts epoch s) = footing s := by
  rcases idle with part | ⟨part, rfl⟩ <;> simp [strobeCounts, part, footing]

/-- The alignment strobe sets the absence deadline of a configured receiver (R133). -/
theorem align_absence {s : State} {l : LaneNo} (configured : laneConfigured s.host l = true) :
    (align s).link.lanes[l].absence = some (BitVec.ofNat 32 s.host.config.absenceTime) := by
  simp [align, alignLane, configured]

/-- Whether a lane is configured is read from the footing (R132). -/
theorem laneConfigured_of_footing_eq {s t : State} (e : footing t = footing s) (l : LaneNo) :
    laneConfigured t.host l = laneConfigured s.host l := by
  have own : t.host.ownChannel = s.host.ownChannel := congrArg Footing.ownChannel e
  have config : t.host.config = s.host.config := congrArg Footing.config e
  rw [laneConfigured, laneConfigured, own, config]

/-- A strobe in RUNNING counts, whatever EPOCH is (R4, R5, R131). -/
theorem takeStrobe_in_running {part : StrobePart} {s : State} (counting : part = .whole ∨ part = .counts)
    (run : s.host.part = .running) (epoch : Bool) :
    standing (takeStrobe epoch part s) = standing (advanceCounts (finishStrobe s)) ∧
      takeStrobe false part s = takeStrobe epoch part s := by
  have part_eq : (finishStrobe s).host.part = .running := (steady_finishStrobe s).part.trans run
  have same : ∀ e, strobeCounts e (finishStrobe s) = advanceCounts (finishStrobe s) := strobeCounts_of_running part_eq
  refine ⟨by rw [standing_takeStrobe counting, same], ?_⟩
  rcases counting with rfl | rfl <;> simp only [takeStrobe, same]

/-- The alignment strobe, and its counts alone (R5). -/
theorem takeStrobe_aligning {part : StrobePart} {s : State} (counting : part = .whole ∨ part = .counts)
    (aligning : s.host.part = .aligning) :
    standing (takeStrobe true part s) = standing (align (finishStrobe s)) ∧
      takeStrobe true .counts s = align (finishStrobe s) := by
  have aligned : strobeCounts true (finishStrobe s) = align (finishStrobe s) :=
    strobeCounts_of_aligning ((steady_finishStrobe s).part.trans aligning)
  exact ⟨by rw [standing_takeStrobe counting, aligned], aligned⟩

/-- A strobe in INIT, and one in ALIGNING without EPOCH, leaves the footing (R4, R5). -/
theorem footing_takeStrobe_of_idle {part : StrobePart} {epoch : Bool} {s : State}
    (counting : part = .whole ∨ part = .counts)
    (idle : s.host.part = .init ∨ s.host.part = .aligning ∧ epoch = false) :
    footing (takeStrobe epoch part s) = footing s := by
  have finished := steady_finishStrobe s
  rw [← finished.part] at idle
  rw [footing_eq_of_standing_eq (standing_takeStrobe counting epoch s), footing_strobeCounts_of_idle idle, finished.footing]

end Sys2Proof.Machine

namespace Sys2Proof.Proofs
open Sys2Proof.Machine

/-- Settles O13: each row is its `serve` function in RUNNING, whose two cases are the lemmas above. -/
theorem recordDeadlines : Obligations.RecordDeadlines := by
  refine ⟨fun s d k => ⟨rfl, due_iff s d⟩, fun h s run => ?_, fun h s run => ?_⟩
  · rw [exec_settleDeadline run]
    refine ⟨fun x heard d found reached => ⟨fun room => ?_, fun full => ?_⟩, fun idle => ?_⟩
    · rw [serveSettle_of_room found reached ((backlogRoom_iff s).2 room)]
      rfl
    · have refused : backlogRoom s = false := by simpa [backlogRoom] using full
      rw [serveSettle_of_full found reached refused]
      rfl
    · rw [serveSettle_of_not_due idle]
  · rw [exec_offerDeadline run, exec_handoverDeadlineSource run, exec_handoverDeadlineTarget run, exec_retentionDeadline run,
      exec_verifyRetryDeadline run]
    refine ⟨fun x t peer d found reached => ?_, fun x delay peer g d found reached => ?_,
      fun x delay peer d retry found reached => ?_, fun idle => ?_, fun idle => ?_, fun idle => ?_,
      fun x delay lastGood d found reached => ?_, fun idle => ?_, fun x delay peer d r found reached => ?_, fun idle => ?_⟩
    · rw [serveOffer_of_due found reached]
    · rw [serveHandoverSource_of_due found reached]
    · rw [serveHandoverTarget_of_due found reached]
    · rw [serveOffer_of_not_due idle]
    · rw [serveHandoverSource_of_not_due idle]
    · rw [serveHandoverTarget_of_not_due idle]
    · rw [serveRetention_of_due found reached]
    · rw [serveRetention_of_not_due idle]
    · rw [serveVerifyRetry_of_due found reached]
    · rw [serveVerifyRetry_of_not_due idle]

/-- Settles O4: the strobe before it being finished (`steady_finishStrobe`), each part state has its own effect on the
counts. -/
theorem strobeCounts : Obligations.StrobeCounts := by
  intro epoch part s released counting
  have before : footing (finishStrobe s) = footing s := (steady_finishStrobe s).footing
  have part_eq : (finishStrobe s).host.part = s.host.part := congrArg Footing.part before
  have tree_eq : (finishStrobe s).time.treeCycle = s.time.treeCycle := congrArg Footing.treeCycle before
  have count_eq : (finishStrobe s).time.localCount = s.time.localCount := congrArg Footing.localCount before
  have taken : exec (.cycleStrobe epoch part) s = .next (takeStrobe epoch part s) := exec_cycleStrobe released epoch part
  refine ⟨fun run => ?_, fun init => ?_, fun aligning noEpoch => ?_, fun aligning withEpoch => ?_⟩
  · obtain ⟨counted, same⟩ := takeStrobe_in_running counting run epoch
    have kept := footing_eq_of_standing_eq counted
    refine ⟨_, taken, ?_, ?_, ?_, ?_, ?_⟩
    · exact (congrArg Footing.part kept).trans (part_eq.trans run)
    · rw [← tree_eq]
      exact congrArg Footing.treeCycle kept
    · rw [← count_eq]
      exact congrArg Footing.localCount kept
    · exact congrArg (fun f => f.2.strobeWords) counted
    · rw [exec_cycleStrobe released, same]
  · have kept := footing_takeStrobe_of_idle counting (epoch := epoch) (.inl init)
    exact ⟨_, taken, (congrArg Footing.part kept).trans init, congrArg Footing.treeCycle kept,
      congrArg Footing.localCount kept⟩
  · have kept := footing_takeStrobe_of_idle counting (.inr ⟨aligning, noEpoch⟩)
    exact ⟨_, taken, (congrArg Footing.part kept).trans aligning, congrArg Footing.treeCycle kept,
      congrArg Footing.localCount kept⟩
  · subst withEpoch
    obtain ⟨aligned, alone⟩ := takeStrobe_aligning counting aligning
    have kept := footing_eq_of_standing_eq aligned
    refine ⟨_, taken, congrArg Footing.part kept, congrArg Footing.treeCycle kept, congrArg Footing.localCount kept, ?_⟩
    rintro rfl
    rw [alone]
    refine ⟨rfl, rfl, rfl, rfl, fun l configured => ?_⟩
    have config : (finishStrobe s).host.config = s.host.config := congrArg Footing.config before
    rw [← config]
    exact align_absence ((laneConfigured_of_footing_eq before l).trans configured)

end Sys2Proof.Proofs
end

section
/-! What a step can do, said once. A command takes the part from state to state by small acts (`Act`), each with the test under which
the model does it; the walk through the model (`goes_exec`) shows that every command is a run of acts. A law of the part's state is then
kept by every step where each act keeps it. -/

namespace Sys2Proof.Machine

/-! ### Where a launch delay, tracking fields and a hand-off come from -/

/-- A launch delay within R19's bound, or one that a record, a hand-off or a message of the backlog carries already. -/
def Sourced (s : State) (d : Nat) : Prop :=
  d ≤ launchBound s.host.config ∨ (∃ h, d ∈ (recordAt s h).launchDelay?) ∨ (∃ x ∈ s.handed, d ∈ x.delay?) ∨
    ∃ q ∈ s.builder.backlog, d ∈ q.delay?

/-- Tracking fields whose runs and drift sum are at 0, or stand in a record, or come with a tracker result that is handed (R115 to
R117). -/
structure TrackingFrom (s : State) (f : Tracking) : Prop where
  missingRun : f.missingRun = 0 ∨ (∃ h, ∃ g ∈ (recordAt s h).tracking?, f.missingRun = g.missingRun) ∨
    ∃ h x found, Handoff.tracked h x found (.missing f.missingRun) ∈ s.handed
  misalignedRun : f.misalignedRun ≤ 1 ∨ ∃ h, ∃ g ∈ (recordAt s h).tracking?, f.misalignedRun = g.misalignedRun
  drift : f.drift = 0 ∨
    (∃ h, ∃ g ∈ (recordAt s h).tracking?, f.drift = g.drift ∧ f.correctionPending = g.correctionPending) ∨
    (∃ h x found good, Handoff.tracked h x found (.aligned f.drift good none) ∈ s.handed) ∨
    ∃ h x found good k, f.correctionPending = true ∧ Handoff.tracked h x found (.aligned f.drift good (some k)) ∈ s.handed

/-- A hand-off that one block may hand another: its launch delay is sourced, and a tracker result is computed from a record. -/
structure Carried (s : State) (x : Handoff) : Prop where
  delay : ∀ d ∈ x.delay?, Sourced s d
  tracked : ∀ h y found r, x = .tracked h y found r → ∃ g, ∃ f ∈ (recordAt s g).tracking?, ∃ kind,
    trackerResult s.host.config s.time f kind = some r

/-- An outcome or a placement: what a ranging sequence has in flight (R97). -/
def Handoff.ofSequence : Handoff → Bool
  | .outcome _ _ _ => true
  | .placed _ _ _ _ => true
  | .notice _ _ | .hearing _ | .crossHeard _ | .rangeResult _ | .verification _ | .trackerInput _ | .tracked _ _ _ _
  | .delivered _ => false

/-! ### Changes that add nothing -/

/-- What no law of the table, the bounds, the attempts and the delays is about may change freely, and their lists may shrink. -/
structure Beside (s t : State) : Prop where
  records : t.table.records = s.table.records
  barred : t.table.barred.Sublist s.table.barred
  contested : t.table.contested.Sublist s.table.contested
  slots : t.slots = s.slots
  config : t.host.config = s.host.config
  handed : t.handed = s.handed
  placements : t.sched.placements = s.sched.placements
  stack : t.sched.stack.Sublist s.sched.stack
  spans : t.sched.spans.Sublist s.sched.spans
  directed : ∀ r, (directedIn r t.sched.calendar).Sublist (directedIn r s.sched.calendar)
  backlog : t.builder.backlog.Sublist s.builder.backlog
  bursts : (∀ w ∈ s.sched.window, w.bursts ≤ 16) → ∀ w ∈ t.sched.window, w.bursts ≤ 16
  outbound : s.link.outbound.length ≤ 128 → t.link.outbound.length ≤ 128
  events : s.host.events.length ≤ 64 → t.host.events.length ≤ 64

/-- What `Beside` compares. -/
def besideView (s : State) :=
  ((s.table, s.slots, s.host.config, s.handed, s.host.events), s.sched, s.builder.backlog, s.link.outbound)

theorem Beside.of_view {s t : State} (same : besideView t = besideView s) : Beside s t := by
  simp only [besideView, Prod.mk.injEq] at same
  obtain ⟨⟨table, slots, config, handed, events⟩, sched, backlog, outbound⟩ := same
  constructor <;> simp [table, slots, config, handed, events, sched, backlog, outbound]

/-! ### Records written -/

/-- A record that is not RANGING, or is so with no attempt begun (R36, R37). -/
def Record.Unbegun (r : Record) : Prop :=
  ∀ x f, r = .ranging x f → f.stage = .awaitAssign ∧ f.attempts = 0 ∧ f.samples = []

/-- A record written over that of a handle, `under` being the requests still to be met: it holds the same identity or none, its delay
and its tracking fields have a source, no attempt is begun, and the requests made for the handle stand as they stood. -/
structure Follows (under : List Request) (h : Handle) (r : Record) (s : State) : Prop where
  identity : r.identity? = none ∨ r.identity? = (recordAt s h).identity?
  delay : ∀ d ∈ r.launchDelay?, Sourced s d
  tracking : ∀ f ∈ r.tracking?, TrackingFrom s f
  unbegun : r.Unbegun
  requests : ∀ q ∈ s.sched.placements ++ under, q.handle = h → requestStands s q → requestStands (setRecord h r s) q

/-- A record written for an identity that was not held (R20, R159). -/
structure Claims (h : Handle) (r : Record) (x : Identity) (s : State) : Prop where
  free : recordAt s h = .free
  holds : r.identity? = some x
  unheld : holder s x = none
  unbarred : isBarred s x = false
  uncontested : contestedEntry s x = none
  delay : ∀ d ∈ r.launchDelay?, d ≤ launchBound s.host.config
  untracked : r.tracking? = none
  unbegun : r.Unbegun

/-- The state after the pin and after RESTART: the records, the lists and the queues empty (R182, R188). -/
structure Emptied (s t : State) : Prop where
  records : t.table.records = Vector.replicate 128 .free
  barred : t.table.barred.Sublist s.table.barred
  contested : t.table.contested = []
  sched : t.sched = .atReset
  backlog : t.builder.backlog = []
  handed : t.handed = []
  outbound : t.link.outbound = []
  events : s.host.events.length ≤ 64 → t.host.events.length ≤ 64
  config : t.host.config = s.host.config ∨ t.host.config = .defaults

/-- A grant in the calendar, with its span listed and reserved (R71). -/
def reserveGrant (g : DirectedGrant) (s : State) : State :=
  addSpan g.span { s with sched := { s.sched with calendar := s.sched.calendar ++ [.directed g] } }

/-- The slot of a record that goes on with its attempts, and the requests it makes: IDLE and none while it waits, ASKED and a RANGE
request else (R99, R108). -/
inductive SlotNext (h : Handle) (x : Identity) : Slot → List Request → Prop
  | waits : SlotNext h x .idle []
  | asks (e : Int) : SlotNext h x (.asked x) [⟨.range e, h, x⟩]

/-! ### The acts -/

/-- A point of a command's run: the state, the requests made and not yet met (R70), and the waiting requests yet to be tried of those
that the strobe tries (R72). -/
structure Point where
  under : List Request
  trying : List Request
  state : State

/-- One act of the part. -/
inductive Act : Point → Point → Prop
  /-- A change that adds nothing to what the laws are about. -/
  | beside {u l s t} (f : Beside s t) : Act ⟨u, l, s⟩ ⟨u, l, t⟩
  /-- Hand-offs handed or taken, none of them of a ranging sequence. -/
  | passes {u l s} (handed : List Handoff) (carried : ∀ x ∈ handed, x ∈ s.handed ∨ Carried s x)
      (same : handed.filter Handoff.ofSequence = s.handed.filter Handoff.ofSequence) :
      Act ⟨u, l, s⟩ ⟨u, l, { s with handed := handed }⟩
  /-- A message queued (R170). -/
  | messages {u l s} (m : Message) (tag : Option Identity) (sourced : ∀ h d, m = .setDelay h d → Sourced s d) :
      Act ⟨u, l, s⟩ ⟨u, l, queueMessage m tag s⟩
  /-- An OWN-DISCOVERY or PEER-QUIET span added (R63, R67). -/
  | adds {u l s} (x : Span) (undirected : x.isDirected = false)
      (own : x.kind = .ownDiscovery → ∀ y ∈ s.sched.spans, y.isDirected = true → y.overlaps x = false)
      (quiet : ∀ p, x.kind = .peerQuiet p → quietSpansOf p s < 2) : Act ⟨u, l, s⟩ ⟨u, l, addSpan x s⟩
  /-- A record written over the one that the handle held. -/
  | rewrites {u l s} (h : Handle) (r : Record) (follows : Follows u h r s) : Act ⟨u, l, s⟩ ⟨u, l, setRecord h r s⟩
  /-- A FREE handle given to an identity. -/
  | claims {s} (h : Handle) (r : Record) (x : Identity) (claims : Claims h r x s) :
      Act ⟨[], [], s⟩ ⟨[], [], setRecord h r s⟩
  /-- A held identity freed into the contested list (R149). -/
  | contests {s} (h : Handle) (x : Identity) (holds : (recordAt s h).identity? = some x)
      (none : ∀ q ∈ s.sched.placements, q.handle ≠ h) : Act ⟨[], [], s⟩ ⟨[], [], contest x (setRecord h .free s)⟩
  /-- A held identity freed into the barred list (R22, R52). -/
  | barsHeld {s} (h : Handle) (x : Identity) (holds : (recordAt s h).identity? = some x)
      (none : ∀ q ∈ s.sched.placements, q.handle ≠ h) (unbarred : isBarred s x = false)
      (room : s.table.barred.length < 16) : Act ⟨[], [], s⟩ ⟨[], [], addBarred x (setRecord h .free s)⟩
  /-- An identity that is not held joins the barred list (R22). -/
  | bars {s} (x : Identity) (unheld : holder s x = none) (unbarred : isBarred s x = false)
      (room : s.table.barred.length < 16) : Act ⟨[], [], s⟩ ⟨[], [], addBarred x s⟩
  /-- A hold pushed on the suspension stack (R73). -/
  | pushes {s} (k : Hold) (absent : isHeld k s = false) :
      Act ⟨[], [], s⟩ ⟨[], [], { s with sched := { s.sched with stack := s.sched.stack ++ [k] } }⟩
  /-- The waiting request of a record withdrawn (R70, R101). -/
  | withdraws {s} (h : Handle) : Act ⟨[], [], s⟩ ⟨[], [], withdrawRequest h s⟩
  /-- The pin, or RESTART (R182, R188). -/
  | empties {s t} (emptied : Emptied s t) : Act ⟨[], [], s⟩ ⟨[], [], t⟩
  /-- A RANGE placement asked for (R98, R99). -/
  | asks {s} (h : Handle) (x : Identity) (r : RangingFields) (e : Int) (record : recordAt s h = .ranging x r)
      (attempting : r.stage = .attempting) (few : r.attempts < 4) (idle : slotAt s h = .idle) :
      Act ⟨[], [], s⟩ ⟨[⟨.range e, h, x⟩], [], setSlot h (.asked x) s⟩
  /-- A VERIFY placement asked for (R160). -/
  | asksVerify {s} (h : Handle) (x : Identity) (stands : requestStands s ⟨.verify, h, x⟩) :
      Act ⟨[], [], s⟩ ⟨[⟨.verify, h, x⟩], [], s⟩
  /-- A request left out, the record having one waiting (R70). -/
  | refuses {u l s} (q : Request) (waits : ∃ p ∈ s.sched.placements, p.handle = q.handle) : Act ⟨q :: u, l, s⟩ ⟨u, l, s⟩
  /-- A request that joins the placement queue (R70). -/
  | queues {u l s} (q : Request) (alone : ∀ p ∈ s.sched.placements, p.handle ≠ q.handle) :
      Act ⟨q :: u, l, s⟩ ⟨u, l, { s with sched := { s.sched with placements := s.sched.placements ++ [q] } }⟩
  /-- A RANGE request placed, the placement handed to the ranging unit (R71, R100). -/
  | placesRange {u l s} (q : Request) (e : Int) (r : TreeCycle) (o : Nat) (g : DirectedGrant) (wanted : q.wanted = .range e)
      (found : grantAt s q r o = some g) (alone : ∀ p ∈ s.sched.placements, p.handle ≠ q.handle) :
      Act ⟨q :: u, l, s⟩ ⟨u, l, hand (.placed g.handle g.identity g.cycle g.offset) (reserveGrant g s)⟩
  /-- A VERIFY request placed (R71). -/
  | placesVerify {u l s} (q : Request) (r : TreeCycle) (o : Nat) (g : DirectedGrant) (wanted : q.wanted = .verify)
      (found : grantAt s q r o = some g) : Act ⟨q :: u, l, s⟩ ⟨u, l, reserveGrant g s⟩
  /-- The strobe begins to try the waiting requests (R72). -/
  | tries {u s} : Act ⟨u, [], s⟩ ⟨u, s.sched.placements, s⟩
  /-- A waiting request that finds no place keeps its own (R72). -/
  | keepsWaiting {u l s} (q : Request) : Act ⟨u, q :: l, s⟩ ⟨u, l, s⟩
  /-- A waiting request leaves the queue to be placed (R72). -/
  | picks {u l s} (q : Request) : Act ⟨u, q :: l, s⟩ ⟨q :: u, l, dropRequest q.handle s⟩
  /-- A RANGE placement taken by the ranging unit (R100). -/
  | takesPlacement {u l s} (p : RangePlacement) (waits : Handoff.placed p.handle p.identity p.cycle p.offset ∈ s.handed) :
      Act ⟨u, l, s⟩ ⟨u, l, takeOnePlacement p s⟩
  /-- An awaited RANGE result answered with an outcome (R102, R107). -/
  | answers {s} (h : Handle) (x : Identity) (cycle : TreeCycle) (offset : Nat) (sample : Option Int)
      (out : slotAt s h = .out x cycle offset) :
      Act ⟨[], [], s⟩ ⟨[], [], hand (.outcome h x (rangingOutcome s.host.config (attemptFields (recordAt s h)).2
        (attemptFields (recordAt s h)).1 sample)) (setSlot h (.answered x) s)⟩
  /-- An outcome taken, the slot settled (R108). -/
  | takesOutcome {s t} (h : Handle) (x : Identity) (o : RangingOutcome) (taken : takeHanded (outcomeFor h) s = some ((x, o), t)) :
      Act ⟨[], [], s⟩ ⟨[], [], settleSlot h x t⟩
  /-- A record enters ATTEMPTING, what an earlier sequence left in flight dropped (R39, R99). -/
  | begins {s u v} (h : Handle) (x : Identity) (r : RangingFields) (record : recordAt s h = .ranging x r)
      (waits : r.stage = .awaitAssign) (next : SlotNext h x v u) :
      Act ⟨[], [], s⟩ ⟨u, [], setSlot h v
        { setRecord h (.ranging x { r with stage := .attempting }) s with
          handed := s.handed.filter fun x => !ofEarlierSequence h x }⟩
  /-- An outcome without agreement takes the sequence on (R107, R108). -/
  | proceeds {s t u v} (h : Handle) (x : Identity) (r : RangingFields) (samples : List Int) (attempts : Nat)
      (taken : takeHanded (outcomeFor h) s = some ((x, .proceed samples attempts), t)) (record : recordAt s h = .ranging x r)
      (attempting : r.stage = .attempting) (answered : slotAt s h = .answered x) (next : SlotNext h x v u) :
      Act ⟨[], [], s⟩ ⟨u, [], setSlot h v
        (setRecord h (.ranging x { r with samples := samples, attempts := attempts }) t)⟩
  /-- An agreement ends the attempts (R40). -/
  | agrees {s} (h : Handle) (x : Identity) (r : RangingFields) (samples : List Int) (delay : Nat)
      (handed : Handoff.outcome h x (.agreement samples delay) ∈ s.handed) (record : recordAt s h = .ranging x r)
      (attempting : r.stage = .attempting) :
      Act ⟨[], [], s⟩ ⟨[], [], setRecord h
        (.ranging x { r with samples := samples, stage := .awaitSetDelay, launchDelay := some delay }) s⟩

/-- A run of acts from one state to another, the requests to be met and to be tried as they were. -/
def Goes (u l : List Request) (s t : State) : Prop :=
  Relation.ReflTransGen Act ⟨u, l, s⟩ ⟨u, l, t⟩

theorem Goes.refl {u l : List Request} (s : State) : Goes u l s s :=
  Relation.ReflTransGen.refl

theorem Goes.trans {u l : List Request} {r s t : State} (a : Goes u l r s) (b : Goes u l s t) : Goes u l r t :=
  Relation.ReflTransGen.trans a b

theorem Goes.then {u l : List Request} {r s t : State} (a : Goes u l r s) (b : Act ⟨u, l, s⟩ ⟨u, l, t⟩) : Goes u l r t :=
  Relation.ReflTransGen.tail a b

theorem Goes.beside {u l : List Request} {s t : State} (f : Beside s t) : Goes u l s t :=
  (Goes.refl s).then (.beside f)

theorem goes_foldl {α : Type} {u l : List Request} {f : State → α → State} (each : ∀ s a, Goes u l s (f s a)) (xs : List α)
    (s : State) : Goes u l s (xs.foldl f s) := by
  induction xs generalizing s with
  | nil => exact .refl s
  | cons x xs ih => exact (each s x).trans (ih _)

theorem goes_ite {u l : List Request} {c : Prop} [Decidable c] {s a b : State} (yes : c → Goes u l s a)
    (no : ¬ c → Goes u l s b) : Goes u l s (if c then a else b) := by
  split
  case isTrue h => exact yes h
  case isFalse h => exact no h

end Sys2Proof.Machine
end

section
/-! The walk, first part: the shared operations, the placement of requests and the scheduler's work are runs of acts. -/

namespace Sys2Proof.Machine

/-! ### The host port, the queues and the hand-offs -/

section
variable {u l : List Request} {r s : State}

theorem Goes.of_view {t : State} (a : Goes u l r s) (same : besideView t = besideView s) : Goes u l r t :=
  a.then (.beside (.of_view same))

/-- Another host port with the same configuration and no more events than R184 allows. -/
theorem Goes.host {hp : HostPort} (a : Goes u l r s) (config : hp.config = s.host.config)
    (events : s.host.events.length ≤ 64 → hp.events.length ≤ 64) : Goes u l r { s with host := hp } :=
  a.then (.beside { Beside.of_view (s := s) (t := s) rfl with config := config, events := events })

theorem Goes.raise (e : Event) (a : Goes u l r s) : Goes u l r (raise e s) :=
  a.host (raise_config _ _ _) (hostRaise_events_le _ _ _)

theorem Goes.bump (c : Counter) (a : Goes u l r s) : Goes u l r (bump c s) :=
  a.of_view rfl

theorem Goes.attend (c : Condition) (a : Goes u l r s) : Goes u l r (attend c s) :=
  a.of_view rfl

theorem Goes.respond (x : Response) (a : Goes u l r s) : Goes u l r (respond x s) :=
  a.of_view rfl

theorem Goes.respondOk (a : Goes u l r s) : Goes u l r (respondOk s) :=
  a.of_view rfl

/-- The link may change with no more notices than R129 allows in the outbound queue. -/
theorem Goes.link {k : PeerLink} (a : Goes u l r s) (outbound : s.link.outbound.length ≤ 128 → k.outbound.length ≤ 128) :
    Goes u l r { s with link := k } :=
  a.then (.beside { Beside.of_view (s := s) (t := s) rfl with outbound := outbound })

theorem Goes.queueNotice (n : Notice) (a : Goes u l r s) : Goes u l r (queueNotice n s) := by
  rcases queueNotice_cases n s with ⟨room, e⟩ | ⟨_, e⟩ <;> rw [e]
  · exact a.link fun _ => by simp; omega
  · exact (a.bump _).attend _

theorem Goes.queueMessage (m : Message) (tag : Option Identity) (a : Goes u l r s)
    (sourced : ∀ h d, m = .setDelay h d → Sourced s d := by simp) : Goes u l r (queueMessage m tag s) :=
  a.then (.messages m tag sourced)

/-- A hand-off taken that is none of a ranging sequence. -/
theorem Goes.takeEvent (x : Handoff) (a : Goes u l r s) (apart : x.ofSequence = false := by rfl) :
    Goes u l r (takeEvent x s) :=
  a.then (.passes _ (fun _ mem => .inl (List.mem_of_mem_erase mem)) (by
    rw [← List.erase_filter, List.erase_of_not_mem (by simp [apart])]))

/-- Erasing the first element that `p` selects leaves a sublist that it does not select from. -/
theorem filter_eraseP_of_apart {p q : Handoff → Bool} (apart : ∀ x, p x = true → q x = false) (xs : List Handoff) :
    (xs.eraseP p).filter q = xs.filter q := by
  induction xs with
  | nil => rfl
  | cons x xs ih =>
    cases selected : p x with
    | true => simp [selected, apart x selected]
    | false => simp [selected, List.filter_cons, ih]

/-- A hand-off that `sel` selects taken, none of those being of a ranging sequence. -/
theorem Goes.of_takeHanded {α : Type} {sel : Handoff → Option α} {b : α} {t : State}
    (taken : takeHanded sel s = some (b, t)) (apart : ∀ x, (sel x).isSome = true → x.ofSequence = false) :
    Goes u l s t := by
  obtain ⟨c, -, e⟩ := Option.map_eq_some_iff.1 taken
  obtain ⟨-, rfl⟩ := Prod.mk.inj e
  exact (Goes.refl s).then (.passes _ (fun _ mem => .inl (List.mem_of_mem_eraseP mem)) (filter_eraseP_of_apart apart _))

/-- A hand-off made that is none of a ranging sequence. -/
theorem Goes.hand {x : Handoff} (a : Goes u l r s) (carried : Carried s x) (apart : x.ofSequence = false := by rfl) :
    Goes u l r (hand x s) :=
  a.then (.passes _ (fun _ mem => by
    rcases List.mem_append.1 mem with old | new
    · exact .inl old
    · exact .inr (List.mem_singleton.1 new ▸ carried)) (by simp [apart]))

end


/-! ### Records -/

section
variable {s : State} {h : Handle}

/-- A source of a launch delay or of tracking fields: the record that the handle holds. -/
theorem sourced_of_record {d : Nat} (mem : d ∈ (recordAt s h).launchDelay?) : Sourced s d :=
  .inr (.inl ⟨h, mem⟩)

theorem trackingFrom_of_record {f : Tracking} (mem : f ∈ (recordAt s h).tracking?) : TrackingFrom s f where
  missingRun := .inr (.inl ⟨h, f, mem, rfl⟩)
  misalignedRun := .inr ⟨h, f, mem, rfl⟩
  drift := .inr (.inl ⟨h, f, mem, rfl, rfl⟩)

theorem trackingFrom_fresh (s : State) (delay : Nat) (effective lastGood : LocalCount) :
    TrackingFrom s (freshTracking delay effective lastGood) :=
  ⟨.inl rfl, .inl (Nat.zero_le 1), .inl rfl⟩

/-- A record waits for a placement: it is ATTEMPTING, or ARRIVING (R70). -/
def Record.waits : Record → Bool
  | .ranging _ r => r.stage == .attempting
  | .arriving _ _ _ _ _ => true
  | .free | .pending _ _ _ | .active _ _ | .offering _ _ _ _ | .leaving _ _ _ _ _ | .lost _ _ _ _ => false

theorem waits_of_requestStands {q : Request} (stands : requestStands s q) : (recordAt s q.handle).waits = true := by
  unfold requestStands at stands
  split at stands
  case h_1 record => simp [record, Record.waits, stands.2]
  case h_2 record => simp [record, Record.waits]
  all_goals exact stands.elim

/-- No request stands for a handle whose record waits for none. -/
theorem stands_of_idle {P : Prop} (idle : (recordAt s h).waits = false) {q : Request} (own : q.handle = h)
    (stands : requestStands s q) : P := by
  have waits := waits_of_requestStands stands
  rw [own, idle] at waits
  exact nomatch waits

theorem placements_withdrawRequest (h : Handle) (s : State) :
    (withdrawRequest h s).sched.placements = s.sched.placements.filter fun r => r.handle != h :=
  congrArg Scheduler.placements (withdrawRequest_sched h s)

theorem no_request_of_withdrawn {q : Request} (mem : q ∈ (withdrawRequest h s).sched.placements) : q.handle ≠ h := by
  rw [placements_withdrawRequest, List.mem_filter] at mem
  simpa using mem.2

end

/-- A record that follows one that waits for no placement. -/
theorem Goes.rewrite {u l : List Request} {s t : State} {h : Handle} {r : Record} (a : Goes u l s t)
    (idle : (recordAt t h).waits = false)
    (identity : r.identity? = none ∨ r.identity? = (recordAt t h).identity?)
    (delay : ∀ d ∈ r.launchDelay?, Sourced t d) (tracking : ∀ f ∈ r.tracking?, TrackingFrom t f) (unbegun : r.Unbegun) :
    Goes u l s (setRecord h r t) :=
  a.then (.rewrites h r ⟨identity, delay, tracking, unbegun, fun _ _ => stands_of_idle idle⟩)

/-- A record written once its waiting request is withdrawn. -/
theorem Goes.withdrawAndRewrite {s t : State} {h : Handle} {r : Record} (a : Goes [] [] s t)
    (identity : r.identity? = none ∨ r.identity? = (recordAt t h).identity?)
    (delay : ∀ d ∈ r.launchDelay?, Sourced t d) (tracking : ∀ f ∈ r.tracking?, TrackingFrom t f) (unbegun : r.Unbegun) :
    Goes [] [] s (setRecord h r (withdrawRequest h t)) := by
  refine (a.then (.withdraws h)).then (.rewrites h r ⟨by simpa using identity, ?_, ?_, unbegun, ?_⟩)
  · simpa [Sourced] using delay
  · intro f mem
    obtain ⟨missingRun, misalignedRun, drift⟩ := tracking f mem
    exact ⟨by simpa using missingRun, by simpa using misalignedRun, by simpa using drift⟩
  · intro q mem own
    rw [List.append_nil] at mem
    exact absurd own (no_request_of_withdrawn mem)

theorem Goes.freeRecord {s t : State} (h : Handle) (a : Goes [] [] s t) : Goes [] [] s (freeRecord h t) :=
  a.withdrawAndRewrite (.inl rfl) (by simp [Record.launchDelay?]) (by simp [Record.tracking?]) nofun

/-! ### Placements taken by the ranging unit -/

/-- The one hand-off that `sel` reads as `a` is erased as `a` is. -/
theorem filterMap_erase_of_oldest {α : Type} {sel : Handoff → Option α} {x : Handoff} {a : α} {rest : List α}
    (only : ∀ y, sel y = some a ↔ y = x) {xs : List Handoff} (oldest : xs.filterMap sel = a :: rest) :
    (xs.erase x).filterMap sel = rest := by
  induction xs with
  | nil => exact nomatch oldest
  | cons y xs ih =>
    by_cases same : y = x
    · rw [same, List.filterMap_cons_some ((only x).2 rfl), List.cons.injEq] at oldest
      rw [same, List.erase_cons_head, oldest.2]
    · rw [List.erase_cons_tail (by simpa using same)]
      cases read : sel y with
      | none => rw [List.filterMap_cons_none read] at oldest ⊢; exact ih oldest
      | some b =>
        rw [List.filterMap_cons_some read, List.cons.injEq] at oldest
        exact absurd ((only y).1 (oldest.1 ▸ read)) same

@[simp] theorem takePlacement_handed (h : Handle) (x : Identity) (cycle : TreeCycle) (offset : Nat) (s : State) :
    (takePlacement h x cycle offset s).handed = s.handed := by
  unfold takePlacement
  cases recordAt s h <;> simp [apply_ite State.handed]

/-- The placement that a hand-off is. -/
def RangePlacement.handoff (p : RangePlacement) : Handoff :=
  .placed p.handle p.identity p.cycle p.offset

theorem placementHanded_eq_some {x : Handoff} {p : RangePlacement} : placementHanded x = some p ↔ x = p.handoff := by
  cases x <;> simp [placementHanded, RangePlacement.handoff]
  case placed h x cycle offset => cases p; simp

/-- The placements that wait, oldest first. -/
def placementsHanded (s : State) : List RangePlacement :=
  s.handed.filterMap placementHanded

/-- Taking the oldest placement leaves the others. -/
theorem placementsHanded_takeOnePlacement {p : RangePlacement} {rest : List RangePlacement} {s : State}
    (oldest : placementsHanded s = p :: rest) : placementsHanded (takeOnePlacement p s) = rest := by
  show ((takeOnePlacement p s).handed).filterMap placementHanded = rest
  unfold takeOnePlacement
  rw [takePlacement_handed, takeEvent_handed]
  exact filterMap_erase_of_oldest (fun _ => placementHanded_eq_some) oldest

/-- The oldest of the placements that wait taken, in order. -/
theorem goes_takePlacements {u l : List Request} (taken : List RangePlacement) {rest : List RangePlacement} {s : State}
    (waiting : placementsHanded s = taken ++ rest) :
    Goes u l s (taken.foldl (fun s p => takeOnePlacement p s) s) := by
  induction taken generalizing s with
  | nil => exact .refl s
  | cons p taken ih =>
    have first : p ∈ placementsHanded s := by simp [waiting]
    obtain ⟨x, waits, e⟩ := List.mem_filterMap.1 first
    rw [placementHanded_eq_some.1 e] at waits
    exact ((Goes.refl s).then (.takesPlacement p waits)).trans (ih (placementsHanded_takeOnePlacement waiting))

theorem goes_takeAllPlacements {u l : List Request} (s : State) : Goes u l s (takeAllPlacements s) :=
  goes_takePlacements _ (List.append_nil _).symm

end Sys2Proof.Machine
end

section
/-! The walk, second part: the window scheduler's work and the requests made to it are runs of acts (R55 to R79). -/

namespace Sys2Proof.Machine

/-! ### Placement -/

/-- An ARRIVING record with other deadlines: the requests made for it stand as they stood. -/
theorem Goes.rearrive {u l : List Request} {s t : State} {h : Handle} {x : Identity} {delay : Nat} {peer : Channel}
    {deadline : LocalCount} {retry retry' : Option LocalCount} (a : Goes u l s t)
    (record : recordAt t h = .arriving x delay peer deadline retry) :
    Goes u l s (setRecord h (.arriving x delay peer deadline retry') t) := by
  refine a.then (.rewrites h _ ⟨.inr (by rw [record]; rfl), fun d mem => sourced_of_record (h := h) (by rw [record]; exact mem),
    by simp [Record.tracking?], nofun, ?_⟩)
  rintro q - rfl stands
  unfold requestStands at stands ⊢
  rw [record] at stands
  rw [recordAt_setRecord_self]
  cases wanted : q.wanted with
  | range e => simp [wanted] at stands
  | verify => simpa [wanted] using stands

theorem goes_takeVerifyPlacement {u l : List Request} (h : Handle) (x : Identity) (s : State) :
    Goes u l s (takeVerifyPlacement h x s) := by
  unfold takeVerifyPlacement
  cases record : recordAt s h with
  | arriving y delay peer deadline retry =>
    exact goes_ite (fun _ => (Goes.refl s).rearrive record) fun _ => .refl s
  | _ => exact .refl s

/-- A request placed: it is met, its grant and span reserved and its placement handed or taken (R71). -/
theorem moves_place {q : Request} {u l : List Request} {s : State} {r : TreeCycle} {o : Nat} {g : DirectedGrant}
    (found : grantAt s q r o = some g) (alone : ∀ p ∈ s.sched.placements, p.handle ≠ q.handle) :
    Relation.ReflTransGen Act ⟨q :: u, l, s⟩ ⟨u, l, place g s⟩ := by
  obtain ⟨same, -⟩ := grantAt_spec found
  have told : place g s = handPlacement g (reserveGrant g s) := rfl
  cases wanted : q.wanted with
  | range e =>
    have kind : g.kind = .range := by rw [same, wanted]; rfl
    rw [told, handPlacement, kind]
    exact .single (.placesRange q e r o g wanted found alone)
  | verify =>
    have kind : g.kind = .verify := by rw [same, wanted]; rfl
    rw [told, handPlacement, kind]
    have taken : Goes u l (reserveGrant g s) (takeVerifyPlacement g.handle g.identity (takeAllPlacements (reserveGrant g s))) :=
      (goes_takeAllPlacements _).trans (goes_takeVerifyPlacement _ _ _)
    exact taken.head (.placesVerify q r o g wanted found)

theorem moves_meetRequest (q : Request) (u : List Request) (s : State) :
    Relation.ReflTransGen Act ⟨q :: u, [], s⟩ ⟨u, [], meetRequest q s⟩ := by
  unfold meetRequest
  dsimp only
  split
  case isTrue waits => exact .single (.refuses q (by simpa using waits))
  case isFalse alone =>
    have alone : ∀ p ∈ s.sched.placements, p.handle ≠ q.handle := by simpa using alone
    split
    · split
      case h_1 found =>
        obtain ⟨r, o, found⟩ := searchPlacement_spec found
        exact moves_place found alone
      · exact .single (.queues q alone)
    · exact .single (.queues q alone)

theorem moves_enqueue (q : Request) (u : List Request) (s : State) :
    Relation.ReflTransGen Act ⟨q :: u, [], s⟩ ⟨u, [], enqueue q s⟩ := by
  unfold enqueue
  split
  case isTrue waits => exact .single (.refuses q (by simpa using waits))
  case isFalse alone => exact .single (.queues q (by simpa using alone))

/-- A waiting request tried: it is placed, or keeps its place (R72). -/
theorem moves_retryRequest (q : Request) (u l : List Request) (s : State) :
    Relation.ReflTransGen Act ⟨u, q :: l, s⟩ ⟨u, l, retryRequest s q⟩ := by
  unfold retryRequest
  split
  case h_1 found =>
    obtain ⟨r, o, found⟩ := searchPlacement_spec found
    have placed := moves_place (u := u) (l := l) (s := dropRequest q.handle s) (q := q) found (by simp [dropRequest])
    exact placed.head (.picks q)
  · exact .single (.keepsWaiting q)

theorem goes_retryPlacements (u : List Request) (s : State) : Goes u [] s (retryPlacements s) := by
  have all : ∀ (l : List Request) (t : State), Relation.ReflTransGen Act ⟨u, l, t⟩ ⟨u, [], l.foldl retryRequest t⟩ := by
    intro l
    induction l with
    | nil => exact fun t => .refl
    | cons q l ih => exact fun t => (moves_retryRequest q u l t).trans (ih _)
  exact (all _ s).head .tries

/-! ### The window and the spans -/

/-- Another window, other due fields, fewer spans: no more identity bursts than R64 allows. -/
theorem Goes.window {u l : List Request} {s t : State} {w : Option Window} {closed : Option TreeCycle} {due : Bool}
    {deadline : Option LocalCount} (a : Goes u l s t)
    (bursts : (∀ w ∈ t.sched.window, w.bursts ≤ 16) → ∀ v ∈ w, v.bursts ≤ 16) :
    Goes u l s { t with sched :=
      { t.sched with window := w, lastClosed := closed, due := due, dueDeadline := deadline } } :=
  a.then (.beside { Beside.of_view (s := t) (t := t) rfl with bursts := bursts })

theorem goes_removePassedSpans {u l : List Request} (s : State) : Goes u l s (removePassedSpans s) :=
  .beside { Beside.of_view (s := s) (t := s) rfl with spans := List.filter_sublist }

theorem goes_firstRemoval {u l : List Request} (s : State) : Goes u l s (firstRemoval s) :=
  goes_ite (fun _ => goes_removePassedSpans s) fun _ => .refl s

@[simp] theorem firstRemoval_window (s : State) : (firstRemoval s).sched.window = s.sched.window := by
  unfold firstRemoval
  split <;> rfl

theorem goes_serveWindowStart {u l : List Request} (s : State) : Goes u l s (serveWindowStart s) := by
  unfold serveWindowStart
  split
  case h_1 w window =>
    refine goes_ite (fun _ => (goes_firstRemoval s).window fun bound => ?_) fun _ => .refl s
    rw [firstRemoval_window, window] at bound
    rintro v ⟨⟩
    exact bound w rfl
  · exact .refl s

theorem goes_serveWindowClose {u l : List Request} (s : State) : Goes u l s (serveWindowClose s) := by
  unfold serveWindowClose
  split
  · exact goes_ite (fun _ => ((goes_firstRemoval s).window (by simp)).raise _) fun _ => .refl s
  · exact .refl s

theorem goes_serveDiscoveryDue {u l : List Request} (s : State) : Goes u l s (serveDiscoveryDue s) := by
  unfold serveDiscoveryDue
  split
  · exact goes_ite (fun _ => (goes_firstRemoval s).window id) fun _ => .refl s
  · exact .refl s

/-- A DISCOVER grant is not a directed one. -/
theorem directedIn_discover (r g : TreeCycle) (pattern : Byte) (calendar : List Grant) :
    directedIn r (calendar ++ [.discover g pattern]) = directedIn r calendar := by
  simp [directedIn]

/-- A window announced with its DISCOVER grant, no identity burst counted yet (R63). -/
theorem Goes.openWindow {u l : List Request} {s t : State} {w : Window} {g : TreeCycle} {pattern : Byte}
    (a : Goes u l s t) (unheard : w.bursts = 0) :
    Goes u l s { t with sched :=
      { t.sched with calendar := t.sched.calendar ++ [.discover g pattern], window := some w, due := false } } :=
  a.then (.beside { Beside.of_view (s := t) (t := t) rfl with
    directed := fun r => by rw [directedIn_discover]
    bursts := fun _ => by simp [unheard] })

theorem goes_announceAt {u l : List Request} {o : Nat} {s : State} (clear : clearOfDirected s o = true) :
    Goes u l s (announceAt o s) := by
  have spanAdded (n : Notice) : Goes u l s (addSpan
      (wholeCycles .ownDiscovery (s.time.treeCycle + BitVec.ofNat 16 o) (windowLength s.host.config)) (queueNotice n s)) :=
    ((Goes.refl s).queueNotice n).then
      (.adds _ rfl (fun _ => by simpa [clearOfDirected] using clear) fun p e => SpanKind.noConfusion e)
  exact ((spanAdded _).openWindow rfl).bump _

theorem goes_tryAnnounce {u l : List Request} (s : State) : Goes u l s (tryAnnounce s) := by
  refine goes_ite (fun _ => ?_) fun _ => .refl s
  split
  case h_1 found => exact goes_ite (fun _ => goes_announceAt (List.find?_some found)) fun _ => .refl s
  · exact .refl s

/-! ### The strobe's work and the requests between strobes -/

theorem goes_schedulerWork (u : List Request) (s : State) : Goes u [] s (schedulerWork s) := by
  have begun : Goes u [] s { s with time := { s.time with owesScheduler := false } } := (Goes.refl s).of_view rfl
  refine Goes.trans ?_ (goes_retryPlacements u _)
  refine Goes.trans ?_ (goes_tryAnnounce _)
  refine Goes.trans ?_ (goes_serveDiscoveryDue _)
  refine Goes.trans ?_ (goes_serveWindowClose _)
  refine Goes.trans ?_ (goes_serveWindowStart _)
  exact begun.trans (goes_removePassedSpans _)

theorem goes_owedScheduler (u : List Request) (s : State) : Goes u [] s (owedScheduler s) :=
  goes_ite (fun _ => goes_schedulerWork u s) fun _ => .refl s

theorem moves_request (q : Request) (u : List Request) (s : State) :
    Relation.ReflTransGen Act ⟨q :: u, [], s⟩ ⟨u, [], request q s⟩ :=
  Relation.ReflTransGen.trans (goes_owedScheduler (q :: u) s) (moves_meetRequest q u _)

theorem goes_reserveQuiet (p : Channel) (first : TreeCycle) (length : BitVec 4) (s : State) :
    Goes [] [] s (reserveQuiet p first length s) := by
  unfold reserveQuiet
  dsimp only
  refine goes_ite (fun _ => (Goes.refl s).bump _) fun few => ?_
  have few : quietSpansOf p s < 2 := by omega
  have room : ∀ t : State, t.sched = s.sched → ∀ c k, ∀ p', (wholeCycles (.peerQuiet p) c k).kind = .peerQuiet p' →
      quietSpansOf p' t < 2 := by
    rintro t same c k p' ⟨⟩
    rwa [quietSpansOf, same]
  refine goes_ite (fun _ => (Goes.refl s).then (.adds _ rfl nofun (room s rfl _ _))) fun _ => ?_
  exact goes_ite (fun _ => ((Goes.refl s).bump _).then (.adds _ rfl nofun (room _ rfl _ _))) fun _ => (Goes.refl s).bump _

theorem goes_takeQuiet (p : Channel) (first : TreeCycle) (length : BitVec 4) (s : State) :
    Goes [] [] s (takeQuiet p first length s) :=
  (goes_owedScheduler [] s).trans (goes_reserveQuiet p first length _)

/-! ### The requests of the ranging unit and of the handover rules -/

/-- The RANGE request of a record made and met. -/
theorem moves_askRangeBy {make : Request → State → State}
    (met : ∀ q s, Relation.ReflTransGen Act ⟨[q], [], s⟩ ⟨[], [], make q s⟩) {s : State} {h : Handle} {x : Identity}
    {r : RangingFields} (record : recordAt s h = .ranging x r) :
    ∃ e, Relation.ReflTransGen Act ⟨[⟨.range e, h, x⟩], [], setSlot h (.asked x) s⟩ ⟨[], [], askRangeBy make h s⟩ := by
  simp only [askRangeBy, record]
  exact ⟨_, met _ _⟩

/-- The RANGE request of a record whose slot is IDLE (R76). -/
theorem goes_askRangeBy {make : Request → State → State}
    (met : ∀ q s, Relation.ReflTransGen Act ⟨[q], [], s⟩ ⟨[], [], make q s⟩) {s : State} {h : Handle} {x : Identity}
    {r : RangingFields} (record : recordAt s h = .ranging x r) (attempting : r.stage = .attempting) (few : r.attempts < 4)
    (idle : slotAt s h = .idle) : Goes [] [] s (askRangeBy make h s) := by
  obtain ⟨e, asked⟩ := moves_askRangeBy met record
  exact asked.head (.asks h x r e record attempting few idle)

/-- A record that goes on with its attempts by an act `act`: its slot IDLE, or its next placement asked for (R99, R108). -/
theorem goes_askOrWait {r s : State} {h : Handle} {x : Identity} {f : RangingFields} (record : recordAt s h = .ranging x f)
    (act : ∀ v u, SlotNext h x v u → Act ⟨[], [], r⟩ ⟨u, [], setSlot h v s⟩) : Goes [] [] r (askOrWait h s) := by
  refine goes_ite (fun _ => (Goes.refl r).then (act _ _ .waits)) fun _ => ?_
  obtain ⟨e, asked⟩ := moves_askRangeBy (fun q s => moves_request q [] s) record
  exact asked.head (act _ _ (.asks e))

/-- A VERIFY placement of an ARRIVING record asked for (R160). -/
theorem goes_askVerify {s : State} {h : Handle} {x : Identity} (stands : requestStands s ⟨.verify, h, x⟩) :
    Goes [] [] s (askVerify h x s) :=
  (moves_request _ [] s).head (.asksVerify h x stands)

end Sys2Proof.Machine
end

section
/-! The walk, third part: the burst classifier and the peer link unit are runs of acts (R80 to R96, R125 to R142). -/

namespace Sys2Proof.Machine

/-! ### Hand-offs without a delay or a result -/

/-- A hand-off that brings no launch delay, no tracker result and nothing of a ranging sequence. -/
def Handoff.isPlain : Handoff → Bool
  | .notice _ _ | .hearing _ | .crossHeard _ | .rangeResult _ | .verification _ | .trackerInput _ => true
  | .outcome _ _ _ | .placed _ _ _ _ | .tracked _ _ _ _ | .delivered _ => false

theorem carried_of_isPlain {s : State} {x : Handoff} (plain : x.isPlain = true) : Carried s x := by
  cases x with
  | notice | hearing | crossHeard | rangeResult | verification | trackerInput => exact ⟨by simp [Handoff.delay?], by simp⟩
  | outcome | placed | tracked | delivered => exact Bool.noConfusion plain

theorem not_ofSequence_of_isPlain {x : Handoff} (plain : x.isPlain = true) : x.ofSequence = false := by
  cases x with
  | outcome | placed => exact Bool.noConfusion plain
  | _ => rfl

theorem Goes.handPlain {u l : List Request} {s t : State} (x : Handoff) (a : Goes u l s t)
    (plain : x.isPlain = true := by rfl) : Goes u l s (Machine.hand x t) :=
  Goes.hand a (carried_of_isPlain plain) (not_ofSequence_of_isPlain plain)

/-! ### The burst classifier -/

theorem goes_of_takeHeader {cycle : TreeCycle} {kind : ReportKind} {q : BitVec 28} {b : HeaderBlock} {s t : State}
    {f : Option HeaderFields} (taken : takeHeader cycle kind q b s = (f, t)) : Goes [] [] s t := by
  unfold takeHeader at taken
  split at taken <;> obtain ⟨-, rfl⟩ := Prod.mk.inj taken
  · exact .refl s
  · exact (Goes.refl s).bump _
  · unfold offerCapture
    split
    · exact Goes.attend _ (((Goes.refl s).bump _).of_view rfl)
    · exact (Goes.refl s).bump _

theorem Goes.markActivity {s t : State} (a : Goes [] [] s t) : Goes [] [] s (markActivity t) :=
  a.window fun bound v mem => by
    obtain ⟨w, window, rfl⟩ := Option.map_eq_some_iff.1 mem
    exact bound w window

theorem goes_countBurst {s : State} {w : Window} (window : s.sched.window = some w) (room : w.bursts < 16) :
    Goes [] [] s (countBurst s) :=
  (Goes.refl s).window fun _ v mem => by
    rw [window] at mem
    obtain ⟨rfl⟩ := mem
    exact room

theorem Goes.crossHeard {s t : State} (f : HeaderFields) (a : Goes [] [] s t) : Goes [] [] s (crossHeard f t) :=
  a.trans (goes_ite (fun _ => (Goes.refl t).bump _) fun _ => (Goes.refl t).handPlain _)

theorem goes_ownBurst (g : TreeCycle) (q : Int) (f : HeaderFields) (s : State) : Goes [] [] s (ownBurst g q f s) := by
  refine goes_ite (fun _ => (Goes.refl s).bump _) fun _ => ?_
  exact goes_ite (fun _ => ((Goes.refl s).bump _).handPlain _) fun _ => ((Goes.refl s).bump _).raise _

theorem goes_identityBurst (g : TreeCycle) (q : Int) (ref : TreeCycle) (kind : ReportKind) (arrival : BitVec 28)
    (b : HeaderBlock) (s : State) : Goes [] [] s (identityBurst g q ref kind arrival b s) := by
  unfold identityBurst
  split
  case h_1 taken => exact (goes_of_takeHeader taken).markActivity
  case h_2 taken =>
    exact (goes_of_takeHeader taken).trans <|
      goes_ite (fun _ => (Goes.refl _).markActivity.trans (goes_ownBurst _ _ _ _)) fun _ => (Goes.refl _).crossHeard _

theorem goes_windowReport {s : State} {w : Window} (window : s.sched.window = some w) (origin ref : TreeCycle)
    (kind : ReportKind) (o : BurstOutcome) : Goes [] [] s (windowReport w origin ref kind o s) := by
  cases o with
  | good q b =>
    exact goes_ite (fun room => (goes_countBurst window room).trans (goes_identityBurst _ _ _ _ _ _ _)) fun _ =>
      ((Goes.refl s).bump _).markActivity
  | undecoded => exact (Goes.refl s).markActivity
  | noBurst => exact .refl s

/-- The window that a report matches is the one in progress (R64). -/
theorem window_of_matchWindow {s : State} {ref : TreeCycle} {w : Window} (opened : matchWindow s ref = .opened w) :
    s.sched.window = some w := by
  cases window : s.sched.window with
  | none => simp only [matchWindow, window] at opened; split at opened <;> exact nomatch opened
  | some v => grind [matchWindow]

theorem goes_discoverReport (ref : TreeCycle) (o : BurstOutcome) (s : State) : Goes [] [] s (discoverReport ref o s) := by
  unfold discoverReport
  split
  case h_1 opened => exact goes_windowReport (window_of_matchWindow opened) _ _ _ _
  all_goals exact (Goes.refl s).bump _

theorem goes_windowSummary (ref : TreeCycle) (light : Bool) (s : State) : Goes [] [] s (windowSummary ref light s) := by
  unfold windowSummary
  split
  · exact goes_ite (fun _ => (Goes.refl s).markActivity) fun _ => .refl s
  all_goals exact (Goes.refl s).bump _

theorem goes_rangeReport (e : DirectedGrant) (o : BurstOutcome) (s : State) : Goes [] [] s (rangeReport e o s) := by
  cases o with
  | noBurst => exact (Goes.refl s).handPlain _
  | undecoded => exact (Goes.refl s).handPlain _
  | good q b =>
    unfold rangeReport
    dsimp only
    split
    case h_1 taken => exact (goes_of_takeHeader taken).handPlain _
    case h_2 t taken =>
      refine (goes_of_takeHeader taken).trans (goes_ite (fun _ => ((Goes.refl t).bump _).handPlain _) fun _ => ?_)
      exact goes_ite (fun _ => (Goes.refl t).handPlain _) fun _ => ((Goes.refl t).bump _).handPlain _

theorem Goes.handVerify {s t : State} (e : DirectedGrant) (q : Nat) (taker : VerifyTaker) (a : Goes [] [] s t) :
    Goes [] [] s (handVerify e q taker t) := by
  cases taker <;> exact a.handPlain _

theorem goes_handMissing (e : DirectedGrant) (taker : VerifyTaker) (s : State) : Goes [] [] s (handMissing e taker s) := by
  cases taker with
  | handover => exact .refl s
  | tracker found => exact (Goes.refl s).handPlain _

theorem goes_verifyReport (e : DirectedGrant) (o : BurstOutcome) (s : State) : Goes [] [] s (verifyReport e o s) := by
  unfold verifyReport
  split
  · exact .refl s
  case h_2 taker _ =>
    cases o with
    | noBurst => exact goes_handMissing e taker s
    | undecoded => exact goes_handMissing e taker s
    | good q b =>
      dsimp only
      split
      case h_1 taken => exact goes_of_takeHeader taken
      case h_2 t taken =>
        refine (goes_of_takeHeader taken).trans (goes_ite (fun _ => (Goes.refl t).bump _) fun _ => ?_)
        exact goes_ite (fun _ => (Goes.refl t).handVerify e _ taker) fun _ => ((Goes.refl t).bump _).handVerify e _ taker

theorem goes_answerEntry (e : DirectedGrant) (o : BurstOutcome) (sel : DirectedGrant → Bool) (s : State) :
    Goes [] [] s (answerEntry e o (dropEntry sel s)) := by
  have dropped : Goes [] [] s (dropEntry sel s) := (Goes.refl s).of_view rfl
  unfold answerEntry
  split
  · exact dropped.trans (goes_rangeReport e o _)
  · exact dropped.trans (goes_verifyReport e o _)

theorem goes_directedReport (k : DirectedKind) (ref : TreeCycle) (h : Handle) (o : BurstOutcome) (s : State) :
    Goes [] [] s (directedReport k ref h o s) := by
  unfold directedReport
  split
  · exact goes_answerEntry _ _ _ _
  · exact (Goes.refl s).bump _

theorem goes_serveExpiry (k : DirectedKind) (h : Handle) (r : TreeCycle) (s : State) :
    Goes [] [] s (serveExpiry k h r s) := by
  unfold serveExpiry
  dsimp only
  split
  · exact goes_answerEntry _ _ _ _
  · exact .refl s

theorem goes_dataReport (ref : TreeCycle) (h : Handle) (offset : Nat) (arrival : Option (BitVec 28)) (s : State) :
    Goes [] [] s (dataReport ref h offset arrival s) := by
  have handed (x : Identity) (found : TrackedState) : Goes [] [] s (handData ref h offset arrival x found s) := by
    cases arrival <;> exact (Goes.refl s).handPlain _
  unfold dataReport
  split
  · exact handed _ _
  · exact handed _ _
  all_goals exact .refl s

theorem goes_quietReport (ref : TreeCycle) (o : BurstOutcome) (s : State) : Goes [] [] s (quietReport ref o s) := by
  cases o with
  | undecoded => exact (Goes.refl s).bump _
  | noBurst => exact (Goes.refl s).bump _
  | good q b =>
    unfold quietReport
    dsimp only
    split
    case h_1 taken => exact goes_of_takeHeader taken
    case h_2 taken =>
      exact (goes_of_takeHeader taken).trans <|
        goes_ite (fun _ => (Goes.refl _).bump _) fun _ => (Goes.refl _).crossHeard _

theorem goes_ungrantedReport (ref : TreeCycle) (n : SpanName) (o : BurstOutcome) (s : State) :
    Goes [] [] s (ungrantedReport ref n o s) := by
  unfold ungrantedReport
  split
  case h_1 found => exact goes_windowReport (Option.filter_eq_some_iff.1 found).1 _ _ _ _
  · exact goes_ite (fun _ => goes_quietReport ref o s) fun _ => (Goes.refl s).bump _

theorem goes_takeReport (r : RawReport) (s : State) : Goes [] [] s (takeReport r s) := by
  unfold takeReport
  split
  · exact goes_discoverReport _ _ s
  · exact goes_directedReport _ _ _ _ s
  · exact goes_dataReport _ _ _ _ s
  · exact goes_ungrantedReport _ _ _ s
  · exact (Goes.refl s).bump _

theorem goes_takeSummary (r : RawSummary) (s : State) : Goes [] [] s (takeSummary r s) := by
  unfold takeSummary
  split
  · exact goes_windowSummary _ _ s
  · exact (Goes.refl s).bump _
  · exact (Goes.refl s).bump _

/-! ### The lane state machine -/

theorem Goes.setLane {s t : State} {l : LaneNo} {v : Lane} (a : Goes [] [] s t) : Goes [] [] s (setLane l v t) :=
  a.of_view rfl

theorem goes_discardAssembly (l : LaneNo) (s : State) : Goes [] [] s (discardAssembly l s) := by
  unfold discardAssembly
  split
  · exact (Goes.refl s).setLane.bump _
  · exact .refl s

theorem Goes.changeLane {s t : State} (l : LaneNo) (entered : LaneState) (next : Lane → Lane) (a : Goes [] [] s t) :
    Goes [] [] s (changeLane l entered next t) :=
  a.trans ((goes_discardAssembly l t).setLane.raise _)

theorem goes_heardMismatch (l : LaneNo) (f : FillInfo) (s : State) : Goes [] [] s (heardMismatch l f s) :=
  goes_ite (fun _ => (Goes.refl s).setLane) fun _ =>
    goes_ite (fun _ => ((Goes.refl s).setLane.raise _).attend _) fun _ => (Goes.refl s).setLane

theorem goes_heardUpTest (l : LaneNo) (f : FillInfo) (s : State) : Goes [] [] s (heardUpTest l f s) :=
  goes_ite (fun _ => goes_ite (fun _ => (Goes.refl s).setLane) fun _ => (Goes.refl s).changeLane _ _ _) fun _ =>
    (Goes.refl s).setLane

theorem goes_upFill (l : LaneNo) (f : FillInfo) (s : State) : Goes [] [] s (upFill l f s) :=
  goes_ite (fun _ => (Goes.refl s).setLane) fun _ =>
    goes_ite (fun _ => (Goes.refl s).setLane) fun _ => (Goes.refl s).changeLane _ _ _

theorem goes_seekingFill (l : LaneNo) (s : State) : Goes [] [] s (seekingFill l s) :=
  goes_ite (fun _ => (Goes.refl s).setLane) fun _ => (Goes.refl s).changeLane _ _ _

theorem goes_holdGood (l : LaneNo) (s : State) : Goes [] [] s (holdGood l s) :=
  goes_ite (fun _ => (Goes.refl s).setLane) fun _ => (Goes.refl s).changeLane _ _ _

theorem goes_goodStep (l : LaneNo) (fill : Option FillInfo) (s : State) : Goes [] [] s (goodStep l fill s) := by
  unfold goodStep
  split
  · exact (Goes.refl s).changeLane _ _ _
  · exact (Goes.refl s).changeLane _ _ _
  · exact goes_holdGood l s
  · exact goes_seekingFill l s
  · exact (goes_heardMismatch l _ s).trans (goes_heardUpTest l _ _)
  · exact goes_upFill l _ s
  all_goals exact .refl s

theorem goes_badRunStep (l : LaneNo) (s : State) : Goes [] [] s (badRunStep l s) :=
  goes_ite (fun _ => ((Goes.refl s).changeLane _ _ _).attend _) fun _ => (Goes.refl s).setLane

theorem goes_badStep (l : LaneNo) (s : State) : Goes [] [] s (badStep l s) := by
  unfold badStep
  split
  · exact .refl s
  · exact .refl s
  · exact (Goes.refl s).setLane
  all_goals exact goes_badRunStep l s

theorem goes_goSilent (l : LaneNo) (s : State) : Goes [] [] s (goSilent l s) :=
  (Goes.refl s).changeLane _ _ _

theorem goes_countSilence (l : LaneNo) (s : State) : Goes [] [] s (countSilence l s) := by
  unfold countSilence
  dsimp only
  split
  · exact .refl s
  · exact .refl s
  all_goals exact goes_ite (fun _ => (Goes.refl s).setLane) fun _ => goes_goSilent l s

theorem goes_takeSilence (l : LaneNo) (s : State) : Goes [] [] s (takeSilence l s) := by
  unfold takeSilence
  split
  · exact .refl s
  · exact .refl s
  all_goals exact goes_goSilent l s

theorem goes_serveAbsence (l : LaneNo) (s : State) : Goes [] [] s (serveAbsence l s) := by
  unfold serveAbsence
  split
  · exact goes_ite (fun _ => (Goes.refl s).changeLane _ _ _) fun _ => .refl s
  all_goals exact .refl s

/-! ### Notice assembly, and a word taken -/

theorem goes_placeAssembly (l : LaneNo) (a : Assembly) (s : State) : Goes [] [] s (placeAssembly l a s) := by
  have complete (t : State) : Goes [] [] t (completeNotice l a t) := by
    unfold completeNotice
    split
    · exact goes_ite (fun _ => (Goes.refl t).handPlain _) fun _ => .refl t
    · exact (Goes.refl t).bump _
  exact goes_ite (fun _ => (Goes.setLane (.refl s)).trans (complete _)) fun _ => (Goes.refl s).setLane

theorem goes_assembleHead (l : LaneNo) (p : BitVec 28) (s : State) : Goes [] [] s (assembleHead l p s) :=
  goes_ite (fun _ => (goes_discardAssembly l s).trans (goes_placeAssembly l _ _)) fun _ => (Goes.refl s).bump _

theorem goes_assembleBody (l : LaneNo) (p : BitVec 28) (s : State) : Goes [] [] s (assembleBody l p s) := by
  unfold assembleBody
  split
  · exact goes_placeAssembly l _ s
  · exact .refl s

theorem goes_takeGood (l : LaneNo) (w : LaneWord) (s : State) : Goes [] [] s (takeGood l w s) := by
  have marked (fill : Option FillInfo) : Goes [] [] s (markGood l fill s) := (Goes.refl s).setLane
  unfold takeGood
  split
  · exact ((marked _).trans (goes_discardAssembly l _)).trans (goes_goodStep l _ _)
  · exact ((marked _).trans (goes_assembleHead l _ _)).trans (goes_goodStep l _ _)
  · exact ((marked _).trans (goes_assembleBody l _ _)).trans (goes_goodStep l _ _)
  · exact .refl s

theorem goes_takeBad (l : LaneNo) (s : State) : Goes [] [] s (takeBad l s) :=
  (((Goes.refl s).bump _).trans (goes_discardAssembly l _)).trans ((goes_badStep l _).trans (goes_countSilence l _))

theorem goes_takeWord (l : LaneNo) (w : LaneWord) (s : State) : Goes [] [] s (takeWord l w s) :=
  (Goes.refl s).setLane.trans (goes_ite (fun _ => goes_takeGood l w _) fun _ => goes_takeBad l _)

/-! ### The transmitter -/

theorem goes_transmitWord (s : State) : Goes [] [] s (transmitWord s) := by
  unfold transmitWord
  refine Goes.trans ((Goes.refl s).of_view (t := { s with link := countWordTime s.link }) rfl) ?_
  generalize { s with link := countWordTime s.link } = t
  have fill : Goes [] [] t (sendFill t) := (Goes.refl t).of_view rfl
  unfold sendNext
  split
  · exact (Goes.refl t).of_view rfl
  · refine goes_ite (fun _ => fill) fun _ => ?_
    split
    · exact fill
    case h_2 n queue outbound =>
      cases n.words with
      | nil => exact fill
      | cons head bodies =>
        refine (Goes.refl t).link fun bound => ?_
        rw [outbound] at bound
        exact Nat.le_of_succ_le bound

end Sys2Proof.Machine
end

section
/-! The walk, fourth part: the registration controller, the ranging unit, the delay tracker and the handover rules are runs of acts
(R30 to R52, R97 to R124, R157 to R169). -/

namespace Sys2Proof.Machine

/-! ### Dropping, losing and re-ranging -/

theorem Goes.queueDrop {s t : State} (h : Handle) (reason : DropReason) (a : Goes [] [] s t) :
    Goes [] [] s (queueDrop h reason t) :=
  a.queueMessage _ _

theorem Goes.dropAndRelease {s t : State} (h : Handle) (x : Identity) (reason : DropReason) (a : Goes [] [] s t) :
    Goes [] [] s (dropAndRelease h x reason t) :=
  ((a.queueDrop h reason).queueNotice _).freeRecord h

/-- A record that waits for no placement goes LOST, with a launch delay that has a source. -/
theorem Goes.makeLost {s t : State} {h : Handle} {x : Identity} {delay : Nat} {lastGood : LocalCount} (a : Goes [] [] s t)
    (idle : (recordAt t h).waits = false) (holds : (recordAt t h).identity? = some x) (sourced : Sourced t delay) :
    Goes [] [] s (makeLost h x delay lastGood t) :=
  a.rewrite idle (.inr holds.symm) (by simpa [Record.launchDelay?] using sourced) (by simp [Record.tracking?]) nofun

theorem goes_failRanging (h : Handle) (reason : RangingFailure) (s : State) : Goes [] [] s (failRanging h reason s) := by
  unfold failRanging
  cases record : recordAt s h with
  | ranging x r =>
    have sourced : Sourced s (r.launchDelay.getD 0) := by
      cases delay : r.launchDelay with
      | none => exact .inl (Nat.zero_le _)
      | some d => exact sourced_of_record (h := h) (by rw [record]; exact delay)
    refine Goes.raise _ ?_
    cases r.origin with
    | fresh => exact (Goes.refl s).dropAndRelease h x _
    | rerange =>
      exact (Goes.refl s).withdrawAndRewrite (.inr (by rw [record]; rfl)) (by simpa [Record.launchDelay?] using sourced)
        (by simp [Record.tracking?]) nofun
  | _ => exact .refl s

theorem Goes.queueAssign {s t : State} {h : Handle} {x : Identity} {event : State → State} (a : Goes [] [] s t)
    (each : ∀ t, Goes [] [] t (event t)) : Goes [] [] s (queueAssign h x event t) := by
  have queued := (a.queueMessage (.assign x h) none).trans (each _)
  exact goes_ite (fun _ => queued) fun _ => queued.trans (goes_failRanging h _ _)

/-- A record in stage AWAIT-ASSIGN with no attempt made is unbegun. -/
theorem unbegun_ranging {x : Identity} {r : RangingFields} (waits : r.stage = .awaitAssign) (attempts : r.attempts = 0)
    (samples : r.samples = []) : (Record.ranging x r).Unbegun := by
  rintro _ _ ⟨⟩
  exact ⟨waits, attempts, samples⟩

theorem goes_rerangeWith {s : State} {h : Handle} {x : Identity} {delay : Nat} {lastGood : LocalCount} {cause : RerangeCause}
    {first : State → State} (holds : (recordAt s h).identity? = some x) (sourced : Sourced s delay)
    (each : ∀ t, Goes [] [] t (first t)) : Goes [] [] s (rerangeWith h x delay lastGood cause first s) := by
  have written := (Goes.refl s).withdrawAndRewrite (r := .ranging x (rerangingFields cause delay lastGood)) (.inr holds.symm)
    (by simpa [Record.launchDelay?, rerangingFields] using sourced) (by simp [Record.tracking?]) (unbegun_ranging rfl rfl rfl)
  exact (written.trans (each _)).queueAssign fun t => (Goes.refl t).raise _

theorem goes_enterReranging (h : Handle) (cause : RerangeCause) (s : State) : Goes [] [] s (enterReranging h cause s) := by
  have sourced {d : Nat} (mem : d ∈ (recordAt s h).launchDelay?) : Sourced s d := sourced_of_record mem
  unfold enterReranging
  cases record : recordAt s h with
  | active x t => exact goes_rerangeWith (by rw [record]; rfl) (sourced (by rw [record]; rfl)) .refl
  | offering x t peer d =>
    exact goes_rerangeWith (by rw [record]; rfl) (sourced (by rw [record]; rfl)) fun t => (Goes.refl t).queueNotice _
  | lost x delay lastGood d => exact goes_rerangeWith (by rw [record]; rfl) (sourced (by rw [record]; rfl)) .refl
  | arriving x delay peer d retry => exact goes_rerangeWith (by rw [record]; rfl) (sourced (by rw [record]; rfl)) .refl
  | _ => exact .refl s

theorem goes_declareLost (h : Handle) (s : State) : Goes [] [] s (declareLost h s) := by
  unfold declareLost
  cases record : recordAt s h with
  | active x t =>
    exact ((Goes.refl s).makeLost (by rw [record]; rfl) (by rw [record]; rfl)
      (sourced_of_record (h := h) (by rw [record]; rfl))).raise _
  | offering x t peer d =>
    have same (n : Notice) : recordAt (queueNotice n s) h = .offering x t peer d := by rw [recordAt_queueNotice, record]
    exact (((Goes.refl s).queueNotice _).makeLost (by rw [same]; rfl) (by rw [same]; rfl)
      (sourced_of_record (h := h) (by rw [same]; rfl))).raise _
  | _ => exact .refl s

/-! ### Hearings and deadlines -/

theorem goes_heardAgain (h : Handle) (e : Hearing) (s : State) : Goes [] [] s (heardAgain h e s) := by
  unfold heardAgain
  split
  · exact goes_enterReranging h _ s
  · exact goes_enterReranging h _ s
  · exact goes_enterReranging h _ s
  · exact (Goes.refl s).bump _
  · exact (Goes.refl s).bump _
  all_goals exact .refl s

theorem goes_takeHearing (e : Hearing) (s : State) : Goes [] [] s (takeHearing e s) := by
  refine goes_ite (fun _ => ((Goes.refl s).queueMessage _ _).raise _) fun unbarred => ?_
  refine goes_ite (fun _ => (Goes.refl s).bump _) fun uncontested => ?_
  cases found : holder s e.identity with
  | some h => exact goes_heardAgain h e s
  | none =>
    show Goes [] [] s (heardUnknown e s)
    unfold heardUnknown
    split
    case h_1 h free =>
      exact ((Goes.refl s).then (.claims h _ e.identity ⟨lowestFree_free free, rfl, found, by simpa using unbarred,
        by simpa using uncontested, by simp [Record.launchDelay?], rfl, by rintro _ _ ⟨⟩⟩)).queueNotice _
    · exact (Goes.refl s).raise _

theorem goes_serveSettle (h : Handle) (s : State) : Goes [] [] s (serveSettle h s) := by
  unfold serveSettle
  cases record : recordAt s h with
  | pending x heard d =>
    refine goes_ite (fun _ => Goes.queueAssign ?_ .refl) fun _ => .refl s
    exact (Goes.refl s).rewrite (by rw [record]; rfl) (.inr (by rw [record]; rfl))
      (by simp [Record.launchDelay?, settledFields]) (by simp [Record.tracking?]) (unbegun_ranging rfl rfl rfl)
  | _ => exact .refl s

theorem goes_serveRetention (h : Handle) (s : State) : Goes [] [] s (serveRetention h s) := by
  unfold serveRetention
  split
  · exact goes_ite (fun _ => ((Goes.refl s).dropAndRelease h _ _).raise _) fun _ => .refl s
  all_goals exact .refl s

theorem Goes.uncontest {s t : State} (x : Identity) (a : Goes [] [] s t) : Goes [] [] s (uncontest x t) :=
  a.then (.beside { Beside.of_view (s := t) (t := t) rfl with contested := List.filter_sublist })

theorem goes_serveContestedExpiry (x : Identity) (s : State) : Goes [] [] s (serveContestedExpiry x s) := by
  unfold serveContestedExpiry
  split
  · exact goes_ite (fun _ => (Goes.refl s).uncontest x) fun _ => .refl s
  · exact .refl s

/-! ### The ranging unit -/

theorem goes_takeRangeResult (r : RangeResult) (s : State) : Goes [] [] s (takeRangeResult r s) :=
  goes_ite (fun out => (Goes.refl s).then (.answers _ _ _ _ _ out)) fun _ => .refl s

theorem outcomeFor_eq_some {h : Handle} {y : Handoff} {x : Identity} {o : RangingOutcome} :
    outcomeFor h y = some (x, o) ↔ y = .outcome h x o := by
  cases y <;> simp [outcomeFor]

/-- A hand-off taken is the first that `sel` selects, and only the hand-offs change. -/
theorem takeHanded_eq_some {α : Type} {sel : Handoff → Option α} {s t : State} {a : α} :
    takeHanded sel s = some (a, t) ↔
      s.handed.findSome? sel = some a ∧ { s with handed := s.handed.eraseP fun x => (sel x).isSome } = t := by
  cases found : s.handed.findSome? sel <;> simp [takeHanded, found]

/-- A record written before a hand-off is taken is as one written after. -/
theorem takeHanded_setRecord {α : Type} {sel : Handoff → Option α} {s t : State} {a : α}
    (taken : takeHanded sel s = some (a, t)) (h : Handle) (r : Record) :
    takeHanded sel (setRecord h r s) = some (a, setRecord h r t) := by
  obtain ⟨found, rfl⟩ := takeHanded_eq_some.1 taken
  exact takeHanded_eq_some.2 ⟨found, rfl⟩

theorem takeHanded_queueMessage {α : Type} {sel : Handoff → Option α} {s t : State} {a : α}
    (taken : takeHanded sel s = some (a, t)) (m : Message) (tag : Option Identity) :
    takeHanded sel (queueMessage m tag s) = some (a, queueMessage m tag t) := by
  obtain ⟨found, rfl⟩ := takeHanded_eq_some.1 taken
  refine takeHanded_eq_some.2 ⟨by rwa [queueMessage_handed], ?_⟩
  rw [queueMessage_handed]
  unfold queueMessage backlogRoom
  dsimp only
  split <;> rfl

theorem recordAt_of_takeHanded {α : Type} {sel : Handoff → Option α} {s t : State} {a : α}
    (taken : takeHanded sel s = some (a, t)) (h : Handle) : recordAt t h = recordAt s h := by
  obtain ⟨-, rfl⟩ := takeHanded_eq_some.1 taken
  rfl

theorem slotAt_of_takeHanded {α : Type} {sel : Handoff → Option α} {s t : State} {a : α}
    (taken : takeHanded sel s = some (a, t)) (h : Handle) : slotAt t h = slotAt s h := by
  obtain ⟨-, rfl⟩ := takeHanded_eq_some.1 taken
  rfl

/-- An agreement is written into the record while its outcome is still handed; then the outcome is taken. -/
theorem goes_agreement {s t : State} {h : Handle} {x : Identity} {r : RangingFields} {samples : List Int} {delay : Nat}
    (taken : takeHanded (outcomeFor h) s = some ((x, .agreement samples delay), t)) (record : recordAt s h = .ranging x r)
    (attempting : r.stage = .attempting) (answered : slotAt s h = .answered x) :
    Goes [] [] s (applyOutcome h x r (.agreement samples delay) t) := by
  obtain ⟨⟨y, handed, read⟩, -⟩ := takeHanded_spec taken
  rw [outcomeFor_eq_some.1 read] at handed
  have settled : ∀ r' : Record, settleSlot h x (setRecord h r' t) = setRecord h r' (settleSlot h x t) := fun r' => by
    simp only [settleSlot, slotAt_setRecord, slotAt_of_takeHanded taken, answered, if_true]
    rfl
  have written := ((Goes.refl s).then (.agrees h x r samples delay handed record attempting)).then
    (.takesOutcome h x _ (takeHanded_setRecord taken h _))
  rw [settled] at written
  have queued := written.queueMessage (.setDelay h delay) (some x) (by
    rintro _ _ ⟨⟩
    exact sourced_of_record (h := h) (by simp [Record.launchDelay?]))
  exact goes_ite (fun _ => queued) fun _ => queued.trans (goes_failRanging h _ _)

theorem goes_takeOutcome {s t : State} {h : Handle} {x : Identity} {o : RangingOutcome}
    (taken : takeHanded (outcomeFor h) s = some ((x, o), t)) : Goes [] [] s (takeOutcome h x o t) := by
  have settled : Goes [] [] s (settleSlot h x t) := (Goes.refl s).then (.takesOutcome h x o taken)
  unfold takeOutcome
  rw [recordAt_of_takeHanded taken, slotAt_of_takeHanded taken]
  cases record : recordAt s h with
  | ranging y r =>
    refine goes_ite (fun applies => ?_) fun _ => settled
    obtain ⟨rfl, attempting, answered⟩ := applies
    cases o with
    | proceed samples attempts =>
      exact goes_askOrWait (recordAt_setRecord_self _ _ _) fun v u next =>
        .proceeds h y r samples attempts taken record attempting answered next
    | agreement samples delay => exact goes_agreement taken record attempting answered
    | failure reason => exact settled.trans (goes_failRanging h reason _)
  | _ => exact settled

/-! ### The delay tracker -/

/-- Other tracking fields with the same launch delay. -/
theorem goes_setTracking {s : State} {h : Handle} {f g : Tracking} (tracked : (recordAt s h).tracking? = some f)
    (delay : g.launchDelay = f.launchDelay) (source : TrackingFrom s g) : Goes [] [] s (setTracking h g s) := by
  have same : Sourced s f.launchDelay := sourced_of_record (h := h) (by
    cases record : recordAt s h <;> simp_all [Record.tracking?, Record.launchDelay?])
  unfold setTracking
  cases record : recordAt s h with
  | active x t =>
    exact (Goes.refl s).rewrite (by rw [record]; rfl) (.inr (by rw [record]; rfl))
      (by simpa [Record.launchDelay?, Record.withTracking, delay] using same)
      (by simpa [Record.tracking?, Record.withTracking] using source) (by rintro _ _ ⟨⟩)
  | offering x t peer d =>
    exact (Goes.refl s).rewrite (by rw [record]; rfl) (.inr (by rw [record]; rfl))
      (by simpa [Record.launchDelay?, Record.withTracking, delay] using same)
      (by simpa [Record.tracking?, Record.withTracking] using source) (by rintro _ _ ⟨⟩)
  | _ => simp [record, Record.tracking?] at tracked

theorem trackedFor_eq_some {h : Handle} {y : Handoff} {x : Identity} {found : TrackedState} {r : TrackerResult} :
    trackedFor h y = some (x, found, r) ↔ y = .tracked h x found r := by
  cases y <;> simp [trackedFor]

theorem not_ofSequence_of_trackedFor {h : Handle} (y : Handoff) (tracked : (trackedFor h y).isSome = true) :
    y.ofSequence = false := by
  cases y with
  | outcome | placed => exact Bool.noConfusion tracked
  | _ => rfl

theorem Goes.raiseLimit {s t : State} (h : Handle) (x : Identity) (was : Bool) (k : Correction) (a : Goes [] [] s t) :
    Goes [] [] s (raiseLimit h x was k t) := by
  unfold Machine.raiseLimit
  split
  · exact a.trans (goes_ite (fun _ => .refl t) fun _ => (Goes.refl t).raise _)
  · exact a

/-- A tracker result handed, and the tracking fields of the record it applies to. -/
structure ResultWaits (h : Handle) (x : Identity) (r : TrackerResult) (f : Tracking) (s t : State) : Prop where
  taken : ∃ found, takeHanded (trackedFor h) s = some ((x, found, r), t)
  tracked : (recordAt s h).tracking? = some f

section
variable {h : Handle} {x : Identity} {r : TrackerResult} {f : Tracking} {s t : State}

theorem ResultWaits.mem (w : ResultWaits h x r f s t) : ∃ found, Handoff.tracked h x found r ∈ s.handed := by
  obtain ⟨found, taken⟩ := w.taken
  obtain ⟨⟨y, handed, read⟩, -⟩ := takeHanded_spec taken
  exact ⟨found, trackedFor_eq_some.1 read ▸ handed⟩

/-- The tracking fields are written while the result is still handed; then the result is taken. -/
theorem ResultWaits.goes_setTracking {g : Tracking} (w : ResultWaits h x r f s t) (delay : g.launchDelay = f.launchDelay)
    (source : TrackingFrom s g) : Goes [] [] s (setTracking h g t) := by
  obtain ⟨found, taken⟩ := w.taken
  have written := Machine.goes_setTracking w.tracked delay source
  unfold setTracking at written ⊢
  rw [recordAt_of_takeHanded taken]
  exact written.trans (.of_takeHanded (takeHanded_setRecord taken h _) not_ofSequence_of_trackedFor)

/-- The same with the correction's SET-DELAY queued in between (R120). -/
theorem ResultWaits.goes_queueSetDelay {g : Tracking} {drift : Int} {good : LocalCount} {k : Correction}
    (w : ResultWaits h x (.aligned drift good (some k)) f s t) (delay : g.launchDelay = f.launchDelay)
    (source : TrackingFrom s g) :
    Goes [] [] s (queueMessage (.setDelay h k.newDelay) (some x) (setTracking h g t)) := by
  obtain ⟨handed, mem⟩ := w.mem
  obtain ⟨found, taken⟩ := w.taken
  have written := Machine.goes_setTracking w.tracked delay source
  unfold setTracking at written ⊢
  rw [recordAt_of_takeHanded taken]
  refine (written.queueMessage (.setDelay h k.newDelay) (some x) ?_).trans
    (.of_takeHanded (takeHanded_queueMessage (takeHanded_setRecord taken h _) _ _) not_ofSequence_of_trackedFor)
  rintro _ _ ⟨⟩
  exact .inr (.inr (.inl ⟨_, mem, rfl⟩))

theorem ResultWaits.goes_applyCorrection {drift : Int} {good : LocalCount} {k : Correction}
    (w : ResultWaits h x (.aligned drift good (some k)) f s t) :
    Goes [] [] s (applyCorrection h x (alignedFields f drift good (some k)) k t) := by
  obtain ⟨found, mem⟩ := w.mem
  have cleared (g : Tracking) (runs : g.missingRun = 0 ∧ g.misalignedRun = 0) (drift : g.drift = 0) : TrackingFrom s g :=
    ⟨.inl runs.1, .inl (by omega), .inl drift⟩
  refine goes_ite (fun _ => w.goes_setTracking rfl (cleared _ ⟨rfl, rfl⟩ rfl)) fun _ => ?_
  refine goes_ite (fun _ => w.goes_queueSetDelay rfl ?_) fun _ => w.goes_queueSetDelay rfl (cleared _ ⟨rfl, rfl⟩ rfl)
  exact ⟨.inl rfl, .inl (Nat.zero_le 1), .inr (.inr (.inr ⟨h, x, found, good, k, rfl, mem⟩))⟩

theorem ResultWaits.goes_applyTracked (w : ResultWaits h x r f s t) : Goes [] [] s (applyTracked h x f r t) := by
  obtain ⟨handed, mem⟩ := w.mem
  obtain ⟨misalignedRun, drift⟩ : (f.misalignedRun ≤ 1 ∨ _) ∧ _ :=
    ⟨(trackingFrom_of_record w.tracked).misalignedRun, (trackingFrom_of_record w.tracked).drift⟩
  have dropped : Goes [] [] s t := by
    obtain ⟨found, taken⟩ := w.taken
    exact .of_takeHanded taken not_ofSequence_of_trackedFor
  cases r with
  | missing run => exact w.goes_setTracking rfl ⟨.inr (.inr ⟨h, x, handed, mem⟩), misalignedRun, drift⟩
  | lost => exact dropped.trans (goes_declareLost h t)
  | misaligned => exact w.goes_setTracking rfl ⟨.inl rfl, .inl (Nat.le_refl 1), drift⟩
  | rerange => exact dropped.trans (goes_enterReranging h _ t)
  | aligned drift good correction =>
    cases correction with
    | none =>
      exact w.goes_setTracking rfl ⟨.inl rfl, .inl (Nat.zero_le 1), .inr (.inr (.inl ⟨h, x, handed, good, mem⟩))⟩
    | some k => exact w.goes_applyCorrection.raiseLimit h x _ k

end

theorem goes_takeTracked {s t : State} {h : Handle} {x : Identity} {found : TrackedState} {r : TrackerResult}
    (taken : takeHanded (trackedFor h) s = some ((x, found, r), t)) : Goes [] [] s (takeTracked h x found r t) := by
  have dropped : Goes [] [] s t := .of_takeHanded taken not_ofSequence_of_trackedFor
  have waits {f : Tracking} (tracked : (recordAt t h).tracking? = some f) : ResultWaits h x r f s t :=
    ⟨⟨found, taken⟩, recordAt_of_takeHanded taken h ▸ tracked⟩
  unfold takeTracked
  split
  case h_1 record => exact goes_ite (fun _ => (waits (by rw [record]; rfl)).goes_applyTracked) fun _ => dropped
  case h_2 record => exact goes_ite (fun _ => (waits (by rw [record]; rfl)).goes_applyTracked) fun _ => dropped
  · exact dropped

theorem goes_takeTrackedFor (h : Handle) (s : State) : Goes [] [] s (takeTrackedFor h s) := by
  unfold takeTrackedFor
  split
  case h_1 taken => exact goes_takeTracked taken
  · exact .refl s

/-- A correction never brings a delay beyond R19's bound. -/
theorem clampDelay_le (bound : Nat) (proposed : Int) : (clampDelay bound proposed).newDelay ≤ bound := by
  unfold clampDelay
  split
  · exact Nat.zero_le _
  · split
    · exact Nat.le_refl _
    · exact Int.toNat_le.2 (by omega)

/-- The delay that a tracker result brings keeps R19's bound. -/
theorem delay_of_trackerResult {c : Configuration} {time : Timebase} {f : Tracking} {kind : TrackerInputKind}
    {r : TrackerResult} (computed : trackerResult c time f kind = some r) (h : Handle) (x : Identity) (found : TrackedState) :
    ∀ d ∈ (Handoff.tracked h x found r).delay?, d ≤ launchBound c := by
  have aligned (e : Int) : ∀ d ∈ (Handoff.tracked h x found (alignedResult c time.localCount f e)).delay?, d ≤ launchBound c := by
    simp only [alignedResult, correctionFor, Handoff.delay?]
    split
    · simp
    · rintro _ ⟨⟩
      exact clampDelay_le _ _
  unfold trackerResult at computed
  grind [Handoff.delay?]

theorem goes_takeInput (i : TrackerInput) (s : State) : Goes [] [] s (takeInput i s) := by
  have handed {found : TrackedState} {x : Identity} {f : Tracking} (tracked : (recordAt s i.handle).tracking? = some f) :
      Goes [] [] s (handResult i found x f s) := by
    refine goes_ite (fun _ => ?_) fun _ => .refl s
    split
    case h_1 r computed =>
      refine (Goes.refl s).hand ⟨fun d mem => .inl (delay_of_trackerResult computed _ _ _ d mem), ?_⟩
      rintro _ _ _ _ ⟨⟩
      exact ⟨i.handle, f, tracked, i.kind, computed⟩
    · exact .refl s
  unfold takeInput
  split
  case h_1 record => exact handed (by rw [record]; rfl)
  case h_2 record => exact handed (by rw [record]; rfl)
  all_goals exact .refl s

theorem goes_takeOneInput (i : TrackerInput) (s : State) : Goes [] [] s (takeOneInput i s) :=
  (((Goes.refl s).takeEvent _).trans (goes_takeTrackedFor _ _)).trans (goes_takeInput i _)

end Sys2Proof.Machine
end

section
/-! The walk, last part: the handover rules, the notices, the delivery notices, the strobe and the host commands; every command is a run
of acts, but for an accepted CONFIGURE. -/

namespace Sys2Proof.Machine

/-! ### Handover (R157 to R169) -/

theorem goes_takeHandoff (p : Channel) (x : Identity) (delay : BitVec 21) (s : State) :
    Goes [] [] s (takeHandoff p x delay s) := by
  have cleared : contestedEntry (uncontest x s) x = none := by simp [contestedEntry, uncontest]
  have begun : Goes [] [] s (uncontest x s) := (Goes.refl s).uncontest x
  unfold takeHandoff
  refine begun.trans ?_
  generalize uncontest x s = t at cleared
  have declined (reason : DeclinedBy) : Goes [] [] t (answerDecline p x reason t) := (Goes.refl t).queueNotice _
  refine goes_ite (fun _ => declined _) fun _ => goes_ite (fun _ => declined _) fun unbarred => ?_
  refine goes_ite (fun _ => declined _) fun unheld => ?_
  split
  · exact declined _
  case h_2 h free =>
    refine (((Goes.refl t).then (.claims h _ x ⟨lowestFree_free free, rfl, by simpa using unheld, by simpa using unbarred,
      cleared, ?_, rfl, by rintro _ _ ⟨⟩⟩)).queueNotice _).trans (goes_askVerify ?_)
    · rintro _ ⟨⟩
      exact Nat.min_le_right _ _
    · simp [requestStands]

theorem goes_takeAccept (p : Channel) (x : Identity) (newHandle : Handle) (s : State) :
    Goes [] [] s (takeAccept p x newHandle s) := by
  have withdrawn : Goes [] [] s (queueNotice (.withdraw x p) s) := (Goes.refl s).queueNotice _
  unfold takeAccept
  split
  · exact withdrawn
  case h_2 h found =>
    split
    case h_1 record =>
      refine goes_ite (fun _ => Goes.queueMessage _ _ ((Goes.refl s).rewrite (by rw [record]; rfl) (.inr ?_) ?_
        (by simp [Record.tracking?]) (by rintro _ _ ⟨⟩))) fun _ => withdrawn
      · exact (holder_holds found).symm
      · rintro _ ⟨⟩
        exact sourced_of_record (h := h) (by rw [record]; rfl)
    all_goals exact withdrawn

/-- An OFFERING record returns to ACTIVE. -/
theorem goes_endOffer {s : State} {h : Handle} {x : Identity} {t : Tracking} {peer : Channel} {d : LocalCount}
    (record : recordAt s h = .offering x t peer d) (reason : DeclinedBy) : Goes [] [] s (endOffer h x t peer reason s) := by
  refine ((Goes.refl s).rewrite (by rw [record]; rfl) (.inr (by rw [record]; rfl)) ?_ ?_ (by rintro _ _ ⟨⟩)).raise _
  · rintro _ ⟨⟩
    exact sourced_of_record (h := h) (by rw [record]; rfl)
  · rintro _ ⟨⟩
    exact trackingFrom_of_record (h := h) (by rw [record]; rfl)

theorem goes_takeDecline (p : Channel) (x : Identity) (reason : BitVec 4) (s : State) :
    Goes [] [] s (takeDecline p x reason s) := by
  unfold takeDecline
  split
  · exact .refl s
  case h_2 h found =>
    split
    case h_1 y t peer d record =>
      obtain rfl : y = x := by simpa [record, Record.identity?] using holder_holds found
      exact goes_ite (fun _ => goes_endOffer record _) fun _ => .refl s
    all_goals exact .refl s

theorem goes_serveOffer (h : Handle) (s : State) : Goes [] [] s (serveOffer h s) := by
  unfold serveOffer
  split
  case h_1 record => exact goes_ite (fun _ => goes_endOffer record _) fun _ => .refl s
  all_goals exact .refl s

theorem goes_takeTaken (p : Channel) (x : Identity) (s : State) : Goes [] [] s (takeTaken p x s) := by
  unfold takeTaken
  split
  · exact .refl s
  case h_2 h _ =>
    split
    · exact ((Goes.refl s).freeRecord h).raise _
    · exact (((Goes.refl s).of_view (t := { s with freeCount := s.freeCount + 1 }) rfl).freeRecord h).raise _
    all_goals exact .refl s

/-- A LEAVING record goes LOST. -/
theorem goes_lapseSource {s : State} {h : Handle} {x : Identity} {delay : Nat} {peer : Channel} {peerHandle : Handle}
    {d : LocalCount} (record : recordAt s h = .leaving x delay peer peerHandle d) (cause : LapsedBy) :
    Goes [] [] s (lapseSource h x delay peer cause s) :=
  ((Goes.refl s).makeLost (by rw [record]; rfl) (by rw [record]; rfl)
    (sourced_of_record (h := h) (by rw [record]; rfl))).raise _

theorem goes_takeLapsed (p : Channel) (x : Identity) (s : State) : Goes [] [] s (takeLapsed p x s) := by
  unfold takeLapsed
  split
  · exact .refl s
  case h_2 h found =>
    split
    case h_1 y delay peer peerHandle d record =>
      obtain rfl : y = x := by simpa [record, Record.identity?] using holder_holds found
      exact goes_ite (fun _ => goes_lapseSource record _) fun _ => .refl s
    all_goals exact .refl s

theorem goes_serveHandoverSource (h : Handle) (s : State) : Goes [] [] s (serveHandoverSource h s) := by
  unfold serveHandoverSource
  split
  case h_1 record => exact goes_ite (fun _ => goes_lapseSource record _) fun _ => .refl s
  all_goals exact .refl s

theorem goes_serveHandoverTarget (h : Handle) (s : State) : Goes [] [] s (serveHandoverTarget h s) := by
  unfold serveHandoverTarget
  split
  · exact goes_ite (fun _ => (((Goes.refl s).freeRecord h).queueNotice _).raise _) fun _ => .refl s
  all_goals exact .refl s

theorem goes_takeWithdraw (p : Channel) (x : Identity) (s : State) : Goes [] [] s (takeWithdraw p x s) := by
  unfold takeWithdraw
  split
  · exact .refl s
  case h_2 h _ =>
    split
    · exact goes_ite (fun _ => ((Goes.refl s).freeRecord h).raise _) fun _ => .refl s
    all_goals exact .refl s

theorem goes_serveVerifyRetry (h : Handle) (s : State) : Goes [] [] s (serveVerifyRetry h s) := by
  unfold serveVerifyRetry
  split
  case h_1 record =>
    refine goes_ite (fun _ => ((Goes.refl s).rearrive record).trans (goes_askVerify ?_)) fun _ => .refl s
    simp [requestStands]
  all_goals exact .refl s

theorem goes_takeVerification (v : VerificationBurst) (s : State) : Goes [] [] s (takeVerification v s) := by
  unfold takeVerification
  split
  case h_1 x delay source d retry record =>
    refine goes_ite (fun _ => goes_ite (fun _ => ?_) fun _ => ?_) fun _ => .refl s
    · exact ((Goes.refl s).queueNotice _).trans (goes_enterReranging _ _ _)
    · refine Goes.handPlain _ (((Goes.refl s).withdrawAndRewrite (.inr ?_) ?_ ?_ (by rintro _ _ ⟨⟩)).queueNotice _ |>.raise _)
      · rw [record]
        rfl
      · rintro _ ⟨⟩
        exact sourced_of_record (h := v.handle) (by rw [record]; rfl)
      · rintro _ ⟨⟩
        exact trackingFrom_fresh _ _ _ _
  all_goals exact .refl s

theorem goes_takeOneVerification (v : VerificationBurst) (s : State) : Goes [] [] s (takeOneVerification v s) :=
  ((Goes.refl s).takeEvent _).trans (goes_takeVerification v _)

/-! ### The tree notices (R143 to R156) -/

theorem goes_freeForClaim (h : Handle) (x : Identity) (p : Channel) (drop : Bool) (offeredTo : Option Channel) (s : State) :
    Goes [] [] s (freeForClaim h x p drop offeredTo s) := by
  have dropped : Goes [] [] s (if drop then queueDrop h .peer s else s) :=
    goes_ite (fun _ => (Goes.refl s).queueDrop h _) fun _ => .refl s
  cases offeredTo with
  | none => exact ((dropped.queueNotice _).freeRecord h).raise _
  | some peer => exact (((dropped.queueNotice _).queueNotice _).freeRecord h).raise _

theorem goes_takeClaim (p : Channel) (x : Identity) (heard : TreeCycle) (s : State) :
    Goes [] [] s (takeClaim p x heard s) := by
  unfold takeClaim
  split
  · exact .refl s
  case h_2 h _ =>
    split
    · exact goes_ite (fun _ => ((Goes.refl s).freeRecord h).raise _) fun _ => .refl s
    · exact goes_ite (fun _ => (Goes.refl s).queueNotice _) fun _ => goes_freeForClaim _ _ _ _ _ s
    · exact goes_ite (fun _ => (Goes.refl s).queueNotice _) fun _ => goes_freeForClaim _ _ _ _ _ s
    · exact goes_freeForClaim _ _ _ _ _ s
    · exact goes_freeForClaim _ _ _ _ _ s
    · exact goes_freeForClaim _ _ _ _ _ s
    · exact goes_freeForClaim _ _ _ _ _ s
    · exact .refl s

theorem goes_takeObject (q : Channel) (x : Identity) (s : State) : Goes [] [] s (takeObject q x s) := by
  unfold takeObject
  split
  · exact .refl s
  case h_2 h found =>
    split
    · have withdrawn : Goes [] [] s (withdrawRequest h s) := (Goes.refl s).then (.withdraws h)
      exact ((withdrawn.then (.contests h x (by simpa using holder_holds found) fun _ => no_request_of_withdrawn)).raise
        _).attend _
    all_goals exact .refl s

theorem goes_takeCross (p : Channel) (x : Identity) (s : State) : Goes [] [] s (takeCross p x s) := by
  have tuned : Goes [] [] s (queueMessage (.tune x p) none s) := (Goes.refl s).queueMessage _ _
  unfold takeCross
  split
  · exact .refl s
  · exact goes_ite (fun _ => tuned.raise _) fun _ => tuned

theorem goes_takeCrossHeard (b : CrossHeard) (s : State) : Goes [] [] s (takeCrossHeard b s) :=
  goes_ite (fun _ => ((Goes.refl s).queueNotice _).raise _) fun _ => (Goes.refl s).bump _

theorem goes_actOn (p : Channel) (n : Notice) (s : State) : Goes [] [] s (actOn p n s) := by
  cases n with
  | claim x heard => exact goes_takeClaim p x heard s
  | object x claimant => exact goes_takeObject p x s
  | release x => exact (Goes.refl s).uncontest x
  | quiet first length => exact goes_takeQuiet p first length s
  | cross x down => exact goes_takeCross p x s
  | handoff x target delay => exact goes_takeHandoff p x delay s
  | accept x source newHandle => exact goes_takeAccept p x newHandle s
  | decline x source reason => exact goes_takeDecline p x reason s
  | taken x source => exact goes_takeTaken p x s
  | lapsed x source => exact goes_takeLapsed p x s
  | withdraw x target => exact goes_takeWithdraw p x s

theorem goes_takeNotice (p : Channel) (n : Notice) (s : State) : Goes [] [] s (takeNotice p n s) :=
  ((Goes.refl s).takeEvent _).trans (goes_ite (fun _ => goes_actOn p n _) fun _ => .refl _)

/-! ### Hand-offs taken in their order -/

theorem goes_takeInOrder {α : Type} [DecidableEq α] {sel : Handoff → Option α} {take : α → State → State}
    (each : ∀ a s, Goes [] [] s (take a s)) (a : α) (s : State) : Goes [] [] s (takeInOrder sel take a s) :=
  (goes_foldl (fun s b => each b s) _ s).trans (each a _)

/-- Hand-offs of which each takes itself alone, in their order: each is the oldest when it is taken. -/
theorem goes_takeWantedInOrder {α : Type} [DecidableEq α] {sel : Handoff → Option α} {want : α → Bool}
    {take : α → State → State}
    (each : ∀ a rest (s : State), s.handed.filterMap sel = a :: rest →
      Goes [] [] s (take a s) ∧ (take a s).handed.filterMap sel = rest) (s : State) :
    Goes [] [] s (takeWantedInOrder sel want take s) := by
  have all (taken : List α) : ∀ (rest : List α) (t : State), t.handed.filterMap sel = taken ++ rest →
      Goes [] [] t (taken.foldl (fun t b => take b t) t) := by
    induction taken with
    | nil => exact fun _ _ _ => .refl _
    | cons a taken ih =>
      intro rest t waiting
      obtain ⟨goes, left⟩ := each a _ t waiting
      exact goes.trans (ih rest _ left)
  unfold takeWantedInOrder
  split
  case h_1 a found =>
    obtain ⟨rest, waiting⟩ : ∃ rest, s.handed.filterMap sel = (olderHanded sel a s ++ [a]) ++ rest := by
      have parts := List.takeWhile_append_dropWhile (p := (· ≠ a)) (l := s.handed.filterMap sel)
      cases left : (s.handed.filterMap sel).dropWhile (· ≠ a) with
      | nil =>
        have other := List.dropWhile_eq_nil_iff.1 left a (List.mem_of_find?_eq_some found)
        simp at other
      | cons b rest =>
        have first := List.head_dropWhile_not (· ≠ a) (l := s.handed.filterMap sel) (by rw [left]; nofun)
        simp only [left, List.head_cons, decide_eq_false_iff_not, not_not] at first
        subst first
        exact ⟨rest, by rw [← parts, left, olderHanded]; simp⟩
    have goes := all _ _ s waiting
    rwa [List.foldl_append] at goes
  · exact .refl s

theorem goes_attemptPlaced (h : Handle) (s : State) :
    Goes [] [] s (takeWantedInOrder placementHanded (fun p => p.handle == h) takeOnePlacement s) :=
  goes_takeWantedInOrder (fun p rest _ waiting =>
    ⟨goes_takePlacements [p] (rest := rest) waiting, placementsHanded_takeOnePlacement waiting⟩) s

/-! ### Delivery notices -/

/-- The delivery notices that wait, oldest first. -/
def deliveriesHanded (s : State) : List Delivery :=
  s.handed.filterMap deliveryNotice

/-- What `p` passes over is not read by `f`. -/
theorem filterMap_filter_of_apart {α : Type} {f : Handoff → Option α} {p : Handoff → Bool}
    (apart : ∀ x, p x = false → f x = none) (xs : List Handoff) : (xs.filter p).filterMap f = xs.filterMap f := by
  rw [List.filterMap_filter]
  refine List.filterMap_congr fun x _ => ?_
  cases kept : p x with
  | true => rfl
  | false => simp [apart x kept]

theorem filterMap_erase_of_none {α : Type} {f : Handoff → Option α} {y : Handoff} (unread : f y = none)
    (xs : List Handoff) : (xs.erase y).filterMap f = xs.filterMap f := by
  induction xs with
  | nil => rfl
  | cons x xs ih =>
    by_cases same : x = y
    · rw [same, List.erase_cons_head, List.filterMap_cons_none unread]
    · rw [List.erase_cons_tail (by simpa using same), List.filterMap_cons, List.filterMap_cons, ih]

theorem deliveryNotice_eq_some {y : Handoff} {d : Delivery} : deliveryNotice y = some d ↔ y = .delivered d := by
  cases y <;> simp [deliveryNotice]

/-- The placements taken leave the delivery notices. -/
theorem deliveriesHanded_takeAllPlacements (s : State) : deliveriesHanded (takeAllPlacements s) = deliveriesHanded s := by
  have one (p : RangePlacement) (t : State) : deliveriesHanded (takeOnePlacement p t) = deliveriesHanded t := by
    rw [deliveriesHanded, takeOnePlacement, takePlacement_handed, takeEvent_handed]
    exact filterMap_erase_of_none rfl t.handed
  have all (l : List RangePlacement) : ∀ t, deliveriesHanded (l.foldl (fun t p => takeOnePlacement p t) t) = deliveriesHanded t := by
    induction l with
    | nil => exact fun t => rfl
    | cons p l ih => exact fun t => (ih _).trans (one p t)
  exact all _ s

theorem deliveriesHanded_place (g : DirectedGrant) (s : State) : deliveriesHanded (place g s) = deliveriesHanded s := by
  show deliveriesHanded (handPlacement g (reserveGrant g s)) = deliveriesHanded (reserveGrant g s)
  generalize reserveGrant g s = t
  unfold handPlacement
  split
  · simp [deliveriesHanded, deliveryNotice]
  · refine Eq.trans (congrArg (List.filterMap deliveryNotice) ?_) (deliveriesHanded_takeAllPlacements t)
    unfold takeVerifyPlacement
    cases recordAt (takeAllPlacements t) g.handle <;> simp [apply_ite State.handed]

theorem deliveriesHanded_meetRequest (q : Request) (s : State) :
    deliveriesHanded (meetRequest q s) = deliveriesHanded s := by
  rcases meetRequest_cases q s with e | e | ⟨g, -, -, e⟩ <;> rw [e]
  · rfl
  · exact deliveriesHanded_place g s

theorem deliveriesHanded_retryPlacements (s : State) : deliveriesHanded (retryPlacements s) = deliveriesHanded s := by
  have one (t : State) (q : Request) : deliveriesHanded (retryRequest t q) = deliveriesHanded t := by
    unfold retryRequest
    split
    · exact deliveriesHanded_place _ _
    · rfl
  have all (l : List Request) : ∀ t, deliveriesHanded (l.foldl retryRequest t) = deliveriesHanded t := by
    induction l with
    | nil => exact fun t => rfl
    | cons q l ih => exact fun t => (ih _).trans (one t q)
  exact all _ s

@[simp] theorem firstRemoval_handed (s : State) : (firstRemoval s).handed = s.handed := by
  unfold firstRemoval
  split <;> rfl

@[simp] theorem serveWindowStart_handed (s : State) : (serveWindowStart s).handed = s.handed := by
  unfold serveWindowStart
  split
  · split <;> simp
  · rfl

@[simp] theorem serveWindowClose_handed (s : State) : (serveWindowClose s).handed = s.handed := by
  unfold serveWindowClose
  split
  · split <;> simp
  · rfl

@[simp] theorem serveDiscoveryDue_handed (s : State) : (serveDiscoveryDue s).handed = s.handed := by
  unfold serveDiscoveryDue
  split
  · split <;> simp
  · rfl

@[simp] theorem tryAnnounce_handed (s : State) : (tryAnnounce s).handed = s.handed := by
  unfold tryAnnounce
  split
  · split
    · split
      · simp [announceAt]
      · rfl
    · rfl
  · rfl

theorem deliveriesHanded_owedScheduler (s : State) : deliveriesHanded (owedScheduler s) = deliveriesHanded s := by
  unfold owedScheduler
  split
  · rw [schedulerWork, deliveriesHanded_retryPlacements]
    simp [deliveriesHanded, removePassedSpans]
  · rfl

theorem deliveriesHanded_askOrWait (h : Handle) (s : State) : deliveriesHanded (askOrWait h s) = deliveriesHanded s := by
  have asked (q : Request) (t : State) : deliveriesHanded (request q t) = deliveriesHanded t :=
    (deliveriesHanded_meetRequest q _).trans (deliveriesHanded_owedScheduler t)
  unfold askOrWait
  split
  · rfl
  · unfold askRange askRangeBy
    split
    · exact asked _ _
    all_goals rfl

/-- What an earlier sequence left in flight is no delivery notice. -/
theorem deliveriesHanded_filter (h : Handle) (xs : List Handoff) :
    (xs.filter fun x => !ofEarlierSequence h x).filterMap deliveryNotice = xs.filterMap deliveryNotice :=
  filterMap_filter_of_apart (fun x apart => by cases x <;> simp_all [ofEarlierSequence, outcomeFor, placementFor, deliveryNotice]) xs

theorem deliveriesHanded_actOnDelivery (d : Delivery) (s : State) :
    deliveriesHanded (actOnDelivery d s) = deliveriesHanded s := by
  cases d with
  | assign h x c =>
    show deliveriesHanded (assignDelivered h x s) = _
    unfold assignDelivered
    split
    · split
      · exact (deliveriesHanded_askOrWait _ _).trans (deliveriesHanded_filter h _)
      · rfl
    all_goals rfl
  | setDelay h x delay c =>
    refine congrArg (List.filterMap deliveryNotice) ?_
    show (setDelayDelivered h x delay c s).handed = s.handed
    unfold setDelayDelivered
    dsimp only
    split <;> simp [apply_ite State.handed]
  | retune h x c => rfl

theorem goes_assignDelivered (h : Handle) (x : Identity) (s : State) : Goes [] [] s (assignDelivered h x s) := by
  unfold assignDelivered
  split
  case h_1 y r record =>
    refine goes_ite (fun matched => goes_askOrWait (x := y) (f := { r with stage := .attempting }) ?_ fun v u next => ?_)
      fun _ => .refl s
    · exact recordAt_setRecord_self _ _ s
    · exact .begins h y r record matched.2 next
  all_goals exact .refl s

/-- A delivered SET-DELAY is written into the record while the notice still waits; then the notice is taken. -/
theorem goes_setDelayDelivered {s : State} {h : Handle} {x : Identity} {delay : Nat} {c : TreeCycle}
    (waits : Handoff.delivered (.setDelay h x delay c) ∈ s.handed) :
    Goes [] [] s (takeDelivery (.setDelay h x delay c) s) := by
  have sourced : Sourced s delay := .inr (.inr (.inl ⟨_, waits, rfl⟩))
  have dropped : Goes [] [] s (takeEvent (.delivered (.setDelay h x delay c)) s) := (Goes.refl s).takeEvent _
  have corrected (t : Tracking) (tracked : (recordAt s h).tracking? = some t) (effective : LocalCount) :
      TrackingFrom s (correctedTracking t delay effective) :=
    ⟨(trackingFrom_of_record tracked).missingRun, (trackingFrom_of_record tracked).misalignedRun, .inl rfl⟩
  unfold takeDelivery actOnDelivery setDelayDelivered
  dsimp only
  rw [recordAt_takeEvent]
  split
  case h_1 y r record =>
    refine goes_ite (fun matched => ?_) fun _ => dropped
    obtain ⟨rfl, stage, -⟩ := matched
    refine Goes.takeEvent _ (Goes.raise _ (Goes.rewrite (.refl s) ?_ (.inr (by rw [record]; rfl)) ?_ ?_ (by rintro _ _ ⟨⟩)))
    · simp [record, Record.waits, stage]
    · rintro _ ⟨⟩
      exact sourced
    · rintro _ ⟨⟩
      exact trackingFrom_fresh _ _ _ _
  case h_2 y t record =>
    refine goes_ite (fun _ => ?_) fun _ => dropped
    refine Goes.takeEvent _ (Goes.rewrite (.refl s) (by rw [record]; rfl) (.inr (by rw [record]; rfl)) ?_ ?_ (by rintro _ _ ⟨⟩))
    · rintro _ ⟨⟩
      exact sourced
    · rintro _ ⟨⟩
      exact corrected t (by rw [record]; rfl) _
  case h_3 y t peer d record =>
    refine goes_ite (fun _ => ?_) fun _ => dropped
    refine Goes.takeEvent _ (Goes.rewrite (.refl s) (by rw [record]; rfl) (.inr (by rw [record]; rfl)) ?_ ?_ (by rintro _ _ ⟨⟩))
    · rintro _ ⟨⟩
      exact sourced
    · rintro _ ⟨⟩
      exact corrected t (by rw [record]; rfl) _
  all_goals exact dropped

/-- The oldest delivery notice taken leaves the others. -/
theorem goes_takeDelivery {d : Delivery} {rest : List Delivery} {s : State} (oldest : s.handed.filterMap deliveryNotice = d :: rest) :
    Goes [] [] s (takeDelivery d s) ∧ (takeDelivery d s).handed.filterMap deliveryNotice = rest := by
  constructor
  · obtain ⟨y, waits, read⟩ := List.mem_filterMap.1 (oldest ▸ List.mem_cons_self : d ∈ s.handed.filterMap deliveryNotice)
    rw [deliveryNotice_eq_some.1 read] at waits
    cases d with
    | assign h x c => exact ((Goes.refl s).takeEvent _).trans (goes_assignDelivered h x _)
    | setDelay h x delay c => exact goes_setDelayDelivered waits
    | retune h x c => exact (Goes.refl s).takeEvent _
  · exact (deliveriesHanded_actOnDelivery d _).trans (filterMap_erase_of_oldest (fun _ => deliveryNotice_eq_some) oldest)

theorem goes_deliveryRow (sel : Delivery → Bool) (s : State) : Goes [] [] s (deliveryRow sel s) :=
  goes_ite (fun _ => goes_takeWantedInOrder (fun _ _ _ => goes_takeDelivery) s) fun _ => .refl s

/-! ### The strobe -/

theorem goes_serveRecord (s : State) (h : Handle) : Goes [] [] s (serveRecord s h) := by
  unfold serveRecord
  split
  · exact goes_serveSettle h s
  · exact goes_serveOffer h s
  · exact goes_serveHandoverSource h s
  · exact (goes_serveHandoverTarget h s).trans (goes_serveVerifyRetry h _)
  · exact goes_serveRetention h s
  all_goals exact .refl s

theorem goes_serveLane (s : State) (l : LaneNo) : Goes [] [] s (serveLane s l) :=
  goes_ite (fun _ => goes_serveAbsence l s) fun _ => .refl s

theorem goes_serveLeftovers (s : State) : Goes [] [] s (serveLeftovers s) := by
  have contested := goes_foldl (u := []) (l := []) (fun s (c : Contested) => goes_serveContestedExpiry c.identity s)
  have records := goes_foldl (u := []) (l := []) goes_serveRecord
  have lanes := goes_foldl (u := []) (l := []) goes_serveLane
  have entries := goes_foldl (u := []) (l := []) fun s (e : DirectedGrant) => goes_serveExpiry e.kind e.handle e.cycle s
  exact (contested _ s).trans ((records _ _).trans ((lanes _ _).trans (entries _ _)))

/-- The launch delay of a delivery notice is that of the message delivered. -/
theorem delay_of_deliveryOf {c : TreeCycle} {q : Queued} {x : Handoff} (made : deliveryOf c q = some x) :
    x.delay? = q.delay? ∧ ∃ d, x = .delivered d := by
  obtain ⟨message, tag⟩ := q
  cases message with
  | assign =>
    obtain rfl := Option.some.inj made
    exact ⟨rfl, _, rfl⟩
  | setDelay | retune =>
    cases tag with
    | none => exact nomatch made
    | some y =>
      obtain rfl := Option.some.inj made
      exact ⟨rfl, _, rfl⟩
  | drop | tune => exact nomatch made

/-- The delivery notices are handed, and what the slate takes leaves the calendar and the backlog (R172). -/
theorem goes_buildRunning (s : State) : Goes [] [] s (buildRunning s) := by
  have handed := (Goes.refl (u := []) (l := []) s).then (.passes
    (s.handed ++ (s.builder.backlog.take 24).filterMap (deliveryOf (s.time.treeCycle + 1))) ?_ ?_)
  · refine handed.then (.beside { Beside.of_view (t := { s with handed := _ }) rfl with
      directed := fun r => List.Sublist.filterMap _ List.filter_sublist
      backlog := List.drop_sublist 24 _ })
  · intro x mem
    rcases List.mem_append.1 mem with old | new
    · exact .inl old
    · obtain ⟨q, queued, made⟩ := List.mem_filterMap.1 new
      obtain ⟨delay, d, rfl⟩ := delay_of_deliveryOf made
      exact .inr ⟨fun d mem => .inr (.inr (.inr ⟨q, List.mem_of_mem_take queued, delay ▸ mem⟩)), nofun⟩
  · have apart : ((s.builder.backlog.take 24).filterMap (deliveryOf (s.time.treeCycle + 1))).filter Handoff.ofSequence = [] := by
      refine List.filter_eq_nil_iff.2 fun x mem => ?_
      obtain ⟨q, -, made⟩ := List.mem_filterMap.1 mem
      obtain ⟨-, d, rfl⟩ := delay_of_deliveryOf made
      nofun
    rw [List.filter_append, apart, List.append_nil]

theorem goes_owedBuild (s : State) : Goes [] [] s (owedBuild s) := by
  have begun : Goes [] [] s { s with time := { s.time with owesBuild := false } } := (Goes.refl s).of_view rfl
  refine goes_ite (fun _ => begun.trans ?_) fun _ => .refl s
  exact goes_ite (fun _ => goes_buildRunning _) fun _ => (Goes.refl _).of_view rfl

end Sys2Proof.Machine
end

section
/-! The walk, last part: the strobe, the pin and the host commands; every command is a run of acts, but for an accepted CONFIGURE. -/

namespace Sys2Proof.Machine

/-! ### The strobe and the pin -/

theorem goes_finishStrobe (s : State) : Goes [] [] s (finishStrobe s) := by
  refine Goes.trans ((goes_owedScheduler [] s).trans (goes_owedBuild _)) ?_
  exact goes_ite (fun _ => goes_serveLeftovers _) fun _ => .refl _

theorem goes_strobeCounts (epoch : Bool) (s : State) : Goes [] [] s (strobeCounts epoch s) := by
  unfold strobeCounts
  split
  · exact (Goes.refl s).of_view rfl
  · refine goes_ite (fun _ => ?_) fun _ => (Goes.refl s).of_view rfl
    exact .beside { Beside.of_view (s := s) (t := s) rfl with }
  · exact (Goes.refl s).of_view rfl

theorem goes_takeStrobe (epoch : Bool) (part : StrobePart) (s : State) : Goes [] [] s (takeStrobe epoch part s) := by
  have counted := (goes_finishStrobe s).trans (goes_strobeCounts epoch _)
  cases part with
  | whole => exact counted.trans ((goes_owedScheduler [] _).trans (goes_owedBuild _))
  | counts => exact counted
  | scheduler => exact goes_owedScheduler [] s
  | build => exact goes_owedBuild s

theorem goes_resetPinEvent (straps : BitVec 2) (s : State) :
    Goes [] [] s
      { State.afterPin (Fin.ofNat 4 straps.toNat) with pending := s.pending, freeCount := s.freeCount } :=
  (Goes.refl s).then (.empties ⟨rfl, List.nil_sublist _, rfl, rfl, rfl, rfl, rfl, fun _ => Nat.zero_le _, .inr rfl⟩)

theorem emptied_emptyBlocks (s : State) : Emptied s (emptyBlocks s) :=
  ⟨rfl, .refl _, rfl, rfl, rfl, rfl, rfl, id, .inl rfl⟩

theorem goes_restartPart (s : State) : Goes [] [] s (restartPart s) :=
  ((goes_finishStrobe s).then (.empties (emptied_emptyBlocks _))).respondOk

/-! ### The host commands -/

/-- A frame taken: it finds no scheduler work owed in RUNNING (R77). -/
theorem goes_command {taken : PartState → Bool} {decide : State → State}
    (each : ∀ t, taken t.host.part = true → (t.host.part = .running → t.time.owesScheduler = false) → Goes [] [] t (decide t))
    (s : State) : Goes [] [] s (command taken decide s) := by
  cases held : s.host.held with
  | true => rw [command_of_held held]; exact .refl s
  | false =>
    rw [command_of_released held]
    refine (goes_owedScheduler [] s).trans (goes_ite (fun listed => each _ listed fun run => ?_) fun _ => (Goes.refl _).respond _)
    have part : s.host.part = .running := by
      rw [← run]
      exact (congrArg (fun f => f.1.part) (standing_owedScheduler s)).symm
    cases owed : s.time.owesScheduler with
    | false => rw [owedScheduler_of_not_owed owed, owed]
    | true =>
      rw [owedScheduler_of_owed ((running_iff s).2 ⟨held, part⟩) owed]
      exact congrArg Timebase.owesScheduler (schedulerWork_frame s).time

theorem goes_readEvent (s : State) : Goes [] [] s (readEvent s) := by
  unfold readEvent
  split
  · exact (Goes.refl s).respond _
  case h_2 e rest events =>
    refine ((Goes.refl s).host (hp := { s.host with events := rest }) rfl fun bound => ?_).respond _
    rw [events] at bound
    exact Nat.le_of_succ_le bound

theorem goes_readCounters (clear : Byte) (s : State) : Goes [] [] s (readCounters clear s) := by
  unfold readCounters
  split
  · exact (Goes.refl s).respond _
  · exact (Goes.refl s).of_view rfl

theorem goes_clearAttention (conditions : Byte) (s : State) : Goes [] [] s (clearAttention conditions s) := by
  unfold clearAttention
  split
  · exact (Goes.refl s).respond _
  · exact (Goes.refl s).of_view rfl

theorem goes_startPart (s : State) : Goes [] [] s (startPart s) :=
  goes_ite (fun _ => (Goes.refl s).respond _) fun _ => (Goes.refl s).of_view rfl

theorem goes_barHeld {s : State} {h : Handle} {x : Identity} (found : holder s x = some h) (unbarred : isBarred s x = false)
    (room : s.table.barred.length < 16) : Goes [] [] s (barHeld h x s) := by
  have released : Goes [] [] s (withdrawRequest h (queueNotice (.release x) (queueDrop h .barred s))) :=
    (((Goes.refl s).queueDrop h _).queueNotice _).then (.withdraws h)
  have freed : Goes [] [] s (respondOk (addBarred x (dropAndRelease h x .barred s))) :=
    (released.then (.barsHeld h x (by simpa [queueDrop] using holder_holds found) (fun _ => no_request_of_withdrawn)
      (by simpa [isBarred, queueDrop] using unbarred) (by simpa [queueDrop] using room))).respondOk
  unfold barHeld
  split
  · exact (Goes.refl s).respond _
  · exact (Goes.refl s).respond _
  · exact (Goes.refl s).respond _
  all_goals exact freed

theorem goes_bar (x : Identity) (s : State) : Goes [] [] s (bar x s) := by
  refine goes_ite (fun _ => (Goes.refl s).respondOk) fun unbarred => ?_
  refine goes_ite (fun _ => (Goes.refl s).respond _) fun room => ?_
  have unbarred : isBarred s x = false := by simpa using unbarred
  have room : s.table.barred.length < 16 := by omega
  split
  case h_1 found => exact goes_barHeld found unbarred room
  case h_2 unheld => exact ((Goes.refl s).then (.bars x unheld unbarred room)).respondOk

theorem goes_unbar (x : Identity) (s : State) : Goes [] [] s (unbar x s) :=
  Goes.respondOk (Goes.beside (t := { s with table := { s.table with barred := s.table.barred.filter (· != x) } })
    { Beside.of_view (s := s) (t := s) rfl with barred := List.filter_sublist })

theorem goes_readRecord (h : Byte) (s : State) : Goes [] [] s (readRecord h s) := by
  unfold readRecord
  split <;> exact (Goes.refl s).respond _

theorem goes_deregister (hb : Byte) (s : State) : Goes [] [] s (deregister hb s) := by
  unfold deregister
  split
  · exact (Goes.refl s).respond _
  case h_2 h _ =>
    unfold deregisterRecord
    split
    · exact (Goes.refl s).respond _
    · exact (Goes.refl s).respond _
    · exact (Goes.refl s).respond _
    · exact (Goes.refl s).respond _
    all_goals exact ((Goes.refl s).dropAndRelease h _ _).respondOk

theorem goes_rerange (hb : Byte) (s : State) : Goes [] [] s (rerange hb s) := by
  unfold rerange
  split
  · exact (Goes.refl s).respond _
  case h_2 h _ =>
    have reranged : Goes [] [] s (respondOk (enterReranging h .host s)) := (goes_enterReranging h _ s).respondOk
    unfold rerangeRecord
    split
    · exact (Goes.refl s).respond _
    · exact (Goes.refl s).respond _
    · exact (Goes.refl s).respond _
    · exact (Goes.refl s).respond _
    · exact (Goes.refl s).respond _
    all_goals exact reranged

theorem goes_makeOffer {s : State} {h : Handle} {x : Identity} {t : Tracking} (record : recordAt s h = .active x t)
    (target : Channel) : Goes [] [] s (makeOffer h x t target s) := by
  have same (n : Notice) : recordAt (queueNotice n s) h = .active x t := by rw [recordAt_queueNotice, record]
  refine ((Goes.refl s).queueNotice _).rewrite (by rw [same]; rfl) (.inr (by rw [same]; rfl)) ?_ ?_ (by rintro _ _ ⟨⟩)
  · rintro _ ⟨⟩
    exact sourced_of_record (h := h) (by rw [same]; rfl)
  · rintro _ ⟨⟩
    exact trackingFrom_of_record (h := h) (by rw [same]; rfl)

theorem goes_handover (hb tb : Byte) (s : State) : Goes [] [] s (handover hb tb s) := by
  unfold handover
  split
  · exact (Goes.refl s).respond _
  · exact (Goes.refl s).respond _
  case h_3 h target _ _ =>
    unfold handoverRecord
    split
    · exact (Goes.refl s).respond _
    case h_2 record =>
      exact goes_ite (fun _ => (goes_makeOffer record target).respondOk) fun _ => (Goes.refl s).respond _
    all_goals exact (Goes.refl s).respond _

/-! ### SUSPEND and RESUME (R73 to R76) -/

theorem goes_suspend (kind : Byte) (s : State) : Goes [] [] s (suspend kind s) := by
  unfold suspend
  split
  · exact (Goes.refl s).respond _
  case h_2 k _ =>
    refine goes_ite (fun _ => (Goes.refl s).respond _) fun absent => Goes.respondOk ?_
    have pushed := (Goes.refl (u := []) (l := []) s).then (.pushes k (by simpa using absent))
    cases k with
    | ranging => exact pushed.trans (goes_foldl (fun t (r : Request) => (Goes.refl t).then (.withdraws r.handle)) _ _)
    | discovery => exact pushed

theorem awaitsAttempt_congr {s t : State} {g : Handle} (record : recordAt t g = recordAt s g) (slot : slotAt t g = slotAt s g) :
    awaitsAttempt t g = awaitsAttempt s g := by
  unfold awaitsAttempt
  rw [record, slot]

/-- Asking for one handle's placement leaves the records and slots of the others. -/
theorem awaitsAttempt_askRangeBy {make : Request → State → State} {g h : Handle} {s : State}
    (kept : ∀ e x, recordAt (make ⟨.range e, h, x⟩ (setSlot h (.asked x) s)) g = recordAt s g ∧
      slotAt (make ⟨.range e, h, x⟩ (setSlot h (.asked x) s)) g = slotAt s g) :
    awaitsAttempt (askRangeBy make h s) g = awaitsAttempt s g := by
  unfold askRangeBy
  split
  case h_1 x r _ => exact awaitsAttempt_congr (kept _ x).1 (kept _ x).2
  all_goals rfl

theorem awaitsAttempt_queueRange {g h : Handle} (s : State) (ne : g ≠ h) :
    awaitsAttempt (queueRange h s) g = awaitsAttempt s g := by
  refine awaitsAttempt_askRangeBy fun e x => ?_
  rcases enqueue_cases ⟨.range e, h, x⟩ (setSlot h (.asked x) s) with same | same <;> rw [same]
  all_goals exact ⟨recordAt_setSlot h (.asked x) s g, slotAt_setSlot_ne (.asked x) s ne⟩

theorem awaitsAttempt_askRange {g h : Handle} {s : State} (done : s.time.owesScheduler = false) (ne : g ≠ h) :
    awaitsAttempt (askRange h s) g = awaitsAttempt s g := by
  refine awaitsAttempt_askRangeBy fun e x => ?_
  have slot : slotAt (setSlot h (.asked x) s) g = slotAt s g := slotAt_setSlot_ne _ _ ne
  rw [request_of_not_owed (by simpa using done)]
  rcases meetRequest_cases ⟨.range e, h, x⟩ (setSlot h (.asked x) s) with same | same | ⟨grant, -, found, same⟩ <;> rw [same]
  · exact ⟨recordAt_setSlot h (.asked x) s g, slot⟩
  · exact ⟨recordAt_setSlot h (.asked x) s g, slot⟩
  · obtain ⟨r, o, found⟩ := searchPlacement_spec found
    have kind : grant.kind = .range := by rw [(grantAt_spec found).1]; rfl
    simp only [place, handPlacement, kind]
    exact ⟨recordAt_setSlot h (.asked x) s g, slot⟩

/-- A record that waits for its next attempt asks for it. -/
theorem goes_askRangeBy_of_awaits {make : Request → State → State}
    (met : ∀ q s, Relation.ReflTransGen Act ⟨[q], [], s⟩ ⟨[], [], make q s⟩) {s : State} {h : Handle}
    (awaits : awaitsAttempt s h = true) : Goes [] [] s (askRangeBy make h s) := by
  unfold awaitsAttempt at awaits
  split at awaits
  case h_1 record =>
    simp only [Bool.and_eq_true, beq_iff_eq, decide_eq_true_eq] at awaits
    obtain ⟨⟨attempting, few⟩, idle⟩ := awaits
    exact goes_askRangeBy met record attempting few idle
  all_goals exact Bool.noConfusion awaits

theorem goes_queueRanges (hs : List Handle) (nodup : hs.Nodup) (s : State) (awaits : ∀ h ∈ hs, awaitsAttempt s h = true) :
    Goes [] [] s (hs.foldl (fun s h => queueRange h s) s) := by
  induction hs generalizing s with
  | nil => exact .refl s
  | cons h hs ih =>
    obtain ⟨fresh, nodup⟩ := List.nodup_cons.1 nodup
    refine (goes_askRangeBy_of_awaits (fun q s => moves_enqueue q [] s) (awaits h (by simp))).trans (ih nodup _ fun g mem => ?_)
    exact (awaitsAttempt_queueRange s fun e : g = h => fresh (e ▸ mem)).trans (awaits g (by simp [mem]))

theorem goes_askWaiting {s : State} (done : s.time.owesScheduler = false) : Goes [] [] s (askWaiting s) := by
  unfold askWaiting
  split
  · exact .refl s
  case h_2 first others waiting =>
    have awaits : ∀ h ∈ first :: others, awaitsAttempt s h = true := fun h mem => (List.mem_filter.1 (waiting ▸ mem)).2
    obtain ⟨fresh, nodup⟩ := List.nodup_cons.1 (waiting ▸ (List.nodup_finRange 128).filter _)
    refine (goes_askRangeBy_of_awaits (fun q s => moves_request q [] s) (awaits first (by simp))).trans
      (goes_queueRanges others nodup _ fun g mem => ?_)
    exact (awaitsAttempt_askRange done fun e : g = first => fresh (e ▸ mem)).trans (awaits g (by simp [mem]))

theorem goes_resume {s : State} (done : s.time.owesScheduler = false) : Goes [] [] s (resume s) := by
  unfold resume
  split
  · exact (Goes.refl s).respond _
  case h_2 k _ =>
    have popped : Goes [] [] s { s with sched := { s.sched with stack := s.sched.stack.dropLast } } := .beside
      { Beside.of_view (s := s) (t := s) rfl with stack := List.dropLast_sublist s.sched.stack }
    cases k with
    | ranging => exact (popped.trans (goes_askWaiting done)).respondOk
    | discovery => exact popped.respondOk

theorem goes_discoverNow (s : State) : Goes [] [] s (discoverNow s) :=
  goes_ite (fun _ => (Goes.refl s).respond _) fun _ =>
    goes_ite (fun _ => (Goes.refl s).respondOk) fun _ => ((Goes.refl s).window (w := s.sched.window) id).respondOk

/-! ### Every command -/

/-- An accepted CONFIGURE: in INIT it puts another configuration in force (R180). -/
def Configured (s t : State) : Prop :=
  s.host.part = .init ∧ ∃ f, configProblem s.host.ownChannel f = none ∧
    t = respondOk (s.onHost fun hp => { hp with config := configOfFrame f })

theorem goes_row {s t : State} (g : Goes [] [] s t) : Goes [] [] s (if running s then t else s) :=
  goes_ite (fun _ => g) fun _ => .refl s

theorem goes_noticeRow (p : Channel) (n : Notice) (s : State) : Goes [] [] s (noticeRow p n s) :=
  goes_ite (fun _ => goes_takeInOrder (goes_takeNotice p) n s) fun _ => .refl s

theorem goes_rangingOutcomeApplied (h : Handle) (s : State) :
    Goes [] [] s (if running s then
      match takeHanded (outcomeFor h) s with
      | some ((x, o), t) => takeOutcome h x o t
      | none => s
    else s) := by
  refine goes_row ?_
  split
  case h_1 taken => exact goes_takeOutcome taken
  · exact .refl s

theorem goes_or_configured (f : ConfigFrame) (s : State) :
    Goes [] [] s (command inInit (configure f) s) ∨ Configured s (command inInit (configure f) s) := by
  by_cases init : s.host.held = false ∧ s.host.part = .init
  · obtain ⟨released, part⟩ := init
    rw [command_of_taken released (owedScheduler_of_not_running (by simp [running, part])) (by simp [inInit, part])]
    unfold configure
    split
    · exact .inl ((Goes.refl s).respond _)
    case h_2 accepted => exact .inr ⟨part, f, accepted, rfl⟩
  · refine .inl ?_
    cases held : s.host.held with
    | true => rw [command_of_held held]; exact .refl s
    | false =>
      have part : (owedScheduler s).host.part = s.host.part := congrArg (fun f => f.1.part) (standing_owedScheduler s)
      have unlisted : inInit (owedScheduler s).host.part = false := by
        rw [part]
        simpa [inInit, held] using init
      rw [command_of_released held, answer, unlisted]
      exact (goes_owedScheduler [] s).respond _

/-- Every command but an accepted CONFIGURE is a run of acts. -/
theorem goes_exec {c : Instr} {s t : State} (done : exec c s = .next t) : Goes [] [] s t ∨ Configured s t := by
  have whole {u : State} (done : (.next u : Host.Outcome State Fault Refusal) = .next t) (goes : Goes [] [] s u) :
      Goes [] [] s t ∨ Configured s t := .inl (Host.Outcome.next.inj done ▸ goes)
  cases c with
  | resetPinEvent straps => exact whole done (goes_resetPinEvent straps s)
  | resetHeld => exact whole done ((Goes.refl s).of_view rfl)
  | cycleStrobe epoch part => exact whole done (goes_ite (fun _ => .refl s) fun _ => goes_takeStrobe epoch part s)
  | settleDeadline h => exact whole done (goes_row (goes_serveSettle h s))
  | offerDeadline h => exact whole done (goes_row (goes_serveOffer h s))
  | handoverDeadlineSource h => exact whole done (goes_row (goes_serveHandoverSource h s))
  | handoverDeadlineTarget h => exact whole done (goes_row (goes_serveHandoverTarget h s))
  | retentionDeadline h => exact whole done (goes_row (goes_serveRetention h s))
  | discoveryDueDeadline => exact whole done (goes_row (goes_serveDiscoveryDue s))
  | windowStartDeadline => exact whole done (goes_row (goes_serveWindowStart s))
  | windowCloseDeadline => exact whole done (goes_row (goes_serveWindowClose s))
  | verifyRetryDeadline h => exact whole done (goes_row (goes_serveVerifyRetry h s))
  | contestedExpiry x => exact whole done (goes_row (goes_serveContestedExpiry x s))
  | laneAbsenceDeadline l => exact whole done (goes_ite (fun _ => goes_serveAbsence l s) fun _ => .refl s)
  | issuedGrantExpiry k h r => exact whole done (goes_row (goes_serveExpiry k h r s))
  | runningFlagTimeout => exact whole done (goes_row ((Goes.refl s).of_view rfl))
  | transmitWordTime => exact whole done (goes_row (goes_transmitWord s))
  | laneWord l w => exact whole done (goes_ite (fun _ => goes_takeWord l w s) fun _ => .refl s)
  | laneSilenceTimeout l => exact whole done (goes_ite (fun _ => goes_takeSilence l s) fun _ => .refl s)
  | claim | object | release | quiet | cross | handoff | accept | decline | taken | lapsed | withdraw =>
    exact whole done (goes_noticeRow _ _ s)
  | burstReport r => exact whole done (goes_row (goes_takeReport r s))
  | endOfWindowSummary r => exact whole done (goes_row (goes_takeSummary r s))
  | hearing e => exact whole done (goes_row (((Goes.refl s).takeEvent _).trans (goes_takeHearing e _)))
  | crossHeardBurst b => exact whole done (goes_row (((Goes.refl s).takeEvent _).trans (goes_takeCrossHeard b _)))
  | rangeAttemptResult r => exact whole done (goes_row (((Goes.refl s).takeEvent _).trans (goes_takeRangeResult r _)))
  | rangingOutcomeApplied h => exact whole done (goes_rangingOutcomeApplied h s)
  | attemptPlaced h => exact whole done (goes_row (goes_attemptPlaced h s))
  | trackerInput i => exact whole done (goes_row (goes_takeInOrder goes_takeOneInput i s))
  | trackerResultApplied h => exact whole done (goes_row (goes_takeTrackedFor h s))
  | verificationBurst v => exact whole done (goes_row (goes_takeInOrder goes_takeOneVerification v s))
  | assignDeliveryNotice | setDelayDeliveryNotice | retuneDeliveryNotice => exact whole done (goes_deliveryRow _ s)
  | readStatus => exact whole done (goes_command (fun t _ _ => (Goes.refl t).respond _) s)
  | configure f => exact Host.Outcome.next.inj done ▸ goes_or_configured f s
  | start => exact whole done (goes_command (fun t _ _ => goes_startPart t) s)
  | restart => exact whole done (goes_command (fun t _ _ => goes_restartPart t) s)
  | readEvent => exact whole done (goes_command (fun t _ _ => goes_readEvent t) s)
  | readCounters clear => exact whole done (goes_command (fun t _ _ => goes_readCounters clear t) s)
  | clearAttention conditions => exact whole done (goes_command (fun t _ _ => goes_clearAttention conditions t) s)
  | bar x => exact whole done (goes_command (fun t _ _ => goes_bar x t) s)
  | unbar x => exact whole done (goes_command (fun t _ _ => goes_unbar x t) s)
  | readRecord h => exact whole done (goes_command (fun t _ _ => goes_readRecord h t) s)
  | find x => exact whole done (goes_command (fun t _ _ => (Goes.refl t).respond _) s)
  | deregister h => exact whole done (goes_command (fun t _ _ => goes_deregister h t) s)
  | rerange h => exact whole done (goes_command (fun t _ _ => goes_rerange h t) s)
  | handover h target => exact whole done (goes_command (fun t _ _ => goes_handover h target t) s)
  | suspend kind => exact whole done (goes_command (fun t _ _ => goes_suspend kind t) s)
  | resume => exact whole done (goes_command (fun t listed done => goes_resume (done (by simpa [inRunning] using listed))) s)
  | discoverNow => exact whole done (goes_command (fun t _ _ => goes_discoverNow t) s)
  | badFrame code length => exact whole done (goes_command (fun t _ _ => (Goes.refl t).respond _) s)
  | frameDiscarded => exact whole done ((Goes.refl s).of_view rfl)

/-- A step runs a command with the queue's rest, or idles. -/
theorem goes_step {s t : State} (done : step s = .next t) :
    Goes [] [] s t ∨ ∃ rest, Configured { s with pending := rest } t := by
  unfold step at done
  split at done
  · exact .inl (Host.Outcome.next.inj done ▸ .refl s)
  case h_2 c rest _ =>
    have dequeued : Goes [] [] s { s with pending := rest } := (Goes.refl s).of_view rfl
    exact (goes_exec done).imp dequeued.trans fun configured => ⟨rest, configured⟩

end Sys2Proof.Machine
end

section
/-! The laws of the table (R18, R22, R24), kept by every act. -/

namespace Sys2Proof.Machine

/-- A law of the state that each act keeps is kept by a run of acts. -/
theorem Goes.keeps {u l : List Request} {s t : State} {law : State → Prop} (each : ∀ a b, Act a b → law a.state → law b.state)
    (run : Goes u l s t) : law s → law t := by
  intro holds
  have all : ∀ b, Relation.ReflTransGen Act ⟨u, l, s⟩ b → law b.state := by
    intro b path
    induction path with
    | refl => exact holds
    | tail _ act ih => exact each _ _ act ih
  exact all _ run

/-! ### No identity more is held, barred or contested -/

/-- The identity that a handle's record holds. -/
def identityAt (s : State) (h : Handle) : Option Identity :=
  (recordAt s h).identity?

/-- Each record holds the identity it held or none, and the lists have lost entries at most. -/
structure FewerHeld (s t : State) : Prop where
  held : ∀ h, identityAt t h = none ∨ identityAt t h = identityAt s h
  barred : t.table.barred.Sublist s.table.barred
  contested : t.table.contested.Sublist s.table.contested

theorem FewerHeld.refl (s : State) : FewerHeld s s :=
  ⟨fun _ => .inr rfl, .refl _, .refl _⟩

theorem FewerHeld.of_table {s t u : State} (f : FewerHeld s t) (same : u.table = t.table) : FewerHeld s u where
  held := fun h => by
    have record : recordAt u h = recordAt t h := by rw [recordAt, same]; rfl
    rw [identityAt, record]
    exact f.held h
  barred := same ▸ f.barred
  contested := same ▸ f.contested

/-- The table as it was. -/
theorem fewerHeld_of_table {s t : State} (same : t.table = s.table) : FewerHeld s t :=
  (FewerHeld.refl s).of_table same

theorem FewerHeld.setRecord {s : State} {h : Handle} {r : Record} (t : State) (same : t.table = s.table)
    (identity : r.identity? = none ∨ r.identity? = (recordAt s h).identity?) : FewerHeld s (setRecord h r t) where
  held := fun g => by
    have record : recordAt t g = recordAt s g := by rw [recordAt, same]; rfl
    by_cases e : g = h
    · subst e
      rwa [identityAt, recordAt_setRecord_self]
    · rw [identityAt, recordAt_setRecord_ne _ _ e, record]
      exact .inr rfl
  barred := by rw [show (Machine.setRecord h r t).table.barred = t.table.barred from rfl, same]
  contested := by rw [show (Machine.setRecord h r t).table.contested = t.table.contested from rfl, same]

theorem FewerHeld.held_of_some {s t : State} {h : Handle} {x : Identity} (f : FewerHeld s t) (holds : identityAt t h = some x) :
    identityAt s h = some x := by
  rcases f.held h with none | same
  · rw [none] at holds
    exact nomatch holds
  · rwa [← same]

theorem NotHeld.of_fewer {s t : State} {xs ys : List Identity} (f : FewerHeld s t) (sub : ys.Sublist xs) (law : NotHeld s xs) :
    NotHeld t ys :=
  fun x mem h holds => law x (sub.subset mem) h (f.held_of_some holds)

theorem TableLaws.of_fewer {s t : State} (laws : TableLaws s) (f : FewerHeld s t) : TableLaws t where
  once := fun g h held same => by
    obtain ⟨x, holds⟩ := Option.isSome_iff_exists.1 held
    have holdsH : identityAt t h = some x := Eq.trans same.symm holds
    have holdsG := f.held_of_some holds
    exact laws.once g h (Option.isSome_iff_exists.2 ⟨x, holdsG⟩) (holdsG.trans (f.held_of_some holdsH).symm)
  barredNotHeld := laws.barredNotHeld.of_fewer f f.barred
  contestedNotHeld := laws.contestedNotHeld.of_fewer f (f.contested.map _)
  barredOnce := laws.barredOnce.sublist f.barred
  contestedOnce := laws.contestedOnce.sublist (f.contested.map _)

/-! ### An identity that comes to be held, barred or contested -/

theorem not_held_of_holder {s : State} {x : Identity} (unheld : holder s x = none) (h : Handle) : identityAt s h ≠ some x :=
  fun holds => by simpa [unheld] using holder_isSome holds

theorem not_mem_barred {s : State} {x : Identity} (unbarred : isBarred s x = false) : x ∉ s.table.barred := by
  simpa [isBarred] using unbarred

theorem not_mem_contested {s : State} {x : Identity} (uncontested : contestedEntry s x = none) :
    x ∉ s.table.contested.map Contested.identity := by
  simpa [contestedEntry] using uncontested

theorem TableLaws.claim {s : State} {h : Handle} {r : Record} {x : Identity} (laws : TableLaws s) (c : Claims h r x s) :
    TableLaws (setRecord h r s) := by
  have own : identityAt (setRecord h r s) h = some x := by rw [identityAt, recordAt_setRecord_self, c.holds]
  have other (g : Handle) (ne : g ≠ h) : identityAt (setRecord h r s) g = identityAt s g := by
    rw [identityAt, recordAt_setRecord_ne _ _ ne, identityAt]
  have notHeld (xs : List Identity) (law : NotHeld s xs) (fresh : x ∉ xs) : NotHeld (setRecord h r s) xs := by
    intro y mem g holds
    by_cases e : g = h
    · subst e
      exact fresh (Option.some.inj (own.symm.trans holds) ▸ mem)
    · exact law y mem g ((other g e).symm.trans holds)
  refine ⟨fun g k held same => ?_, notHeld _ laws.barredNotHeld (not_mem_barred c.unbarred),
    notHeld _ laws.contestedNotHeld (not_mem_contested c.uncontested), laws.barredOnce, laws.contestedOnce⟩
  change (identityAt _ g).isSome = true at held
  change identityAt _ g = identityAt _ k at same
  by_cases eg : g = h <;> by_cases ek : k = h
  · rw [eg, ek]
  · rw [eg, own, other k ek] at same
    exact absurd same.symm (not_held_of_holder c.unheld k)
  · rw [ek, own, other g eg] at same
    exact absurd same (not_held_of_holder c.unheld g)
  · rw [other g eg] at held same
    rw [other k ek] at same
    exact laws.once g k held same

/-- A record freed: the law of single holding says that its identity is not held any more. -/
theorem TableLaws.not_held_of_freed {s : State} {h : Handle} {x : Identity} (laws : TableLaws s)
    (holds : (recordAt s h).identity? = some x) (g : Handle) : identityAt (setRecord h .free s) g ≠ some x := by
  by_cases e : g = h
  · subst e
    simp [identityAt, Record.identity?]
  · rw [identityAt, recordAt_setRecord_ne _ _ e]
    intro also
    exact e (laws.once g h (by rw [also]; rfl) (also.trans holds.symm))

theorem TableLaws.freed {s : State} (laws : TableLaws s) (h : Handle) : TableLaws (setRecord h .free s) :=
  laws.of_fewer (.setRecord s rfl (.inl rfl))

/-- An identity that is not held joins the barred list. -/
theorem TableLaws.bar {s : State} {x : Identity} (laws : TableLaws s) (unheld : ∀ h, identityAt s h ≠ some x)
    (fresh : x ∉ s.table.barred) : TableLaws (addBarred x s) where
  once := laws.once
  barredNotHeld := fun y mem h => by
    rcases List.mem_append.1 mem with old | new
    · exact laws.barredNotHeld y old h
    · exact List.mem_singleton.1 new ▸ unheld h
  contestedNotHeld := laws.contestedNotHeld
  barredOnce := List.nodup_append.2 ⟨laws.barredOnce, List.nodup_singleton x, by
    rintro y mem _ new rfl
    exact fresh (List.mem_singleton.1 new ▸ mem)⟩
  contestedOnce := laws.contestedOnce

/-- An identity that is not held joins the contested list. -/
theorem TableLaws.contest {s : State} {x : Identity} (laws : TableLaws s) (unheld : ∀ h, identityAt s h ≠ some x)
    (fresh : x ∉ s.table.contested.map Contested.identity) : TableLaws (contest x s) := by
  obtain ⟨kept, sub, entries⟩ : ∃ kept : List Contested, kept.Sublist s.table.contested ∧
      (Machine.contest x s).table.contested = kept ++ [⟨x, ahead s 128⟩] := by
    refine ⟨_, ?_, rfl⟩
    split
    · exact .refl _
    · exact List.tail_sublist _
  have identities : (Machine.contest x s).table.contested.map Contested.identity = kept.map Contested.identity ++ [x] := by
    rw [entries, List.map_append]
    rfl
  refine ⟨laws.once, laws.barredNotHeld, ?_, laws.barredOnce, ?_⟩
  · rw [identities]
    intro y mem h
    rcases List.mem_append.1 mem with old | new
    · exact laws.contestedNotHeld y ((sub.map _).subset old) h
    · exact List.mem_singleton.1 new ▸ unheld h
  · rw [identities]
    refine List.nodup_append.2 ⟨laws.contestedOnce.sublist (sub.map _), List.nodup_singleton x, ?_⟩
    rintro y mem _ new rfl
    exact fresh ((sub.map _).subset (List.mem_singleton.1 new ▸ mem))

/-! ### Every act -/

theorem takeHanded_table {α : Type} {sel : Handoff → Option α} {s t : State} {a : α}
    (taken : takeHanded sel s = some (a, t)) : t.table = s.table := by
  obtain ⟨-, rfl⟩ := takeHanded_eq_some.1 taken
  rfl

theorem fewerHeld_takeOnePlacement (p : RangePlacement) (s : State) : FewerHeld s (takeOnePlacement p s) := by
  unfold takeOnePlacement takePlacement
  have slot (t : State) : (if slotAt t p.handle = .asked p.identity then
      setSlot p.handle (.out p.identity p.cycle p.offset) t else t).table = t.table := by
    split <;> rfl
  rw [recordAt_takeEvent]
  cases record : recordAt s p.handle with
  | ranging y r =>
    dsimp only
    split
    · exact .setRecord _ (slot _) (.inr (by rw [record]; rfl))
    · exact fewerHeld_of_table (slot _)
  | _ => exact fewerHeld_of_table (slot _)

theorem tableLaws_act (a b : Point) (act : Act a b) (laws : TableLaws a.state) : TableLaws b.state := by
  cases act with
  | beside f =>
    exact laws.of_fewer ⟨fun h => .inr (by rw [identityAt, recordAt, f.records]; rfl), f.barred, f.contested⟩
  | claims h r x c => exact laws.claim c
  | contests h x holds none =>
    refine (laws.freed h).contest (laws.not_held_of_freed holds) fun mem => ?_
    exact laws.contestedNotHeld x mem h holds
  | barsHeld h x holds none unbarred room =>
    exact (laws.freed h).bar (laws.not_held_of_freed holds) (not_mem_barred unbarred)
  | bars x unheld unbarred room => exact laws.bar (not_held_of_holder unheld) (not_mem_barred unbarred)
  | empties emptied =>
    refine laws.of_fewer ⟨fun h => .inl ?_, emptied.barred, emptied.contested ▸ List.nil_sublist _⟩
    simp [identityAt, recordAt, emptied.records, Record.identity?]
  | rewrites h r follows => exact laws.of_fewer (.setRecord _ rfl follows.identity)
  | withdraws h => exact laws.of_fewer (fewerHeld_of_table (withdrawRequest_table h _))
  | messages m tag sourced => exact laws.of_fewer (fewerHeld_of_table (queueMessage_table m tag _))
  | takesPlacement p waits => exact laws.of_fewer (fewerHeld_takeOnePlacement p _)
  | takesOutcome h x o taken =>
    refine laws.of_fewer (fewerHeld_of_table ?_)
    rw [← takeHanded_table taken]
    exact (apply_ite State.table _ _ _).trans (ite_self _)
  | begins h x r record waits next =>
    exact laws.of_fewer ((FewerHeld.setRecord _ rfl (.inr (by rw [record]; rfl))).of_table rfl)
  | proceeds h x r samples attempts taken record attempting answered next =>
    exact laws.of_fewer ((FewerHeld.setRecord _ (takeHanded_table taken) (.inr (by rw [record]; rfl))).of_table rfl)
  | agrees h x r samples delay handed record attempting =>
    exact laws.of_fewer (.setRecord _ rfl (.inr (by rw [record]; rfl)))
  | passes | adds | pushes | asks | asksVerify | refuses | queues | placesRange | placesVerify | tries | keepsWaiting
  | picks | answers => exact laws.of_fewer (fewerHeld_of_table rfl)

end Sys2Proof.Machine

namespace Sys2Proof.Proofs
open Sys2Proof.Machine

/-- Settles O54: each act keeps the laws of the table (`tableLaws_act`), and CONFIGURE leaves the table. -/
theorem everyStepKeepsTheTableLaws : Obligations.EveryStepKeepsTheTableLaws := by
  intro s t laws done
  rcases goes_step done with run | ⟨rest, -, f, -, rfl⟩
  · exact run.keeps tableLaws_act laws
  · exact laws.of_fewer (fewerHeld_of_table rfl)

end Sys2Proof.Proofs
end

section
/-! The bounds of the lists and queues, and the discovery window clear of directed spans (R22, R24, R55, R57, R64, R69, R70, R73, R129,
R170, R184), kept by every act: an act adds no entry to the bounded lists, or it adds one as `Grows` says. -/

namespace Sys2Proof.Machine

/-! ### Acts that add no entry, and acts that add one -/

/-- No bounded list grows past its bound, and the lists without a bound of their own lose entries at most. -/
structure NoMore (s t : State) : Prop where
  barred : t.table.barred.Sublist s.table.barred
  contested : t.table.contested.Sublist s.table.contested
  outbound : s.link.outbound.length ≤ 128 → t.link.outbound.length ≤ 128
  backlog : s.builder.backlog.length ≤ 256 → t.builder.backlog.length ≤ 256
  events : s.host.events.length ≤ 64 → t.host.events.length ≤ 64
  stack : t.sched.stack.Sublist s.sched.stack
  placements : t.sched.placements.Sublist s.sched.placements
  spans : t.sched.spans.Sublist s.sched.spans
  directed : ∀ r, (directedIn r t.sched.calendar).Sublist (directedIn r s.sched.calendar)
  bursts : (∀ w ∈ s.sched.window, w.bursts ≤ 16) → ∀ w ∈ t.sched.window, w.bursts ≤ 16

/-- What the bounds are about. -/
def boundsView (s : State) :=
  (s.table.barred, s.table.contested, s.link.outbound, s.builder.backlog, s.host.events, s.sched)

theorem NoMore.of_view {s t : State} (same : boundsView t = boundsView s) : NoMore s t := by
  simp only [boundsView, Prod.mk.injEq] at same
  obtain ⟨barred, contested, outbound, backlog, events, sched⟩ := same
  constructor <;> simp [barred, contested, outbound, backlog, events, sched]

/-- An entry added to a bounded list, under the test that the model makes. -/
inductive Grows : State → State → Prop
  | span {s} (x : Span) (undirected : x.isDirected = false)
      (own : x.kind = .ownDiscovery → ∀ y ∈ s.sched.spans, y.isDirected = true → y.overlaps x = false)
      (quiet : ∀ p, x.kind = .peerQuiet p → quietSpansOf p s < 2) : Grows s (addSpan x s)
  | grant {s} (q : Request) (r : TreeCycle) (o : Nat) (g : DirectedGrant) (found : grantAt s q r o = some g) :
      Grows s (reserveGrant g s)
  | request {s} (q : Request) (alone : ∀ p ∈ s.sched.placements, p.handle ≠ q.handle) :
      Grows s { s with sched := { s.sched with placements := s.sched.placements ++ [q] } }
  | hold {s} (k : Hold) (absent : isHeld k s = false) :
      Grows s { s with sched := { s.sched with stack := s.sched.stack ++ [k] } }
  | barred {s} (x : Identity) (room : s.table.barred.length < 16) : Grows s (addBarred x s)
  | contested {s} (x : Identity) : Grows s (contest x s)

theorem boundsView_takeOnePlacement (p : RangePlacement) (s : State) :
    boundsView (takeOnePlacement p s) = boundsView s := by
  have slot (t : State) : boundsView (if slotAt t p.handle = .asked p.identity then
      setSlot p.handle (.out p.identity p.cycle p.offset) t else t) = boundsView t := by
    split <;> rfl
  unfold takeOnePlacement takePlacement
  dsimp only
  split
  · split
    · exact slot _
    · exact slot _
  all_goals exact slot _

theorem noMore_queueMessage (m : Message) (tag : Option Identity) (s : State) : NoMore s (queueMessage m tag s) := by
  refine { NoMore.of_view (s := s) (t := { queueMessage m tag s with builder := s.builder }) ?_ with
    backlog := queueMessage_backlog_le m tag s }
  rcases queueMessage_cases m tag s with ⟨-, e⟩ | ⟨-, e⟩
  · rw [e]
  · rw [e]
    rfl

theorem noMore_dropRequest (h : Handle) (s : State) : NoMore s (dropRequest h s) :=
  { NoMore.of_view (s := s) (t := s) rfl with placements := List.filter_sublist }

theorem noMore_withdrawRequest (h : Handle) (s : State) : NoMore s (withdrawRequest h s) := by
  unfold withdrawRequest
  split
  · exact { noMore_dropRequest h s with }
  · exact noMore_dropRequest h s

/-- A law that stands where no list grows, and where one grows under its test, is kept by every act. -/
theorem act_of_growth {law : State → Prop} (shrinks : ∀ s t, NoMore s t → law s → law t)
    (grows : ∀ s t, Grows s t → law s → law t) (a b : Point) (act : Act a b) (holds : law a.state) : law b.state := by
  have same {s t : State} (holds : law s) (e : boundsView t = boundsView s) : law t := shrinks s t (.of_view e) holds
  cases act with
  | beside f =>
    exact shrinks _ _ ⟨f.barred, f.contested, f.outbound, f.backlog.length_le.trans, f.events, f.stack,
      f.placements ▸ .refl _, f.spans, f.directed, f.bursts⟩ holds
  | messages m tag sourced => exact shrinks _ _ (noMore_queueMessage m tag _) holds
  | adds x undirected own quiet => exact grows _ _ (.span x undirected own quiet) holds
  | contests h x held none => exact grows _ _ (.contested x) (same holds rfl)
  | barsHeld h x held none unbarred room => exact grows _ _ (.barred x room) (same holds rfl)
  | bars x unheld unbarred room => exact grows _ _ (.barred x room) holds
  | pushes k absent => exact grows _ _ (.hold k absent) holds
  | withdraws h => exact shrinks _ _ (noMore_withdrawRequest h _) holds
  | empties e =>
    refine shrinks _ _ ⟨e.barred, e.contested ▸ List.nil_sublist _, fun _ => ?_, fun _ => ?_, e.events, ?_, ?_, ?_, ?_, ?_⟩ holds
    all_goals simp [e.outbound, e.backlog, e.sched, Scheduler.atReset, directedIn]
  | queues q alone => exact grows _ _ (.request q alone) holds
  | @placesRange _ _ s q e r o g wanted found alone => exact same (grows s _ (.grant q r o g found) holds) rfl
  | placesVerify q r o g wanted found => exact grows _ _ (.grant q r o g found) holds
  | picks q => exact shrinks _ _ (noMore_dropRequest q.handle _) holds
  | takesPlacement p waits => exact same holds (boundsView_takeOnePlacement p _)
  | takesOutcome h x o taken =>
    obtain ⟨-, rfl⟩ := takeHanded_eq_some.1 taken
    exact same holds ((apply_ite boundsView _ _ _).trans (ite_self _))
  | proceeds h x r samples attempts taken record attempting answered next =>
    obtain ⟨-, rfl⟩ := takeHanded_eq_some.1 taken
    exact same holds rfl
  | passes | rewrites | claims | asks | asksVerify | refuses | tries | keepsWaiting | answers | begins | agrees =>
    exact same holds rfl

/-! ### The bounds -/

theorem WithinBounds.of_noMore {s t : State} (n : NoMore s t) (bounds : WithinBounds s) : WithinBounds t where
  barred := n.barred.length_le.trans bounds.barred
  contested := n.contested.length_le.trans bounds.contested
  outbound := n.outbound bounds.outbound
  backlog := n.backlog bounds.backlog
  events := n.events bounds.events
  stack := bounds.stack.sublist n.stack
  requests := bounds.requests.sublist (n.placements.map _)
  directed := n.spans.countP_le.trans bounds.directed
  quiet := fun p => n.spans.countP_le.trans (bounds.quiet p)
  grants := fun r => (n.directed r).length_le.trans (bounds.grants r)
  bursts := n.bursts bounds.bursts

/-- A span added is counted with its kind. -/
theorem quietSpansOf_addSpan (p : Channel) (x : Span) (s : State) :
    quietSpansOf p (addSpan x s) = quietSpansOf p s + if x.kind = .peerQuiet p then 1 else 0 := by
  simp [quietSpansOf, addSpan, countP_insertSpan, List.countP_cons]

theorem directedSpans_addSpan (x : Span) (s : State) :
    directedSpans (addSpan x s) = directedSpans s + if x.isDirected then 1 else 0 := by
  simp [directedSpans, addSpan, countP_insertSpan, List.countP_cons]

/-- The span of a directed grant is directed. -/
theorem isDirected_directedSpan (c : Configuration) (q : Request) (r : TreeCycle) (o : Nat) :
    (directedSpan c q r o).isDirected = true := by
  unfold directedSpan
  cases q.wanted <;> rfl

theorem kind_of_isDirected {x : Span} (directed : x.isDirected = true) (p : Channel) : x.kind ≠ .peerQuiet p := by
  intro kind
  simp [Span.isDirected, kind] at directed

theorem WithinBounds.grant {s : State} {q : Request} {r : TreeCycle} {o : Nat} {g : DirectedGrant} (bounds : WithinBounds s)
    (found : grantAt s q r o = some g) : WithinBounds (reserveGrant g s) := by
  obtain ⟨rfl, perCycle, inAll, -⟩ := grantAt_spec found
  have directed := isDirected_directedSpan s.host.config q r o
  refine { bounds with directed := ?_, quiet := fun p => ?_, grants := fun r' => ?_ }
  · refine (directedSpans_addSpan _ _).trans_le ?_
    have : directedSpans s < 32 := inAll
    simp only [directed, if_true]
    exact this
  · refine (quietSpansOf_addSpan p _ _).trans_le ?_
    rw [if_neg (kind_of_isDirected directed p)]
    exact bounds.quiet p
  · have appended : directedIn r' (reserveGrant ⟨q.wanted.kind, q.handle, q.identity, r, o, directedSpan s.host.config q r o⟩
        s).sched.calendar = directedIn r' s.sched.calendar ++
          if r = r' then [⟨q.wanted.kind, q.handle, q.identity, r, o, directedSpan s.host.config q r o⟩] else [] := by
      by_cases e : r = r' <;> simp [reserveGrant, addSpan, directedIn, e]
    rw [directedCount, appended, List.length_append]
    split
    case isTrue e => subst e; exact perCycle
    case isFalse => exact bounds.grants r'

theorem WithinBounds.of_grows {s t : State} (grows : Grows s t) (bounds : WithinBounds s) : WithinBounds t := by
  cases grows with
  | span x undirected own quiet =>
    refine { bounds with directed := ?_, quiet := fun p => ?_ }
    · rw [directedSpans_addSpan, undirected]
      exact bounds.directed
    · rw [quietSpansOf_addSpan]
      split
      case isTrue kind => exact quiet p kind
      case isFalse => exact bounds.quiet p
  | grant q r o g found => exact bounds.grant found
  | request q alone =>
    refine { bounds with requests := ?_ }
    rw [List.map_append, List.nodup_append]
    refine ⟨bounds.requests, List.nodup_singleton _, ?_⟩
    rintro _ mem _ new rfl
    obtain ⟨p, waits, same⟩ := List.mem_map.1 mem
    exact alone p waits (same.trans (List.mem_singleton.1 new))
  | hold k absent =>
    refine { bounds with stack := List.nodup_append.2 ⟨bounds.stack, List.nodup_singleton k, ?_⟩ }
    rintro j mem _ new rfl
    obtain rfl := List.mem_singleton.1 new
    exact absurd mem (by simpa [isHeld] using absent)
  | barred x room => exact { bounds with barred := by simpa [addBarred] using room }
  | contested x =>
    refine { bounds with contested := ?_ }
    have := bounds.contested
    simp only [contest, List.length_append, List.length_singleton]
    split
    · omega
    · rw [List.length_tail]
      omega

/-! ### The discovery window -/

theorem overlaps_comm (a b : Span) : a.overlaps b = b.overlaps a :=
  Bool.and_comm _ _

theorem DiscoveryClear.addSpan {s : State} {x : Span} (clear : DiscoveryClear s)
    (own : x.kind = .ownDiscovery → ∀ y ∈ s.sched.spans, y.isDirected = true → x.overlaps y = false)
    (directed : x.isDirected = true → ∀ y ∈ s.sched.spans, y.kind = .ownDiscovery → y.overlaps x = false) :
    DiscoveryClear (addSpan x s) := by
  intro a memA b memB kind isDirected
  rcases (mem_insertSpan x a _).1 memA with rfl | oldA <;> rcases (mem_insertSpan _ b _).1 memB with rfl | oldB
  · simp [Span.isDirected, kind] at isDirected
  · exact own kind b oldB isDirected
  · exact directed isDirected a oldA kind
  · exact clear a oldA b oldB kind isDirected

theorem DiscoveryClear.of_noMore {s t : State} (n : NoMore s t) (clear : DiscoveryClear s) : DiscoveryClear t :=
  fun a memA b memB => clear a (n.spans.subset memA) b (n.spans.subset memB)

theorem DiscoveryClear.of_grows {s t : State} (grows : Grows s t) (clear : DiscoveryClear s) : DiscoveryClear t := by
  cases grows with
  | span x undirected own quiet =>
    refine clear.addSpan (fun kind y mem directed => ?_) fun directed => ?_
    · rw [overlaps_comm]
      exact own kind y mem directed
    · rw [undirected] at directed
      exact Bool.noConfusion directed
  | grant q r o g found =>
    obtain ⟨rfl, -, -, apart⟩ := grantAt_spec found
    have directed := isDirected_directedSpan s.host.config q r o
    refine DiscoveryClear.addSpan (s := { s with sched := _ }) clear (fun kind => ?_) fun _ y mem _ => ?_
    · exact absurd directed (by simp [Span.isDirected, show (directedSpan s.host.config q r o).kind = .ownDiscovery from kind])
    · rw [overlaps_comm]
      exact apart y mem
  | request | hold | barred | contested => exact clear

end Sys2Proof.Machine

namespace Sys2Proof.Proofs
open Sys2Proof.Machine

/-- Settles O55: each act adds no entry to a bounded list, or adds one under the test of its bound (`act_of_growth`). -/
theorem everyStepKeepsTheBounds : Obligations.EveryStepKeepsTheBounds := by
  have keeps {law : State → Prop} (shrinks : ∀ s t, NoMore s t → law s → law t) (grows : ∀ s t, Grows s t → law s → law t)
      (s t : State) (holds : law s) (done : step s = .next t) : law t := by
    rcases goes_step done with run | ⟨rest, -, f, -, rfl⟩
    · exact run.keeps (act_of_growth shrinks grows) holds
    · exact shrinks s _ (.of_view rfl) holds
  exact ⟨keeps (fun _ _ => .of_noMore) fun _ _ => .of_grows, keeps (fun _ _ => .of_noMore) fun _ _ => .of_grows⟩

end Sys2Proof.Proofs
end

section
/-! The bounds of the launch delays and of the tracking fields (R19, R115, R117, R118), kept by every act: what an act writes in a
record, a hand-off or the backlog has a source (`Sourced`, `TrackingFrom`, `Carried`) in the state before it. -/

namespace Sys2Proof.Machine

/-- Every delay and every tracking field of `t` has its source in `s`. -/
structure Flows (s t : State) : Prop where
  config : t.host.config = s.host.config
  records : ∀ h, recordAt t h = recordAt s h ∨
    ((∀ d ∈ (recordAt t h).launchDelay?, Sourced s d) ∧ ∀ f ∈ (recordAt t h).tracking?, TrackingFrom s f)
  backlog : ∀ q ∈ t.builder.backlog, q ∈ s.builder.backlog ∨ ∀ d ∈ q.delay?, Sourced s d
  handed : ∀ x ∈ t.handed, x ∈ s.handed ∨ Carried s x

theorem Flows.refl (s : State) : Flows s s :=
  ⟨rfl, fun _ => .inl rfl, fun _ => .inl, fun _ => .inl⟩

/-- What `Flows` is about. -/
def flowsView (s : State) :=
  (s.host.config, s.table.records, s.builder.backlog, s.handed)

theorem Flows.of_view {s t u : State} (f : Flows s t) (same : flowsView u = flowsView t) : Flows s u := by
  simp only [flowsView, Prod.mk.injEq] at same
  obtain ⟨config, records, backlog, handed⟩ := same
  have record (h : Handle) : recordAt u h = recordAt t h := by rw [recordAt, records]; rfl
  refine ⟨config.trans f.config, fun h => ?_, backlog ▸ f.backlog, handed ▸ f.handed⟩
  rw [record]
  exact f.records h

/-- The view as it was. -/
theorem flows_of_view {s t : State} (same : flowsView t = flowsView s) : Flows s t :=
  (Flows.refl s).of_view same

theorem Flows.setRecord {s t : State} (f : Flows s t) (h : Handle) {r : Record} (delay : ∀ d ∈ r.launchDelay?, Sourced s d)
    (tracking : ∀ g ∈ r.tracking?, TrackingFrom s g) : Flows s (setRecord h r t) where
  config := f.config
  records := fun g => by
    by_cases e : g = h
    · rw [e, recordAt_setRecord_self]
      exact .inr ⟨delay, tracking⟩
    · rw [recordAt_setRecord_ne _ _ e]
      exact f.records g
  backlog := f.backlog
  handed := f.handed

/-- A RANGING record has no tracking fields, and one without a new launch delay keeps its source. -/
theorem Flows.setRanging {s t : State} (f : Flows s t) (h : Handle) (x : Identity) {r : RangingFields}
    (delay : ∀ d ∈ r.launchDelay, Sourced s d) : Flows s (Machine.setRecord h (.ranging x r) t) :=
  f.setRecord h delay fun _ mem => nomatch mem

/-- A RANGING record written with the launch delay that it holds. -/
theorem Flows.keepsRanging {s t : State} (f : Flows s t) {h : Handle} {x : Identity} {r q : RangingFields}
    (record : recordAt s h = .ranging x r) (same : q.launchDelay = r.launchDelay) :
    Flows s (Machine.setRecord h (.ranging x q) t) :=
  f.setRanging h x fun d mem => by
    rw [same] at mem
    exact .inr (.inl ⟨h, by rw [record]; exact mem⟩)

theorem Flows.free {s t : State} (f : Flows s t) (h : Handle) : Flows s (Machine.setRecord h .free t) :=
  f.setRecord h (fun _ mem => nomatch mem) fun _ mem => nomatch mem

theorem Flows.withHanded {s t : State} (f : Flows s t) {handed : List Handoff}
    (sourced : ∀ x ∈ handed, x ∈ s.handed ∨ Carried s x) : Flows s { t with handed := handed } :=
  ⟨f.config, f.records, f.backlog, sourced⟩

theorem Flows.hand {s t : State} (f : Flows s t) {x : Handoff} (carried : Carried s x) : Flows s (hand x t) := by
  refine f.withHanded fun y mem => ?_
  rcases List.mem_append.1 mem with old | new
  · exact f.handed y old
  · exact .inr (List.mem_singleton.1 new ▸ carried)

theorem flows_takeHanded {α : Type} {sel : Handoff → Option α} {s t : State} {a : α}
    (taken : takeHanded sel s = some (a, t)) : Flows s t := by
  obtain ⟨-, rfl⟩ := takeHanded_eq_some.1 taken
  exact (Flows.refl s).withHanded fun x mem => .inl (List.mem_of_mem_eraseP mem)

theorem flows_queueMessage {m : Message} {s : State} (tag : Option Identity) (sourced : ∀ h d, m = .setDelay h d → Sourced s d) :
    Flows s (queueMessage m tag s) := by
  refine ⟨by simp, fun h => .inl (by simp), fun q mem => ?_, fun x mem => .inl (by simpa using mem)⟩
  rcases queueMessage_cases m tag s with ⟨-, e⟩ | ⟨-, e⟩
  · rw [e] at mem
    rcases List.mem_append.1 mem with old | new
    · exact .inl old
    · obtain rfl := List.mem_singleton.1 new
      refine .inr fun d carries => ?_
      cases m with
      | setDelay h delay => exact sourced h d (by rw [Option.some.inj carries])
      | assign | retune | drop | tune => exact nomatch carries
  · rw [e] at mem
    exact .inl mem

theorem flows_takeOnePlacement (p : RangePlacement) (s : State) : Flows s (takeOnePlacement p s) := by
  have taken : Flows s (takeEvent p.handoff s) :=
    (Flows.refl s).withHanded fun x mem => .inl (List.mem_of_mem_erase mem)
  unfold takeOnePlacement takePlacement
  have slot (t : State) : flowsView (if slotAt t p.handle = .asked p.identity then
      setSlot p.handle (.out p.identity p.cycle p.offset) t else t) = flowsView t := by
    split <;> rfl
  rw [recordAt_takeEvent]
  cases record : recordAt s p.handle with
  | ranging y r =>
    dsimp only
    split
    · exact (taken.of_view (slot _)).keepsRanging record rfl
    · exact taken.of_view (slot _)
  | _ => exact taken.of_view (slot _)

/-- The delay of an agreement keeps R19's bound (R106). -/
theorem delay_of_rangingOutcome {c : Configuration} {attempts : Nat} {old : List Int} {sample : Option Int} (h : Handle)
    (x : Identity) : ∀ d ∈ (Handoff.outcome h x (rangingOutcome c attempts old sample)).delay?, d ≤ launchBound c := by
  have plain (a : Nat) (l : List Int) : (Handoff.outcome h x (outcomeWithoutAgreement a l)).delay? = none := by
    unfold outcomeWithoutAgreement
    split
    · rfl
    · split <;> rfl
  have bounded (q1 q2 : Int) : (launchDelayOf c q1 q2).toNat ≤ launchBound c := by
    have : 0 ≤ loopDelayOf q1 q2 := Int.le_max_left _ _
    simp only [launchDelayOf, launchBound]
    omega
  intro d carries
  unfold rangingOutcome at carries
  split at carries
  · split at carries
    · split at carries
      · exact Option.some.inj carries ▸ bounded _ _
      · exact nomatch carries
    · rw [plain] at carries
      exact nomatch carries
  all_goals
    rw [plain] at carries
    exact nomatch carries

/-- Each act but the pin and RESTART takes what it writes from a source. -/
theorem flows_act (a b : Point) (act : Act a b) : Flows a.state b.state ∨ Emptied a.state b.state := by
  cases act with
  | empties emptied => exact .inr emptied
  | beside f =>
    exact .inl ⟨f.config, fun h => .inl (by rw [recordAt, f.records]; rfl), fun q mem => .inl (f.backlog.subset mem),
      fun x mem => .inl (f.handed ▸ mem)⟩
  | passes handed carried same => exact .inl ((Flows.refl _).withHanded carried)
  | messages m tag sourced => exact .inl (flows_queueMessage tag sourced)
  | rewrites h r follows => exact .inl ((Flows.refl _).setRecord h follows.delay follows.tracking)
  | claims h r x c =>
    refine .inl ((Flows.refl _).setRecord h (fun d mem => .inl (c.delay d mem)) fun g mem => ?_)
    rw [c.untracked] at mem
    exact nomatch mem
  | contests h | barsHeld h => exact .inl (((Flows.refl _).free h).of_view rfl)
  | withdraws h => exact .inl (flows_of_view (by simp [flowsView]))
  | placesRange q e r o g =>
    refine .inl (Flows.hand (flows_of_view ?_) ⟨?_, ?_⟩)
    · rfl
    · exact fun _ mem => nomatch mem
    · exact fun _ _ _ _ e => nomatch e
  | takesPlacement p waits => exact .inl (flows_takeOnePlacement p _)
  | answers h x =>
    refine .inl (Flows.hand (flows_of_view ?_) ⟨?_, ?_⟩)
    · rfl
    · exact fun d mem => .inl (delay_of_rangingOutcome h x d mem)
    · exact fun _ _ _ _ e => nomatch e
  | takesOutcome h x o taken =>
    exact .inl ((flows_takeHanded taken).of_view ((apply_ite flowsView _ _ _).trans (ite_self _)))
  | begins h x r record waits next =>
    refine .inl (Flows.of_view (Flows.withHanded ((Flows.refl _).keepsRanging record ?_) fun y mem => ?_) rfl)
    · rfl
    · exact .inl (List.mem_of_mem_filter mem)
  | proceeds h x r samples attempts taken record attempting answered next =>
    refine .inl (Flows.of_view ((flows_takeHanded taken).keepsRanging record ?_) rfl)
    rfl
  | agrees h x r samples delay handed record attempting =>
    refine .inl ((Flows.refl _).setRanging h x fun d mem => ?_)
    obtain rfl := Option.some.inj mem
    exact .inr (.inr (.inl ⟨_, handed, rfl⟩))
  | adds | bars | pushes | asks | asksVerify | refuses | queues | placesVerify | tries | keepsWaiting | picks =>
    exact .inl (flows_of_view rfl)

/-! ### The launch delays -/

/-- Every launch delay in the state keeps R19's bound: `DelayLaw` without the quiet of the part. -/
def DelaysWithin (s : State) : Prop :=
  ∀ d, Sourced s d → d ≤ launchBound s.host.config

theorem DelayLaw.within {s : State} (law : DelayLaw s) : DelaysWithin s := by
  rintro d (bound | ⟨h, mem⟩ | ⟨x, handed, mem⟩ | ⟨q, queued, mem⟩)
  · exact bound
  · exact law.records h d mem
  · exact law.handed x handed d mem
  · exact law.backlog q queued d mem

theorem DelaysWithin.law {s : State} (quiet : QuietLaw s) (within : DelaysWithin s) : DelayLaw s where
  quiet := quiet
  records := fun h d mem => within d (.inr (.inl ⟨h, mem⟩))
  handed := fun x handed d mem => within d (.inr (.inr (.inl ⟨x, handed, mem⟩)))
  backlog := fun q queued d mem => within d (.inr (.inr (.inr ⟨q, queued, mem⟩)))

theorem DelaysWithin.of_flows {s t : State} (within : DelaysWithin s) (f : Flows s t) : DelaysWithin t := by
  have bounded (d : Nat) (sourced : Sourced s d) : d ≤ launchBound t.host.config := f.config ▸ within d sourced
  rintro d (bound | ⟨h, mem⟩ | ⟨x, handed, mem⟩ | ⟨q, queued, mem⟩)
  · exact bound
  · rcases f.records h with same | ⟨delay, -⟩
    · exact bounded d (.inr (.inl ⟨h, same ▸ mem⟩))
    · exact bounded d (delay d mem)
  · rcases f.handed x handed with old | carried
    · exact bounded d (.inr (.inr (.inl ⟨x, old, mem⟩)))
    · exact bounded d (carried.delay d mem)
  · rcases f.backlog q queued with old | sourced
    · exact bounded d (.inr (.inr (.inr ⟨q, old, mem⟩)))
    · exact bounded d (sourced d mem)

/-- With no record, no hand-off and no message no delay is out of bounds. -/
theorem delaysWithin_of_empty {s : State} (records : s.table.records = Vector.replicate 128 .free) (handed : s.handed = [])
    (backlog : s.builder.backlog = []) : DelaysWithin s := by
  rintro d (bound | ⟨h, mem⟩ | ⟨x, mem, -⟩ | ⟨q, mem, -⟩)
  · exact bound
  · simp [recordAt, records, Record.launchDelay?] at mem
  · simp [handed] at mem
  · simp [backlog] at mem

theorem delaysWithin_act (a b : Point) (act : Act a b) (within : DelaysWithin a.state) : DelaysWithin b.state := by
  rcases flows_act a b act with f | e
  · exact within.of_flows f
  · exact delaysWithin_of_empty e.records e.handed e.backlog

/-! ### The tracking fields -/

/-- The runs and the drift sums keep their bounds: `TrackingLaw` without the quiet of the part. -/
structure TracksWithin (s : State) : Prop where
  config : ConfigWithin s.host.config
  records : ∀ h : Handle, ∀ t ∈ (recordAt s h).tracking?, TrackingWithin s.host.config t
  handed : ∀ x ∈ s.handed, x.trackingWithin s.host.config

/-- The result of an input against tracking fields within their bounds (R115 to R118). -/
theorem within_of_trackerResult {c : Configuration} {time : Timebase} {f : Tracking} {kind : TrackerInputKind} {r : TrackerResult}
    (within : TrackingWithin c f) (computed : trackerResult c time f kind = some r) : r.within c := by
  have aligned (e : Int) (settled : f.correctionPending = false) (near : isMisaligned e = false) :
      (alignedResult c time.localCount f e).within c := by
    have sum := within.settled settled
    have error : e.natAbs ≤ 256 := by simpa [isMisaligned] using near
    simp only [alignedResult, correctionFor]
    split
    case isTrue below => exact below
    case isFalse =>
      change (f.drift - f.drift / 8 + e).natAbs ≤ driftLimit c + 255
      omega
  cases kind with
  | burst grant g q =>
    simp only [trackerResult] at computed
    split at computed
    · exact nomatch computed
    case isFalse open' =>
      simp only [Bool.or_eq_true, not_or, Bool.not_eq_true] at open'
      split at computed
      · obtain rfl := Option.some.inj computed
        split <;> trivial
      case isFalse near =>
        obtain rfl := Option.some.inj computed
        exact aligned _ open'.1 (by simpa using near)
  | missing grant =>
    simp only [trackerResult] at computed
    split at computed
    · exact nomatch computed
    · obtain rfl := Option.some.inj computed
      split
      case isTrue below => exact below
      case isFalse => trivial
  | entrySample e =>
    simp only [trackerResult] at computed
    split at computed
    · exact nomatch computed
    case isFalse open' =>
      simp only [Bool.or_eq_true, not_or, Bool.not_eq_true] at open'
      obtain rfl := Option.some.inj computed
      exact aligned e open'.1 open'.2

theorem TracksWithin.of_source {s : State} {f : Tracking} (laws : TracksWithin s) (source : TrackingFrom s f) :
    TrackingWithin s.host.config f := by
  have missing := laws.config.missingLimit.1
  have drift := laws.config.driftThreshold.1
  have settled : f.drift.natAbs ≤ driftLimit s.host.config + 255 ∧
      (f.correctionPending = false → f.drift.natAbs < driftLimit s.host.config) := by
    rcases source.drift with zero | ⟨h, g, mem, same, pending⟩ | ⟨h, x, found, good, mem⟩ | ⟨h, x, found, good, k, pending, mem⟩
    · rw [zero, driftLimit]
      omega
    · rw [same, pending]
      exact ⟨(laws.records h g mem).drift, (laws.records h g mem).settled⟩
    · have below : f.drift.natAbs < driftLimit s.host.config := laws.handed _ mem
      exact ⟨by omega, fun _ => below⟩
    · exact ⟨laws.handed _ mem, fun no => absurd (pending.symm.trans no) (by decide)⟩
  refine ⟨?_, ?_, settled.1, settled.2⟩
  · rcases source.missingRun with zero | ⟨h, g, mem, same⟩ | ⟨h, x, found, mem⟩
    · omega
    · rw [same]
      exact (laws.records h g mem).missingRun
    · exact laws.handed _ mem
  · rcases source.misalignedRun with one | ⟨h, g, mem, same⟩
    · exact one
    · rw [same]
      exact (laws.records h g mem).misalignedRun

theorem TracksWithin.of_carried {s : State} {x : Handoff} (laws : TracksWithin s) (carried : Carried s x) :
    x.trackingWithin s.host.config := by
  cases x with
  | tracked h y found r =>
    obtain ⟨g, f, mem, kind, computed⟩ := carried.tracked h y found r rfl
    exact within_of_trackerResult (laws.records g f mem) computed
  | notice | hearing | crossHeard | rangeResult | verification | trackerInput | outcome | placed | delivered => trivial

theorem TracksWithin.of_flows {s t : State} (laws : TracksWithin s) (f : Flows s t) : TracksWithin t where
  config := f.config ▸ laws.config
  records := fun h g mem => by
    rw [f.config]
    rcases f.records h with same | ⟨-, source⟩
    · exact laws.records h g (same ▸ mem)
    · exact laws.of_source (source g mem)
  handed := fun x mem => by
    rw [f.config]
    rcases f.handed x mem with old | carried
    · exact laws.handed x old
    · exact laws.of_carried carried

theorem tracksWithin_of_empty {s : State} (config : ConfigWithin s.host.config)
    (records : s.table.records = Vector.replicate 128 .free) (handed : s.handed = []) : TracksWithin s where
  config := config
  records := fun h g mem => by simp [recordAt, records, Record.tracking?] at mem
  handed := fun x mem => by simp [handed] at mem

theorem tracksWithin_act (a b : Point) (act : Act a b) (laws : TracksWithin a.state) : TracksWithin b.state := by
  rcases flows_act a b act with f | e
  · exact laws.of_flows f
  · refine tracksWithin_of_empty ?_ e.records e.handed
    rcases e.config with same | defaults
    · exact same ▸ laws.config
    · exact defaults ▸ configWithin_defaults

/-- CONFIGURE is taken in INIT, where the quiet of the part leaves no record, no hand-off and no message. -/
theorem Configured.quiet {s t : State} (c : Configured s t) (quiet : QuietLaw s) : QuietOutsideRunning s :=
  quiet fun run => nomatch c.1.symm.trans run

theorem quietLaw_of_pending {s : State} {rest : List Instr} (quiet : QuietLaw s) : QuietLaw { s with pending := rest } :=
  fun idle => ⟨(quiet idle).records, (quiet idle).contested, (quiet idle).sched, (quiet idle).issued, (quiet idle).slots,
    (quiet idle).outbound, (quiet idle).silent, (quiet idle).lanes, (quiet idle).backlog, (quiet idle).reservations,
    (quiet idle).handed, (quiet idle).owed⟩

end Sys2Proof.Machine

namespace Sys2Proof.Proofs
open Sys2Proof.Machine

/-- Settles O59: each act takes its delays and tracking fields from a source within the bounds (`flows_act`); CONFIGURE finds a quiet
part. -/
theorem everyStepKeepsTheDelayAndTrackingLaws : Obligations.EveryStepKeepsTheDelayAndTrackingLaws := by
  refine ⟨fun s t law done => ?_, fun s t law done => ?_⟩
  · refine DelaysWithin.law ((keepsLaws_step done).quiet law.quiet) ?_
    rcases goes_step done with run | ⟨rest, configured⟩
    · exact run.keeps delaysWithin_act law.within
    · have idle := configured.quiet (quietLaw_of_pending law.quiet)
      obtain ⟨-, f, -, rfl⟩ := configured
      exact delaysWithin_of_empty idle.records idle.handed idle.backlog
  · suffices within : TracksWithin t from
      ⟨(keepsLaws_step done).quiet law.quiet, within.config, within.records, within.handed⟩
    rcases goes_step done with run | ⟨rest, configured⟩
    · exact run.keeps tracksWithin_act ⟨law.config, law.records, law.handed⟩
    · have idle := configured.quiet (quietLaw_of_pending law.quiet)
      obtain ⟨-, f, accepted, rfl⟩ := configured
      exact tracksWithin_of_empty (configWithin_of_accepted accepted) idle.records idle.handed

end Sys2Proof.Proofs
end

section
/-! What is in flight for a ranging sequence (R97, R100, R104): rules for `AttemptsWithin`, and what changes to the hand-offs and the
requests do to it. -/

namespace Sys2Proof.Machine

/-! ### What the law of the attempts reads -/

/-- The slot, the placements and the outcomes of a handle as they were. -/
structure SameFlight (h : Handle) (s t : State) : Prop where
  slot : slotAt t h = slotAt s h
  asked : placementsAsked t h = placementsAsked s h
  outcomes : outcomesHanded t h = outcomesHanded s h
  placed : t.handed.filterMap (placementFor h) = s.handed.filterMap (placementFor h)

/-- A RANGE request of a handle. -/
def Request.rangesFor (h : Handle) (q : Request) : Bool :=
  q.handle == h && q.isRange

theorem placementsAsked_eq (s : State) (h : Handle) : placementsAsked s h =
    s.sched.placements.countP (Request.rangesFor h) + (s.handed.filterMap (placementFor h)).length := by
  rw [List.length_filterMap_eq_countP]
  rfl

theorem sameFlight_of {h : Handle} {s t : State} (slot : slotAt t h = slotAt s h)
    (waiting : t.sched.placements.countP (Request.rangesFor h) = s.sched.placements.countP (Request.rangesFor h))
    (placed : t.handed.filterMap (placementFor h) = s.handed.filterMap (placementFor h))
    (outcomes : t.handed.filterMap (outcomeFor h) = s.handed.filterMap (outcomeFor h)) : SameFlight h s t :=
  ⟨slot, by rw [placementsAsked_eq, placementsAsked_eq, waiting, placed], outcomes, placed⟩

theorem attemptsWithin_attempting {s : State} {h : Handle} {x : Identity} {r : RangingFields} (stage : r.stage = .attempting) :
    AttemptsWithin s h x r ↔ r.attempts ≤ 4 ∧ r.samples.length ≤ r.attempts ∧ SlotSays s h x r ∧
      ∀ p ∈ s.handed.filterMap (placementFor h), p.1 = x := by
  simp only [AttemptsWithin, stage]
  constructor
  · rintro ⟨attempts, -, rest⟩
    exact ⟨attempts, rest⟩
  · rintro ⟨attempts, samples, rest⟩
    exact ⟨attempts, samples.trans attempts, samples, rest⟩

theorem attemptsWithin_of_unbegun {s : State} {h : Handle} {x : Identity} {r : RangingFields} (stage : r.stage = .awaitAssign)
    (attempts : r.attempts = 0) (samples : r.samples = []) : AttemptsWithin s h x r := by
  simp [AttemptsWithin, stage, attempts, samples]

/-- Only a record in ATTEMPTING has something in flight. -/
theorem AttemptsWithin.of_not_attempting {s t : State} {h : Handle} {x : Identity} {r : RangingFields}
    (within : AttemptsWithin s h x r) (stage : r.stage ≠ .attempting) : AttemptsWithin t h x r := by
  unfold AttemptsWithin at within ⊢
  cases at' : r.stage with
  | attempting => exact absurd at' stage
  | awaitAssign | awaitSetDelay => simpa only [at'] using within

theorem AttemptsWithin.of_same {s t : State} {h : Handle} {x : Identity} {r : RangingFields} (same : SameFlight h s t)
    (within : AttemptsWithin s h x r) : AttemptsWithin t h x r := by
  unfold AttemptsWithin SlotSays at within ⊢
  rw [same.slot, same.asked, same.outcomes, same.placed]
  exact within

/-! ### What the slot says -/

/-- A placement under way: the slot is ASKED, and one is all (R97). -/
theorem SlotSays.asked {s : State} {h : Handle} {x : Identity} {r : RangingFields} (tells : SlotSays s h x r)
    (some : placementsAsked s h ≠ 0) :
    slotAt s h = .asked x ∧ placementsAsked s h = 1 ∧ outcomesHanded s h = [] ∧ r.attempts ≤ 3 := by
  unfold SlotSays at tells
  split at tells
  · exact absurd tells.1 some
  case h_2 slot =>
    obtain ⟨rfl, rest⟩ := tells
    exact ⟨slot, rest⟩
  · exact absurd tells.2.1 some
  · exact absurd tells.2.1 some

/-- An outcome handed: the slot is ANSWERED, and it is the one outcome (R97). -/
theorem SlotSays.answered {s : State} {h : Handle} {x y : Identity} {r : RangingFields} {o : RangingOutcome}
    (tells : SlotSays s h x r) (handed : (y, o) ∈ outcomesHanded s h) :
    slotAt s h = .answered x ∧ placementsAsked s h = 0 ∧ outcomesHanded s h = [(x, o)] ∧ y = x ∧ o.within := by
  unfold SlotSays at tells
  split at tells
  · simp [tells.2] at handed
  · simp [tells.2.2.1] at handed
  · simp [tells.2.2.1] at handed
  case h_4 slot =>
    obtain ⟨rfl, none, p, outcomes, within⟩ := tells
    rw [outcomes] at handed
    obtain ⟨rfl, rfl⟩ := Prod.mk.inj (List.mem_singleton.1 handed)
    exact ⟨slot, none, outcomes, rfl, within⟩

theorem SlotSays.idle {s : State} {h : Handle} {x : Identity} {r : RangingFields} (tells : SlotSays s h x r)
    (slot : slotAt s h = .idle) : placementsAsked s h = 0 ∧ outcomesHanded s h = [] := by
  simpa only [SlotSays, slot] using tells

theorem SlotSays.out {s : State} {h : Handle} {x y : Identity} {cycle : TreeCycle} {offset : Nat} {r : RangingFields}
    (tells : SlotSays s h x r) (slot : slotAt s h = .out y cycle offset) :
    y = x ∧ placementsAsked s h = 0 ∧ outcomesHanded s h = [] ∧ r.samples.length < r.attempts := by
  simpa only [SlotSays, slot] using tells

/-- With no placement asked for, none is handed. -/
theorem placed_nil {s : State} {h : Handle} (none : placementsAsked s h = 0) : s.handed.filterMap (placementFor h) = [] := by
  rw [placementsAsked_eq] at none
  exact List.length_eq_zero_iff.1 (by omega)

/-! ### The outcome of a sequence within its bounds -/

theorem outcomeWithoutAgreement_within {attempts : Nat} {samples : List Int} (fits : samples.length ≤ attempts) :
    (outcomeWithoutAgreement attempts samples).within := by
  unfold outcomeWithoutAgreement
  split
  case isTrue few => exact ⟨fits, by omega⟩
  case isFalse => split <;> trivial

theorem rangingOutcome_within {c : Configuration} {attempts : Nat} {old : List Int} {sample : Option Int}
    (fits : old.length < attempts) (few : attempts ≤ 4) : (rangingOutcome c attempts old sample).within := by
  have joined (q : Int) : (old ++ [q]).length ≤ attempts := by
    simpa using fits
  unfold rangingOutcome
  split
  · split
    · split
      · exact (joined _).trans few
      · trivial
    · exact outcomeWithoutAgreement_within (joined _)
  · exact outcomeWithoutAgreement_within (joined _)
  · exact outcomeWithoutAgreement_within fits.le

/-! ### Hand-offs taken -/

theorem filterMap_eraseP_of_apart {α : Type} {f : Handoff → Option α} {p : Handoff → Bool} (apart : ∀ x, p x = true → f x = none)
    (xs : List Handoff) : (xs.eraseP p).filterMap f = xs.filterMap f := by
  induction xs with
  | nil => rfl
  | cons x xs ih =>
    cases selected : p x with
    | true => simp [selected, apart x selected]
    | false => simp [selected, List.filterMap_cons, ih]

theorem filterMap_eraseP_self {α : Type} (f : Handoff → Option α) (xs : List Handoff) :
    (xs.eraseP fun x => (f x).isSome).filterMap f = (xs.filterMap f).tail := by
  induction xs with
  | nil => rfl
  | cons x xs ih =>
    cases read : f x with
    | none => simp [read, ih]
    | some a => simp [read]

theorem outcomeFor_of_placement {h g : Handle} {x : Handoff} (placed : (placementFor h x).isSome = true) : outcomeFor g x = none := by
  cases x with
  | placed => rfl
  | _ => exact nomatch placed

theorem placementFor_of_outcome {h g : Handle} {x : Handoff} (outcome : (outcomeFor h x).isSome = true) : placementFor g x = none := by
  cases x with
  | outcome => rfl
  | _ => exact nomatch outcome

theorem outcomeFor_of_ne {g h : Handle} (ne : g ≠ h) {x : Handoff} (outcome : (outcomeFor h x).isSome = true) :
    outcomeFor g x = none := by
  cases x with
  | outcome k y o =>
    simp only [outcomeFor, Option.isSome_ite] at outcome
    simp [outcomeFor, outcome, ne.symm]
  | _ => exact nomatch outcome

theorem placementFor_of_ne {g h : Handle} (ne : g ≠ h) {x : Handoff} (placed : (placementFor h x).isSome = true) :
    placementFor g x = none := by
  cases x with
  | placed k y c o =>
    simp only [placementFor, Option.isSome_ite] at placed
    simp [placementFor, placed, ne.symm]
  | _ => exact nomatch placed

/-- What is in flight for another handle stays when an outcome is taken. -/
theorem outcomes_of_takeHanded {g h : Handle} (ne : g ≠ h) (xs : List Handoff) :
    (xs.eraseP fun x => (outcomeFor h x).isSome).filterMap (outcomeFor g) = xs.filterMap (outcomeFor g) :=
  filterMap_eraseP_of_apart (fun _ => outcomeFor_of_ne ne) xs

theorem placements_of_takeHanded (g h : Handle) (xs : List Handoff) :
    (xs.eraseP fun x => (outcomeFor h x).isSome).filterMap (placementFor g) = xs.filterMap (placementFor g) :=
  filterMap_eraseP_of_apart (fun _ => placementFor_of_outcome) xs

/-- What is in flight for another handle stays when a sequence begins anew. -/
theorem apart_of_ofEarlierSequence {g h : Handle} (ne : g ≠ h) {x : Handoff} (kept : (!ofEarlierSequence h x) = false) :
    outcomeFor g x = none ∧ placementFor g x = none := by
  have either : (outcomeFor h x).isSome = true ∨ (placementFor h x).isSome = true := by
    rwa [ofEarlierSequence, Bool.not_eq_false', Bool.or_eq_true] at kept
  rcases either with outcome | placed
  · exact ⟨outcomeFor_of_ne ne outcome, placementFor_of_outcome outcome⟩
  · exact ⟨outcomeFor_of_placement placed, placementFor_of_ne ne placed⟩

end Sys2Proof.Machine
end

section
/-! The law of the attempts at each point of a command's run (R15, R70, R97, R100, R104): the requests made and not yet met are counted
with the waiting ones. -/

namespace Sys2Proof.Machine

/-- The state with the requests made and not yet met at the end of the placement queue. -/
def whole (u : List Request) (s : State) : State :=
  { s with sched := { s.sched with placements := s.sched.placements ++ u } }

@[simp] theorem whole_nil (s : State) : whole [] s = s := by
  simp [whole]

@[simp] theorem whole_placements (u : List Request) (s : State) : (whole u s).sched.placements = s.sched.placements ++ u :=
  rfl

@[simp] theorem whole_handed (u : List Request) (s : State) : (whole u s).handed = s.handed :=
  rfl

@[simp] theorem slotAt_whole (u : List Request) (s : State) (h : Handle) : slotAt (whole u s) h = slotAt s h :=
  rfl

@[simp] theorem outcomesHanded_whole (u : List Request) (s : State) (h : Handle) :
    outcomesHanded (whole u s) h = outcomesHanded s h :=
  rfl

/-- `AttemptLaws` at a point of a command's run, without the quiet of the part. -/
structure Attempting (u l : List Request) (s : State) : Prop where
  handles : (s.sched.placements.map Request.handle).Nodup
  trying : l.Sublist s.sched.placements
  requests : ∀ q ∈ s.sched.placements ++ u, requestStands s q
  attempts : ∀ (h : Handle) (x : Identity) (r : RangingFields), recordAt s h = .ranging x r → AttemptsWithin (whole u s) h x r

/-! ### The requests of a record -/

theorem requestStands_of_record {s t : State} {q : Request} (same : recordAt t q.handle = recordAt s q.handle)
    (stands : requestStands s q) : requestStands t q := by
  unfold requestStands at stands ⊢
  rwa [same]

/-- A request for a RANGING record asks for RANGE, and the record waits for it. -/
theorem ranging_of_requestStands {s : State} {q : Request} {x : Identity} {r : RangingFields} (stands : requestStands s q)
    (record : recordAt s q.handle = .ranging x r) : q.isRange = true ∧ x = q.identity ∧ r.stage = .attempting := by
  unfold requestStands at stands
  cases wanted : q.wanted with
  | range e =>
    rw [wanted, record] at stands
    exact ⟨by rw [Request.isRange, wanted], stands⟩
  | verify =>
    rw [wanted, record] at stands
    exact stands.elim

theorem requestStands_of_ranging {s : State} {q : Request} {x : Identity} {r : RangingFields} {e : Int}
    (wanted : q.wanted = .range e) (record : recordAt s q.handle = .ranging x r) (own : x = q.identity)
    (stage : r.stage = .attempting) : requestStands s q := by
  unfold requestStands
  rw [wanted, record]
  exact ⟨own, stage⟩

theorem record_of_range {s : State} {q : Request} {e : Int} (wanted : q.wanted = .range e) (stands : requestStands s q) :
    ∃ r, recordAt s q.handle = .ranging q.identity r ∧ r.stage = .attempting := by
  unfold requestStands at stands
  cases record : recordAt s q.handle with
  | ranging x r =>
    rw [wanted, record] at stands
    exact ⟨r, by rw [stands.1], stands.2⟩
  | _ =>
    rw [wanted, record] at stands
    exact stands.elim

variable {u l : List Request} {s : State}

/-- A record that is RANGING and not in ATTEMPTING has no request. -/
theorem Attempting.no_request_of_stage (law : Attempting u l s) {h : Handle} {x : Identity} {r : RangingFields}
    (record : recordAt s h = .ranging x r) (stage : r.stage ≠ .attempting) :
    ∀ q ∈ s.sched.placements ++ u, q.handle ≠ h := by
  rintro q mem rfl
  exact stage (ranging_of_requestStands (law.requests q mem) record).2.2

/-- A RANGING record for which no RANGE request is counted has no request. -/
theorem Attempting.no_request_of_asked (law : Attempting u l s) {h : Handle} {x : Identity} {r : RangingFields}
    (record : recordAt s h = .ranging x r) (none : placementsAsked (whole u s) h = 0) :
    ∀ q ∈ s.sched.placements ++ u, q.handle ≠ h := by
  rintro q mem rfl
  rw [placementsAsked_eq, Nat.add_eq_zero_iff] at none
  have counted : (s.sched.placements ++ u).countP (Request.rangesFor q.handle) = 0 := none.1
  refine List.countP_eq_zero.1 counted q mem ?_
  simp [Request.rangesFor, (ranging_of_requestStands (law.requests q mem) record).1]

theorem countP_rangesFor_eq_zero {h : Handle} {qs : List Request} (none : ∀ q ∈ qs, q.handle ≠ h) :
    qs.countP (Request.rangesFor h) = 0 :=
  List.countP_eq_zero.2 fun q mem => by simp [Request.rangesFor, none q mem]

/-! ### Changes that keep the law -/

/-- Nothing changes in any record, and nothing in flight. -/
theorem Attempting.keep {u' l' : List Request} {t : State} (law : Attempting u l s)
    (handles : (t.sched.placements.map Request.handle).Nodup) (trying : l'.Sublist t.sched.placements)
    (requests : ∀ q ∈ t.sched.placements ++ u', q ∈ s.sched.placements ++ u ∨ requestStands s q)
    (records : ∀ h, recordAt t h = recordAt s h) (flight : ∀ h, SameFlight h (whole u s) (whole u' t)) : Attempting u' l' t where
  handles := handles
  trying := trying
  requests := fun q mem => requestStands_of_record (records _) ((requests q mem).elim (law.requests q) id)
  attempts := fun h x r record => .of_same (flight h) (law.attempts h x r (records h ▸ record))

/-- The requests, the slots, the hand-offs and the records as they were. -/
theorem Attempting.plain {t : State} (law : Attempting u l s) (placements : t.sched.placements = s.sched.placements)
    (slots : t.slots = s.slots) (records : t.table.records = s.table.records)
    (handed : t.handed.filter Handoff.ofSequence = s.handed.filter Handoff.ofSequence) : Attempting u l t := by
  have read {α : Type} {f : Handoff → Option α} (apart : ∀ x, x.ofSequence = false → f x = none) :
      t.handed.filterMap f = s.handed.filterMap f := by
    rw [← filterMap_filter_of_apart apart t.handed, handed, filterMap_filter_of_apart apart]
  refine law.keep (placements ▸ law.handles) (placements ▸ law.trying) (fun q mem => .inl (placements ▸ mem))
    (fun h => by rw [recordAt, records]; rfl) fun h => sameFlight_of ?_ ?_ (read ?_) (read ?_)
  · show t.slots[h] = s.slots[h]
    rw [slots]
  · show (t.sched.placements ++ u).countP _ = (s.sched.placements ++ u).countP _
    rw [placements]
  · intro x other
    cases x with
    | placed => exact nomatch other
    | _ => rfl
  · intro x other
    cases x with
    | outcome => exact nomatch other
    | _ => rfl

/-- The record, the slot and what is in flight change for one handle. -/
theorem Attempting.at {u' : List Request} {t : State} (law : Attempting u l s) (h : Handle)
    (handles : (t.sched.placements.map Request.handle).Nodup) (trying : l.Sublist t.sched.placements)
    (requests : ∀ q ∈ t.sched.placements ++ u', (q.handle ≠ h ∧ q ∈ s.sched.placements ++ u) ∨ requestStands t q)
    (records : ∀ g ≠ h, recordAt t g = recordAt s g) (flight : ∀ g ≠ h, SameFlight g (whole u s) (whole u' t))
    (own : ∀ x r, recordAt t h = .ranging x r → AttemptsWithin (whole u' t) h x r) : Attempting u' l t where
  handles := handles
  trying := trying
  requests := fun q mem => by
    rcases requests q mem with ⟨ne, old⟩ | stands
    · exact requestStands_of_record (records _ ne) (law.requests q old)
    · exact stands
  attempts := fun g x r record => by
    by_cases e : g = h
    · subst e
      exact own x r record
    · exact .of_same (flight g e) (law.attempts g x r (records g e ▸ record))

/-- A record written for a handle with nothing else changed; the requests made for it stand. -/
theorem Attempting.setRecord (law : Attempting u l s) (h : Handle) (v : Record)
    (requests : ∀ q ∈ s.sched.placements ++ u, q.handle = h → requestStands (setRecord h v s) q)
    (own : ∀ x r, v = .ranging x r → AttemptsWithin (whole u (Machine.setRecord h v s)) h x r) :
    Attempting u l (Machine.setRecord h v s) := by
  refine law.at h law.handles law.trying (fun q mem => ?_) (fun g ne => recordAt_setRecord_ne _ _ ne)
    (fun g ne => ⟨rfl, rfl, rfl, rfl⟩) fun x r record => ?_
  · by_cases e : q.handle = h
    · exact .inr (requests q mem e)
    · exact .inl ⟨e, mem⟩
  · exact own x r ((recordAt_setRecord_self h v s).symm.trans record)

/-- A record freed that no request was made for. -/
theorem Attempting.free (law : Attempting u l s) (h : Handle) (none : ∀ q ∈ s.sched.placements ++ u, q.handle ≠ h) :
    Attempting u l (Machine.setRecord h .free s) :=
  law.setRecord h .free (fun q mem own => absurd own (none q mem)) fun _ _ e => nomatch e

end Sys2Proof.Machine
end

section
/-! The law of the attempts, kept by every act (R15, R70, R97, R100, R104). -/

namespace Sys2Proof.Machine

variable {u l : List Request} {s : State}

/-! ### Nothing under way, and the next placement asked for -/

theorem attemptsWithin_idle {h : Handle} {x : Identity} {r : RangingFields} (stage : r.stage = .attempting)
    (slot : slotAt s h = .idle) (waiting : s.sched.placements.countP (Request.rangesFor h) = 0)
    (placed : s.handed.filterMap (placementFor h) = []) (outcomes : outcomesHanded s h = []) (attempts : r.attempts ≤ 4)
    (samples : r.samples.length ≤ r.attempts) : AttemptsWithin s h x r := by
  have asked : placementsAsked s h = 0 := by rw [placementsAsked_eq, waiting, placed]; rfl
  refine (attemptsWithin_attempting stage).2 ⟨attempts, samples, ?_, by simp [placed]⟩
  simp only [SlotSays, slot]
  exact ⟨asked, outcomes⟩

theorem attemptsWithin_next {h : Handle} {x : Identity} {r : RangingFields} {v : Slot} (next : SlotNext h x v u)
    (stage : r.stage = .attempting) (slot : slotAt s h = v) (none : ∀ q ∈ s.sched.placements, q.handle ≠ h)
    (placed : s.handed.filterMap (placementFor h) = []) (outcomes : outcomesHanded s h = []) (attempts : r.attempts ≤ 3)
    (samples : r.samples.length ≤ r.attempts) : AttemptsWithin (whole u s) h x r := by
  have waiting := countP_rangesFor_eq_zero none
  cases next with
  | waits =>
    refine attemptsWithin_idle stage slot ?_ placed outcomes (by omega) samples
    simpa using waiting
  | asks e =>
    have asked : placementsAsked (whole [⟨.range e, h, x⟩] s) h = 1 := by
      rw [placementsAsked_eq]
      simp [List.countP_append, waiting, placed, Request.rangesFor, Request.isRange]
    refine (attemptsWithin_attempting stage).2 ⟨by omega, samples, ?_, by simp [placed]⟩
    simp only [SlotSays, slotAt_whole, slot]
    exact ⟨trivial, asked, outcomes, attempts⟩

/-- A record that goes on with its attempts: its slot and the request it makes agree (R99, R108). -/
theorem Attempting.next {h : Handle} {x : Identity} {r : RangingFields} {v : Slot} {t : State} (law : Attempting [] [] s)
    (next : SlotNext h x v u) (none : ∀ q ∈ s.sched.placements ++ [], q.handle ≠ h) (placements : t.sched = s.sched)
    (record : recordAt t h = .ranging x r) (records : ∀ g ≠ h, recordAt t g = recordAt s g) (stage : r.stage = .attempting)
    (slot : slotAt t h = v) (slots : ∀ g ≠ h, slotAt t g = slotAt s g) (placed : t.handed.filterMap (placementFor h) = [])
    (outcomes : outcomesHanded t h = []) (attempts : r.attempts ≤ 3) (samples : r.samples.length ≤ r.attempts)
    (handed : ∀ g ≠ h, t.handed.filterMap (placementFor g) = s.handed.filterMap (placementFor g) ∧
      t.handed.filterMap (outcomeFor g) = s.handed.filterMap (outcomeFor g)) : Attempting u [] t := by
  rw [List.append_nil] at none
  have fresh : ∀ q ∈ u, q.handle = h ∧ requestStands t q := by
    intro q mem
    cases next with
    | waits => exact nomatch mem
    | asks e =>
      obtain rfl := List.mem_singleton.1 mem
      exact ⟨rfl, requestStands_of_ranging (q := ⟨.range e, h, x⟩) rfl record rfl stage⟩
  refine law.at h (placements ▸ law.handles) (List.nil_sublist _) (fun q mem => ?_) records
    (fun g ne => sameFlight_of (slots g ne) ?_ (handed g ne).1 (handed g ne).2) fun y q same => ?_
  · rw [placements] at mem
    rcases List.mem_append.1 mem with old | new
    · exact .inl ⟨none q old, List.mem_append_left _ old⟩
    · exact .inr (fresh q new).2
  · show (t.sched.placements ++ u).countP _ = (s.sched.placements ++ []).countP _
    rw [placements, List.countP_append, List.append_nil, countP_rangesFor_eq_zero fun q mem e => ne (e.symm.trans (fresh q mem).1)]
    rfl
  · obtain ⟨rfl, rfl⟩ := Record.ranging.inj (record.symm.trans same)
    exact attemptsWithin_next next stage slot (placements ▸ none) placed outcomes attempts samples

/-! ### The requests -/

theorem Attempting.withdraw (law : Attempting [] [] s) (h : Handle) : Attempting [] [] (withdrawRequest h s) := by
  have waiting (g : Handle) (ne : g ≠ h) : (withdrawRequest h s).sched.placements.countP (Request.rangesFor g) =
      s.sched.placements.countP (Request.rangesFor g) := by
    rw [placements_withdrawRequest, List.countP_filter]
    refine List.countP_congr fun q _ => ?_
    by_cases own : q.handle = g
    · simp [own, ne]
    · simp [Request.rangesFor, own]
  refine law.at h ?_ (List.nil_sublist _) (fun q mem => .inl ?_) (fun g _ => recordAt_withdrawRequest h s g)
    (fun g ne => sameFlight_of ?_ ?_ ?_ ?_) fun x r record => ?_
  · rw [placements_withdrawRequest]
    exact law.handles.sublist (List.filter_sublist.map _)
  · rw [List.append_nil] at mem ⊢
    refine ⟨no_request_of_withdrawn mem, ?_⟩
    rw [placements_withdrawRequest] at mem
    exact List.mem_of_mem_filter mem
  · exact slotAt_withdrawRequest_ne s ne
  · simpa using waiting g ne
  · simp
  · simp
  · rw [recordAt_withdrawRequest] at record
    have within := law.attempts h x r record
    by_cases stage : r.stage = .attempting
    case neg => exact within.of_not_attempting stage
    have gone : (withdrawRequest h s).sched.placements.countP (Request.rangesFor h) = 0 :=
      countP_rangesFor_eq_zero fun q mem => no_request_of_withdrawn mem
    rw [whole_nil] at within ⊢
    by_cases some : s.sched.placements.any (fun q => q.handle == h && q.isRange) = true
    · obtain ⟨attempts, samples, tells, -⟩ := (attemptsWithin_attempting stage).1 within
      have asks : 0 < s.sched.placements.countP (Request.rangesFor h) :=
        List.countP_pos_iff.2 (by simpa [Request.rangesFor] using some)
      have total := placementsAsked_eq s h
      obtain ⟨-, one, outcomes, -⟩ := tells.asked (by omega)
      have placed : s.handed.filterMap (placementFor h) = [] := List.length_eq_zero_iff.1 (by omega)
      refine attemptsWithin_idle stage ?_ gone (by simpa using placed) (by simpa [outcomesHanded] using outcomes) attempts samples
      rw [withdrawRequest, if_pos some, slotAt_setSlot_self]
    · refine within.of_same (sameFlight_of ?_ ?_ (by simp) (by simp))
      · rw [withdrawRequest, if_neg some, slotAt_dropRequest]
      · rw [gone]
        exact (List.countP_eq_zero.2 (by simpa [Request.rangesFor] using some)).symm

/-- The request tried leaves the queue, and only it. -/
theorem Attempting.pick {q : Request} (law : Attempting u (q :: l) s) : Attempting (q :: u) l (dropRequest q.handle s) := by
  have waits : q ∈ s.sched.placements := law.trying.subset List.mem_cons_self
  have leaves : (q :: s.sched.placements.filter fun p => p.handle != q.handle).Perm s.sched.placements := by
    have once := law.handles.of_map
    refine (List.perm_ext_iff_of_nodup (List.nodup_cons.2 ⟨by simp, once.filter _⟩) once).2 fun p => ?_
    simp only [List.mem_cons, List.mem_filter, bne_iff_ne]
    refine ⟨fun mem => mem.elim (· ▸ waits) And.left, fun mem => ?_⟩
    by_cases own : p.handle = q.handle
    · exact .inl (List.inj_on_of_nodup_map law.handles mem waits own)
    · exact .inr ⟨mem, own⟩
  have same : ((dropRequest q.handle s).sched.placements ++ q :: u).Perm (s.sched.placements ++ u) :=
    List.perm_middle.trans (leaves.append_right u)
  refine law.keep (law.handles.sublist (List.filter_sublist.map _)) ?_ (fun p mem => .inl (same.mem_iff.1 mem)) (fun h => rfl)
    fun h => sameFlight_of rfl (same.countP_eq _) rfl rfl
  have apart := law.handles.sublist (law.trying.map _)
  rw [List.map_cons, List.nodup_cons] at apart
  have kept : l.filter (fun p => p.handle != q.handle) = l :=
    List.filter_eq_self.2 fun p mem => by
      simpa using fun e : p.handle = q.handle => apart.1 (e ▸ List.mem_map_of_mem mem)
  exact kept ▸ ((List.sublist_cons_self q l).trans law.trying).filter _

theorem Attempting.refuse {q : Request} (law : Attempting (q :: u) l s) (waits : ∃ p ∈ s.sched.placements, p.handle = q.handle) :
    Attempting u l s := by
  have verify : q.isRange = false := by
    by_contra range
    rw [Bool.not_eq_false] at range
    obtain ⟨p, mem, own⟩ := waits
    obtain ⟨e, wanted⟩ : ∃ e, q.wanted = .range e := by
      cases wanted : q.wanted with
      | range e => exact ⟨e, rfl⟩
      | verify => simp [Request.isRange, wanted] at range
    obtain ⟨r, record, stage⟩ := record_of_range wanted (law.requests q (by simp))
    obtain ⟨-, -, tells, -⟩ := (attemptsWithin_attempting stage).1 (law.attempts _ _ _ record)
    have other := (ranging_of_requestStands (law.requests p (List.mem_append_left _ mem)) (own ▸ record)).1
    have one : 0 < s.sched.placements.countP (Request.rangesFor q.handle) :=
      List.countP_pos_iff.2 ⟨p, mem, by simp [Request.rangesFor, own, other]⟩
    have total := placementsAsked_eq (whole (q :: u) s) q.handle
    have self : Request.rangesFor q.handle q = true := by simp [Request.rangesFor, range]
    rw [whole_placements, List.countP_append, List.countP_cons_of_pos self] at total
    have := tells.asked (by omega)
    omega
  refine law.keep law.handles law.trying (fun p mem => .inl ?_) (fun _ => rfl) fun h => sameFlight_of rfl ?_ rfl rfl
  · exact (List.append_sublist_append_left _).2 (List.sublist_cons_self q u) |>.subset mem
  · simp [List.countP_append, Request.rangesFor, verify]

theorem Attempting.queue {q : Request} (law : Attempting (q :: u) l s) (alone : ∀ p ∈ s.sched.placements, p.handle ≠ q.handle) :
    Attempting u l { s with sched := { s.sched with placements := s.sched.placements ++ [q] } } := by
  have same : s.sched.placements ++ [q] ++ u = s.sched.placements ++ q :: u := by simp
  refine law.keep ?_ (law.trying.trans (List.sublist_append_left _ _)) (fun p mem => .inl (same ▸ mem)) (fun _ => rfl)
    fun h => sameFlight_of rfl (congrArg _ same) rfl rfl
  rw [List.map_append, List.nodup_append]
  refine ⟨law.handles, List.nodup_singleton _, ?_⟩
  rintro _ mem _ new rfl
  obtain ⟨p, waits, e⟩ := List.mem_map.1 mem
  exact alone p waits (e.trans (List.mem_singleton.1 new))

@[simp] theorem reserveGrant_placements (g : DirectedGrant) (s : State) :
    (reserveGrant g s).sched.placements = s.sched.placements :=
  rfl

@[simp] theorem reserveGrant_handed (g : DirectedGrant) (s : State) : (reserveGrant g s).handed = s.handed :=
  rfl

/-- A RANGE request met: the placement is handed in its stead (R71, R100). -/
theorem Attempting.place {q : Request} {e : Int} {r : TreeCycle} {o : Nat} {g : DirectedGrant} (law : Attempting (q :: u) l s)
    (wanted : q.wanted = .range e) (found : grantAt s q r o = some g) :
    Attempting u l (hand (.placed g.handle g.identity g.cycle g.offset) (reserveGrant g s)) := by
  obtain ⟨rfl, -⟩ := grantAt_spec found
  have range : q.isRange = true := by rw [Request.isRange, wanted]
  have self : Request.rangesFor q.handle q = true := by simp [Request.rangesFor, range]
  obtain ⟨f, record, stage⟩ := record_of_range wanted (law.requests q (by simp))
  refine law.at q.handle law.handles law.trying (fun p mem => .inr ?_) (fun _ _ => rfl)
    (fun h ne => sameFlight_of rfl ?_ ?_ ?_) fun x y same => ?_
  · exact requestStands_of_record rfl (law.requests p
      (((List.append_sublist_append_left _).2 (List.sublist_cons_self q u)).subset mem))
  · simp [List.countP_append, Request.rangesFor, ne.symm]
  · simp [placementFor, ne.symm]
  · simp [outcomeFor]
  · obtain ⟨rfl, rfl⟩ := Record.ranging.inj (record.symm.trans same)
    obtain ⟨attempts, samples, tells, placed⟩ := (attemptsWithin_attempting stage).1 (law.attempts _ _ _ record)
    have before := placementsAsked_eq (whole (q :: u) s) q.handle
    rw [whole_placements, List.countP_append, List.countP_cons_of_pos self, whole_handed] at before
    obtain ⟨slot, one, outcomes, few⟩ := tells.asked (by omega)
    refine (attemptsWithin_attempting stage).2 ⟨attempts, samples, ?_, ?_⟩
    · simp only [SlotSays, slotAt_whole, show slotAt (hand (.placed q.handle q.identity r o) (reserveGrant ⟨q.wanted.kind, q.handle,
        q.identity, r, o, directedSpan s.host.config q r o⟩ s)) q.handle = .asked q.identity from slot]
      refine ⟨trivial, ?_, ?_, few⟩
      · rw [placementsAsked_eq]
        simp [placementFor, List.countP_append]
        omega
      · simpa [outcomesHanded, outcomeFor] using outcomes
    · simpa [placementFor, or_imp, forall_and] using placed

end Sys2Proof.Machine
end

section
/-! The placements that the ranging unit takes (R100) keep the law of the attempts. -/

namespace Sys2Proof.Machine

variable {u l : List Request} {s : State}

@[simp] theorem takeOnePlacement_sched (p : RangePlacement) (s : State) : (takeOnePlacement p s).sched = s.sched := by
  unfold takeOnePlacement takePlacement
  dsimp only
  split
  · rw [apply_ite State.sched, setRecord_sched, ite_self, apply_ite State.sched]
    exact ite_self _
  all_goals
    rw [apply_ite State.sched]
    exact ite_self _

theorem recordAt_takeOnePlacement_ne {g : Handle} {p : RangePlacement} (ne : g ≠ p.handle) (s : State) :
    recordAt (takeOnePlacement p s) g = recordAt s g := by
  have slot (t : State) (h : Handle) (v : Slot) (c : Prop) [Decidable c] :
      recordAt (if c then setSlot h v t else t) g = recordAt t g := by
    split
    · exact recordAt_setSlot ..
    · rfl
  unfold takeOnePlacement takePlacement
  dsimp only
  split
  · split
    · rw [recordAt_setRecord_ne _ _ ne, slot, recordAt_takeEvent]
    · rw [slot, recordAt_takeEvent]
  all_goals rw [slot, recordAt_takeEvent]

theorem slotAt_takeOnePlacement_ne {g : Handle} {p : RangePlacement} (ne : g ≠ p.handle) (s : State) :
    slotAt (takeOnePlacement p s) g = slotAt s g := by
  have slot (t : State) (v : Slot) (c : Prop) [Decidable c] :
      slotAt (if c then setSlot p.handle v t else t) g = slotAt t g := by
    split
    · exact slotAt_setSlot_ne _ _ ne
    · rfl
  unfold takeOnePlacement takePlacement
  dsimp only
  split
  · split
    · rw [slotAt_setRecord, slot, slotAt_takeEvent]
    · rw [slot, slotAt_takeEvent]
  all_goals rw [slot, slotAt_takeEvent]

theorem takeOnePlacement_handed (p : RangePlacement) (s : State) : (takeOnePlacement p s).handed = s.handed.erase p.handoff := by
  unfold takeOnePlacement
  rw [takePlacement_handed]
  rfl

/-- A placement of a record in ATTEMPTING counts as an attempt; any other record stays (R100). -/
theorem recordAt_takeOnePlacement (p : RangePlacement) (s : State) :
    (recordAt (takeOnePlacement p s) p.handle = recordAt s p.handle ∧
      ∀ r, recordAt s p.handle = .ranging p.identity r → r.stage ≠ .attempting) ∨
    ∃ r, recordAt s p.handle = .ranging p.identity r ∧ r.stage = .attempting ∧
      recordAt (takeOnePlacement p s) p.handle = .ranging p.identity { r with attempts := r.attempts + 1 } := by
  have slot (t : State) (v : Slot) (c : Prop) [Decidable c] :
      recordAt (if c then setSlot p.handle v t else t) p.handle = recordAt t p.handle := by
    split
    · exact recordAt_setSlot ..
    · rfl
  unfold takeOnePlacement takePlacement
  dsimp only
  rw [recordAt_takeEvent]
  cases record : recordAt s p.handle with
  | ranging y r =>
    dsimp only
    split
    case isTrue counts =>
      obtain ⟨rfl, stage⟩ := counts
      exact .inr ⟨r, rfl, stage, recordAt_setRecord_self ..⟩
    case isFalse other =>
      refine .inl ⟨by rw [slot, recordAt_takeEvent, record], fun q same stage => other ?_⟩
      obtain ⟨rfl, rfl⟩ := Record.ranging.inj same
      exact ⟨rfl, stage⟩
  | _ => exact .inl ⟨by rw [slot, recordAt_takeEvent, record], fun _ other => nomatch other⟩

/-- The ASKED slot of the placement's identity is OUT (R100). -/
theorem slotAt_takeOnePlacement {p : RangePlacement} (asked : slotAt s p.handle = .asked p.identity) :
    slotAt (takeOnePlacement p s) p.handle = .out p.identity p.cycle p.offset := by
  unfold takeOnePlacement takePlacement
  dsimp only
  rw [slotAt_takeEvent, if_pos asked]
  split
  · split
    · rw [slotAt_setRecord, slotAt_setSlot_self]
    · exact slotAt_setSlot_self ..
  all_goals exact slotAt_setSlot_self ..

theorem Attempting.takePlacement {p : RangePlacement} (law : Attempting u l s) (waits : p.handoff ∈ s.handed) :
    Attempting u l (takeOnePlacement p s) := by
  have counted : (p.identity, p.cycle, p.offset) ∈ s.handed.filterMap (placementFor p.handle) :=
    List.mem_filterMap.2 ⟨_, waits, by simp [RangePlacement.handoff, placementFor]⟩
  refine law.at p.handle (by simpa using law.handles) (by simpa using law.trying) (fun q mem => ?_)
    (fun g ne => recordAt_takeOnePlacement_ne ne s) (fun g ne => sameFlight_of (slotAt_takeOnePlacement_ne ne s) ?_ ?_ ?_)
    fun x r after => ?_
  · rw [takeOnePlacement_sched] at mem
    by_cases own : q.handle = p.handle
    case neg => exact .inl ⟨own, mem⟩
    have stands := law.requests q mem
    rcases recordAt_takeOnePlacement p s with ⟨same, -⟩ | ⟨r, record, stage, counts⟩
    · exact .inr (requestStands_of_record (by rw [own, same]) stands)
    · rw [← own] at record counts
      have range := ranging_of_requestStands stands record
      cases wanted : q.wanted with
      | range e => exact .inr (requestStands_of_ranging wanted counts range.2.1 stage)
      | verify => simp [Request.isRange, wanted] at range
  · simp
  · rw [whole_handed, takeOnePlacement_handed, whole_handed]
    exact filterMap_erase_of_none (by simp [placementFor, RangePlacement.handoff, ne.symm]) _
  · rw [whole_handed, takeOnePlacement_handed, whole_handed]
    exact filterMap_erase_of_none (by simp [outcomeFor, RangePlacement.handoff]) _
  · rcases recordAt_takeOnePlacement p s with ⟨same, other⟩ | ⟨f, record, stage, counts⟩
    · rw [same] at after
      have within := law.attempts _ _ _ after
      refine within.of_not_attempting fun stage => other r ?_ stage
      obtain ⟨-, -, -, placed⟩ := (attemptsWithin_attempting stage).1 within
      exact after.trans (congrArg (Record.ranging · r) (placed _ counted).symm)
    · obtain ⟨rfl, rfl⟩ := Record.ranging.inj (counts.symm.trans after)
      obtain ⟨attempts, samples, tells, placed⟩ := (attemptsWithin_attempting stage).1 (law.attempts _ _ _ record)
      have before := placementsAsked_eq (whole u s) p.handle
      have some := List.length_pos_of_mem counted
      rw [whole_handed] at before
      obtain ⟨slot, one, outcomes, few⟩ := tells.asked (by omega)
      have waiting : (whole u s).sched.placements.countP (Request.rangesFor p.handle) = 0 := by omega
      have last : (s.handed.erase p.handoff).filterMap (placementFor p.handle) = [] := by
        have same := ((List.perm_cons_erase waits).filterMap (placementFor p.handle)).length_eq
        rw [List.filterMap_cons_some (b := (p.identity, p.cycle, p.offset))
          (by simp [RangePlacement.handoff, placementFor]), List.length_cons] at same
        exact List.length_eq_zero_iff.1 (by omega)
      have out := slotAt_takeOnePlacement (by rwa [slotAt_whole] at slot)
      refine (attemptsWithin_attempting (by exact stage)).2 ⟨by dsimp only; omega, by dsimp only; omega, ?_, ?_⟩
      · simp only [SlotSays, slotAt_whole, out]
        refine ⟨trivial, ?_, ?_, Nat.lt_succ_of_le samples⟩
        · rw [placementsAsked_eq, whole_handed, takeOnePlacement_handed, last]
          simpa using waiting
        · rw [← outcomes, outcomesHanded_whole, outcomesHanded_whole, outcomesHanded, outcomesHanded, takeOnePlacement_handed]
          exact filterMap_erase_of_none (by simp [outcomeFor, RangePlacement.handoff]) _
      · simp [takeOnePlacement_handed, last]

end Sys2Proof.Machine
end

section
/-! The outcomes of a sequence (R102 to R108), and the acts all together: the law of the attempts is kept by every act, and so by every
step. -/

namespace Sys2Proof.Machine

variable {u l : List Request} {s t : State}

/-- The law of a record where every request made is met. -/
theorem Attempting.within (law : Attempting [] [] s) {h : Handle} {x : Identity} {r : RangingFields}
    (record : recordAt s h = .ranging x r) : AttemptsWithin s h x r :=
  whole_nil s ▸ law.attempts h x r record

/-! ### Outcomes -/

/-- The answer to a grant out: one more sample at most, for the attempts made (R102, R104, R107). -/
theorem Attempting.answer {h : Handle} {x : Identity} {cycle : TreeCycle} {offset : Nat} (law : Attempting [] [] s)
    (out : slotAt s h = .out x cycle offset) (sample : Option Int) :
    Attempting [] [] (hand (.outcome h x (rangingOutcome s.host.config (attemptFields (recordAt s h)).2
      (attemptFields (recordAt s h)).1 sample)) (setSlot h (.answered x) s)) := by
  refine law.at h law.handles law.trying (fun q mem => .inr ?_) (fun g _ => by simp)
    (fun g ne => sameFlight_of ?_ rfl ?_ ?_) fun y r record => ?_
  · exact requestStands_of_record (by simp) (law.requests q mem)
  · rw [slotAt_whole, slotAt_hand, slotAt_setSlot_ne _ _ ne, slotAt_whole]
  · simp [placementFor]
  · simp [outcomeFor, ne.symm]
  · rw [recordAt_hand, recordAt_setSlot] at record
    have within := law.attempts h y r record
    by_cases stage : r.stage = .attempting
    case neg => exact within.of_not_attempting stage
    obtain ⟨attempts, samples, tells, placed⟩ := (attemptsWithin_attempting stage).1 within
    obtain ⟨rfl, none, outcomes, fits⟩ := tells.out out
    refine (attemptsWithin_attempting stage).2 ⟨attempts, samples, ?_, by simpa [placementFor] using placed⟩
    simp only [SlotSays, slotAt_whole, slotAt_hand, slotAt_setSlot_self]
    refine ⟨trivial, ?_, _, ?_, rangingOutcome_within (c := s.host.config) (sample := sample) fits attempts⟩
    · rw [placementsAsked_eq] at none ⊢
      simpa [placementFor] using none
    · rw [outcomesHanded_whole, outcomesHanded] at outcomes
      simp [outcomesHanded, outcomes, outcomeFor, record, attemptFields]

/-- An outcome taken is the first of those handed. -/
theorem mem_outcomesHanded {h : Handle} {a : Identity × RangingOutcome} (taken : takeHanded (outcomeFor h) s = some (a, t)) :
    a ∈ outcomesHanded s h := by
  obtain ⟨⟨y, mem, read⟩, -⟩ := takeHanded_spec taken
  exact List.mem_filterMap.2 ⟨y, mem, read⟩

theorem outcomesHanded_of_taken {h : Handle} {a : Identity × RangingOutcome} (taken : takeHanded (outcomeFor h) s = some (a, t)) :
    outcomesHanded t h = (outcomesHanded s h).tail := by
  obtain ⟨-, rfl⟩ := takeHanded_eq_some.1 taken
  exact filterMap_eraseP_self _ _

theorem placements_of_taken {h : Handle} {a : Identity × RangingOutcome} (taken : takeHanded (outcomeFor h) s = some (a, t))
    (g : Handle) : t.handed.filterMap (placementFor g) = s.handed.filterMap (placementFor g) := by
  obtain ⟨-, rfl⟩ := takeHanded_eq_some.1 taken
  exact placements_of_takeHanded g h _

theorem outcomes_of_taken {g h : Handle} {a : Identity × RangingOutcome} (taken : takeHanded (outcomeFor h) s = some (a, t))
    (ne : g ≠ h) : t.handed.filterMap (outcomeFor g) = s.handed.filterMap (outcomeFor g) := by
  obtain ⟨-, rfl⟩ := takeHanded_eq_some.1 taken
  exact outcomes_of_takeHanded ne _

theorem sched_of_takeHanded {α : Type} {sel : Handoff → Option α} {a : α} (taken : takeHanded sel s = some (a, t)) :
    t.sched = s.sched := by
  obtain ⟨-, rfl⟩ := takeHanded_eq_some.1 taken
  rfl

/-- An outcome taken with the slot settled: nothing is under way any more (R108). -/
theorem Attempting.takeOutcome {h : Handle} {x : Identity} {o : RangingOutcome} (law : Attempting [] [] s)
    (taken : takeHanded (outcomeFor h) s = some ((x, o), t)) : Attempting [] [] (settleSlot h x t) := by
  have settledSched : (settleSlot h x t).sched = s.sched := by
    rw [← sched_of_takeHanded taken, settleSlot, apply_ite State.sched]
    exact ite_self _
  have settledHanded : (settleSlot h x t).handed = t.handed := by
    rw [settleSlot, apply_ite State.handed]
    exact ite_self _
  have records (g : Handle) : recordAt (settleSlot h x t) g = recordAt s g := by
    rw [← recordAt_of_takeHanded taken, settleSlot]
    split
    · exact recordAt_setSlot ..
    · rfl
  refine law.at h (settledSched ▸ law.handles) (List.nil_sublist _) (fun q mem => .inr ?_) (fun g _ => records g)
    (fun g ne => sameFlight_of ?_ ?_ ?_ ?_) fun y r record => ?_
  · exact requestStands_of_record (records _) (law.requests q (settledSched ▸ mem))
  · rw [slotAt_whole, slotAt_whole, ← slotAt_of_takeHanded taken, settleSlot]
    split
    · exact slotAt_setSlot_ne _ _ ne
    · rfl
  · simp [settledSched]
  · rw [whole_handed, settledHanded, placements_of_taken taken, whole_handed]
  · rw [whole_handed, settledHanded, outcomes_of_taken taken ne, whole_handed]
  · rw [records] at record
    have within := law.within record
    by_cases stage : r.stage = .attempting
    case neg => exact within.of_not_attempting stage
    rw [whole_nil]
    obtain ⟨attempts, samples, tells, -⟩ := (attemptsWithin_attempting stage).1 within
    obtain ⟨slot, none, outcomes, rfl, -⟩ := tells.answered (mem_outcomesHanded taken)
    have placed := placed_nil none
    rw [placementsAsked_eq] at none
    refine attemptsWithin_idle stage ?_ ?_ ?_ ?_ attempts samples
    · rw [settleSlot, if_pos ((slotAt_of_takeHanded taken h).trans slot), slotAt_setSlot_self]
    · rw [settledSched]
      omega
    · rw [settledHanded, placements_of_taken taken, placed]
    · rw [outcomesHanded, settledHanded]
      exact (outcomesHanded_of_taken taken).trans (by rw [outcomes]; rfl)

/-- An agreement ends the attempts (R40). -/
theorem Attempting.agree {h : Handle} {x : Identity} {r : RangingFields} {samples : List Int} {delay : Nat}
    (law : Attempting [] [] s) (handed : Handoff.outcome h x (.agreement samples delay) ∈ s.handed)
    (record : recordAt s h = .ranging x r) (stage : r.stage = .attempting) :
    Attempting [] [] (Machine.setRecord h
      (.ranging x { r with samples := samples, stage := .awaitSetDelay, launchDelay := some delay }) s) := by
  obtain ⟨attempts, -, tells, -⟩ := (attemptsWithin_attempting stage).1 (law.within record)
  obtain ⟨-, none, -, -, within⟩ := tells.answered (List.mem_filterMap.2 ⟨_, handed, outcomeFor_eq_some.2 rfl⟩)
  refine law.setRecord h _ (fun q mem own => absurd own (law.no_request_of_asked record (by rwa [whole_nil]) q mem)) fun y f same => ?_
  obtain ⟨rfl, rfl⟩ := Record.ranging.inj same
  exact ⟨attempts, within, trivial⟩

/-! ### The attempts begun and taken on -/

theorem Attempting.ask {h : Handle} {x : Identity} {r : RangingFields} {e : Int} (law : Attempting [] [] s)
    (record : recordAt s h = .ranging x r) (stage : r.stage = .attempting) (few : r.attempts < 4) (idle : slotAt s h = .idle) :
    Attempting [⟨.range e, h, x⟩] [] (setSlot h (.asked x) s) := by
  obtain ⟨-, samples, tells, -⟩ := (attemptsWithin_attempting stage).1 (law.within record)
  obtain ⟨none, outcomes⟩ := tells.idle idle
  exact law.next (.asks e) (law.no_request_of_asked record (by rwa [whole_nil])) rfl (by rwa [recordAt_setSlot])
    (fun g _ => recordAt_setSlot ..) stage (slotAt_setSlot_self ..) (fun g ne => slotAt_setSlot_ne _ _ ne) (by exact placed_nil none)
    outcomes (Nat.le_of_lt_succ few) samples fun _ _ => ⟨rfl, rfl⟩

theorem Attempting.begin {h : Handle} {x : Identity} {r : RangingFields} {v : Slot} (law : Attempting [] [] s)
    (record : recordAt s h = .ranging x r) (waits : r.stage = .awaitAssign) (next : SlotNext h x v u) :
    Attempting u [] (setSlot h v { Machine.setRecord h (.ranging x { r with stage := .attempting }) s with
      handed := s.handed.filter fun x => !ofEarlierSequence h x }) := by
  have stage : r.stage ≠ .attempting := by rw [waits]; decide
  obtain ⟨attempts, samples⟩ : r.attempts = 0 ∧ r.samples = [] := by
    obtain ⟨-, -, rest⟩ := law.attempts h x r record
    simpa only [waits] using rest
  have dropped {α : Type} {f : Handoff → Option α} (own : ∀ y, ofEarlierSequence h y = false → f y = none) :
      (s.handed.filter fun y => !ofEarlierSequence h y).filterMap f = [] := by
    refine List.filterMap_eq_nil_iff.2 fun y mem => own y ?_
    simpa using (List.mem_filter.1 mem).2
  have apart (y : Handoff) (other : ofEarlierSequence h y = false) : outcomeFor h y = none ∧ placementFor h y = none := by
    simpa [ofEarlierSequence] using other
  refine law.next next (law.no_request_of_stage record stage) rfl (r := { r with stage := .attempting }) ?_ (fun g ne => ?_) rfl
    (by exact slotAt_setSlot_self ..) (fun g ne => by exact slotAt_setSlot_ne _ _ ne) (dropped fun y other => (apart y other).2)
    (dropped fun y other => (apart y other).1) (by simp [attempts]) (by simp [samples]) fun g ne => ⟨?_, ?_⟩
  · exact (recordAt_setSlot ..).trans (recordAt_setRecord_self ..)
  · exact (recordAt_setSlot ..).trans (recordAt_setRecord_ne _ _ ne)
  · exact filterMap_filter_of_apart (fun _ kept => (apart_of_ofEarlierSequence ne kept).2) _
  · exact filterMap_filter_of_apart (fun _ kept => (apart_of_ofEarlierSequence ne kept).1) _

theorem Attempting.proceed {h : Handle} {x : Identity} {r : RangingFields} {samples : List Int} {attempts : Nat} {v : Slot}
    (law : Attempting [] [] s) (taken : takeHanded (outcomeFor h) s = some ((x, .proceed samples attempts), t))
    (record : recordAt s h = .ranging x r) (stage : r.stage = .attempting) (next : SlotNext h x v u) :
    Attempting u [] (setSlot h v (Machine.setRecord h (.ranging x { r with samples := samples, attempts := attempts }) t)) := by
  obtain ⟨-, -, tells, -⟩ := (attemptsWithin_attempting stage).1 (law.within record)
  obtain ⟨-, none, outcomes, -, fits, few⟩ := tells.answered (mem_outcomesHanded taken)
  have sched := sched_of_takeHanded taken
  refine law.next next (law.no_request_of_asked record (by rwa [whole_nil])) sched
    (r := { r with samples := samples, attempts := attempts }) ?_ (fun g ne => ?_) stage
    (slotAt_setSlot_self ..) (fun g ne => ?_) (by exact (placements_of_taken taken h).trans (placed_nil none))
    (by exact (outcomesHanded_of_taken taken).trans (congrArg List.tail outcomes)) few fits fun g ne => ?_
  · exact (recordAt_setSlot ..).trans (recordAt_setRecord_self ..)
  · rw [recordAt_setSlot, recordAt_setRecord_ne _ _ ne, recordAt_of_takeHanded taken]
  · rw [slotAt_setSlot_ne _ _ ne, slotAt_setRecord, slotAt_of_takeHanded taken]
  · have others := outcomes_of_taken taken ne
    exact ⟨placements_of_taken taken g, others⟩

/-! ### Every act -/

theorem Attempting.act {a b : Point} (act : Act a b) (law : Attempting a.under a.trying a.state) :
    Attempting b.under b.trying b.state := by
  have plain {u l : List Request} {s t : State} (law : Attempting u l s) (placements : t.sched.placements = s.sched.placements)
      (slots : t.slots = s.slots) (records : t.table.records = s.table.records) (handed : t.handed = s.handed) :
      Attempting u l t := law.plain placements slots records (handed ▸ rfl)
  cases act with
  | beside f => exact plain law f.placements f.slots f.records f.handed
  | passes handed carried same => exact law.plain rfl rfl rfl same
  | messages m tag sourced => exact plain law (by simp) (by simp) (by simp) (by simp)
  | rewrites h r follows =>
    refine law.setRecord h r (fun q mem own => follows.requests q mem own (law.requests q mem)) fun x f same => ?_
    obtain ⟨stage, attempts, samples⟩ := follows.unbegun x f same
    exact attemptsWithin_of_unbegun stage attempts samples
  | claims h r x c =>
    refine law.setRecord h r (fun q mem own => stands_of_idle ?_ own (law.requests q mem)) fun x f same => ?_
    · rw [c.free]
      rfl
    · obtain ⟨stage, attempts, samples⟩ := c.unbegun x f same
      exact attemptsWithin_of_unbegun stage attempts samples
  | contests h x holds none | barsHeld h x holds none =>
    exact plain (law.free h (by simpa using none)) rfl rfl rfl rfl
  | withdraws h => exact law.withdraw h
  | empties e =>
    refine ⟨by simp [e.sched, Scheduler.atReset], List.nil_sublist _, by simp [e.sched, Scheduler.atReset], fun h x r record => ?_⟩
    simp [recordAt, e.records] at record
  | asks h x r e record attempting few idle => exact law.ask record attempting few idle
  | asksVerify h x stands =>
    refine law.keep law.handles law.trying (fun q mem => ?_) (fun _ => rfl) fun g => sameFlight_of rfl ?_ rfl rfl
    · rw [List.append_nil]
      refine (List.mem_append.1 mem).imp_right fun new => ?_
      rw [List.mem_singleton.1 new]
      exact stands
    · simp [List.countP_append, Request.rangesFor, Request.isRange]
  | refuses q waits => exact law.refuse waits
  | queues q alone => exact law.queue alone
  | placesRange q e r o g wanted found alone => exact law.place wanted found
  | placesVerify q r o g wanted found =>
    refine law.keep law.handles law.trying (fun p mem => .inl ?_) (fun _ => rfl) fun h => sameFlight_of rfl ?_ rfl rfl
    · exact ((List.append_sublist_append_left _).2 (List.sublist_cons_self q _)).subset mem
    · simp [List.countP_append, Request.rangesFor, Request.isRange, wanted]
  | tries => exact ⟨law.handles, .refl _, law.requests, law.attempts⟩
  | keepsWaiting q => exact ⟨law.handles, (List.sublist_cons_self q _).trans law.trying, law.requests, law.attempts⟩
  | picks q => exact law.pick
  | takesPlacement p waits => exact law.takePlacement waits
  | answers h x cycle offset sample out => exact law.answer out sample
  | takesOutcome h x o taken => exact law.takeOutcome taken
  | begins h x r record waits next => exact law.begin record waits next
  | proceeds h x r samples attempts taken record attempting answered next => exact law.proceed taken record attempting next
  | agrees h x r samples delay handed record attempting => exact law.agree handed record attempting
  | adds | bars | pushes => exact plain law rfl rfl rfl rfl

theorem Attempting.goes (run : Goes [] [] s t) (law : Attempting [] [] s) : Attempting [] [] t := by
  have all : ∀ b, Relation.ReflTransGen Act ⟨[], [], s⟩ b → Attempting b.under b.trying b.state := by
    intro b path
    induction path with
    | refl => exact law
    | tail _ act ih => exact ih.act act
  exact all _ run

theorem AttemptLaws.attempting (laws : AttemptLaws s) : Attempting [] [] s where
  handles := laws.handles
  trying := List.nil_sublist _
  requests := fun q mem => laws.requests q (by simpa using mem)
  attempts := fun h x r record => (whole_nil s).symm ▸ laws.attempts h x r record

theorem Attempting.laws (quiet : QuietLaw s) (law : Attempting [] [] s) : AttemptLaws s where
  quiet := quiet
  handles := law.handles
  requests := fun q mem => law.requests q (by simpa using mem)
  attempts := fun h x r record => whole_nil s ▸ law.attempts h x r record

end Sys2Proof.Machine

namespace Sys2Proof.Proofs
open Sys2Proof.Machine

/-- Settles O57: each act keeps the law at the points of the command's run (`Attempting.act`), and CONFIGURE leaves all it reads. -/
theorem everyStepKeepsTheAttemptLaws : Obligations.EveryStepKeepsTheAttemptLaws := by
  intro s t laws done
  refine Attempting.laws ((keepsLaws_step done).quiet laws.quiet) ?_
  rcases goes_step done with run | ⟨rest, -, f, -, rfl⟩
  · exact laws.attempting.goes run
  · exact laws.attempting.plain rfl rfl rfl rfl

end Sys2Proof.Proofs
end

section
/-! The removal of contested entries (R25, R151, R159). -/

namespace Sys2Proof.Machine

/-- An entry that is not contested leaves the list as it is. -/
theorem uncontest_of_absent {x : Identity} {s : State} (absent : ∀ c ∈ s.table.contested, c.identity ≠ x) : uncontest x s = s := by
  have kept : s.table.contested.filter (fun c => c.identity != x) = s.table.contested :=
    List.filter_eq_self.2 fun c mem => by simpa using absent c mem
  rw [uncontest, kept]

@[simp] theorem uncontest_uncontest (x : Identity) (s : State) : uncontest x (uncontest x s) = uncontest x s := by
  simp [uncontest, List.filter_filter]

theorem serveContestedExpiry_of_due {x : Identity} {s : State} {c : Contested} (entry : contestedEntry s x = some c)
    (reached : due s c.expiry = true) : serveContestedExpiry x s = uncontest x s := by
  simp [serveContestedExpiry, entry, reached]

theorem serveContestedExpiry_of_not_due {x : Identity} {s : State}
    (early : ∀ c, contestedEntry s x = some c → due s c.expiry = false) : serveContestedExpiry x s = s := by
  unfold serveContestedExpiry
  split
  case h_1 c entry => rw [early c entry, if_neg Bool.false_ne_true]
  case h_2 => rfl

/-- A request made leaves the contested list. -/
theorem request_contested (q : Request) (s : State) : (request q s).table.contested = s.table.contested := by
  rw [request, (frame_meetRequest q _).contested, owedScheduler]
  split
  · exact (schedulerWork_frame s).contested
  · rfl

theorem queueNotice_contested (n : Notice) (s : State) : (queueNotice n s).table.contested = s.table.contested :=
  (frame_queueNotice n s).contested

/-- The answer to a HANDOFF leaves the contested list (R159). -/
theorem answerHandoff_contested (p : Channel) (x : Identity) (delay : Nat) (s : State) :
    (answerHandoff p x delay s).table.contested = s.table.contested := by
  unfold answerHandoff
  split
  · exact queueNotice_contested ..
  · split
    · exact queueNotice_contested ..
    · split
      · exact queueNotice_contested ..
      · split
        · exact queueNotice_contested ..
        · exact (request_contested ..).trans (queueNotice_contested ..)

theorem exec_contestedExpiry {x : Identity} {s : State} (run : running s = true) :
    exec (.contestedExpiry x) s = .next (serveContestedExpiry x s) :=
  congrArg Host.Outcome.next (if_pos run)

theorem exec_release {p : Channel} {x : Identity} {s : State} (run : running s = true) (first : olderNotices p (.release x) s = []) :
    exec (.release p x) s = .next (uncontest x { s with handed := s.handed.erase (.notice p (.release x)) }) :=
  congrArg Host.Outcome.next (noticeRow_of_first run rfl first)

theorem exec_handoff {p : Channel} {x : Identity} {delay : BitVec 21} {s : State} (run : running s = true)
    (first : olderNotices p (.handoff x s.host.ownChannel delay) s = []) :
    exec (.handoff p x s.host.ownChannel delay) s = .next (answerHandoff p x delay.toNat
      (uncontest x { s with handed := s.handed.erase (.notice p (.handoff x s.host.ownChannel delay)) })) :=
  congrArg Host.Outcome.next (noticeRow_of_first run (by simp [Notice.meantFor, Notice.addressee]) first)

end Sys2Proof.Machine

namespace Sys2Proof.Proofs
open Sys2Proof.Machine

/-- Settles O15: the entry is removed first by each of the three, and a HANDOFF removes it but once (`uncontest_uncontest`). -/
theorem contestedEntryRemoval : Obligations.ContestedEntryRemoval := by
  intro x s run
  refine ⟨fun c entry reached => ?_, fun early => ?_, fun p first => ?_, fun p delay first => ?_, uncontest_of_absent⟩
  · rw [exec_contestedExpiry run, serveContestedExpiry_of_due entry reached]
    rfl
  · rw [exec_contestedExpiry run, serveContestedExpiry_of_not_due early]
  · rw [exec_release run first]
    rfl
  · refine ⟨_, exec_handoff run first, answerHandoff_contested .., ?_⟩
    refine (exec_handoff (s := uncontest x s) run first).trans (congrArg Host.Outcome.next ?_)
    exact congrArg (answerHandoff p x delay.toNat)
      (uncontest_uncontest x { s with handed := s.handed.erase (.notice p (.handoff x s.host.ownChannel delay)) })

end Sys2Proof.Proofs
end

section
/-! BAR, UNBAR and DEREGISTER (R22, R23, R32, R50, R52). -/

namespace Sys2Proof.Machine

/-- A record in a handover: BAR and DEREGISTER answer BUSY (R22, R50). -/
def Record.handingOver : Record → Bool
  | .offering _ _ _ _ | .leaving _ _ _ _ _ | .arriving _ _ _ _ _ => true
  | .free | .pending _ _ _ | .ranging _ _ | .active _ _ | .lost _ _ _ _ => false

theorem Record.handingOver_iff (r : Record) :
    r.handingOver = true ↔ r.state = .offering ∨ r.state = .leaving ∨ r.state = .arriving := by
  cases r <;> simp [Record.handingOver, Record.state]

variable {s : State} {h : Handle} {x : Identity}

theorem barHeld_of_handingOver (busy : (recordAt s h).handingOver = true) : barHeld h x s = respond .busy s := by
  unfold barHeld
  cases record : recordAt s h with
  | offering | leaving | arriving => rfl
  | _ => simp [record, Record.handingOver] at busy

theorem barHeld_of_not_handingOver (clear : (recordAt s h).handingOver = false) :
    barHeld h x s = respondOk (addBarred x (dropAndRelease h x .barred s)) := by
  unfold barHeld
  cases record : recordAt s h with
  | offering | leaving | arriving => simp [record, Record.handingOver] at clear
  | _ => rfl

theorem bar_of_barred (barred : x ∈ s.table.barred) : bar x s = respondOk s := by
  simp [bar, isBarred, barred]

theorem bar_of_full (fresh : x ∉ s.table.barred) (full : 16 ≤ s.table.barred.length) : bar x s = respond .full s := by
  simp [bar, isBarred, fresh, full]

theorem bar_of_not_held (fresh : x ∉ s.table.barred) (room : s.table.barred.length < 16) (none : holder s x = none) :
    bar x s = respondOk (addBarred x s) := by
  simp [bar, isBarred, fresh, Nat.not_le.2 room, none]

theorem bar_of_held (fresh : x ∉ s.table.barred) (room : s.table.barred.length < 16) (held : holder s x = some h) :
    bar x s = barHeld h x s := by
  simp [bar, isBarred, fresh, Nat.not_le.2 room, held]

theorem deregisterRecord_of_free (free : recordAt s h = .free) : deregisterRecord h s = respond .noSuchHandle s := by
  simp [deregisterRecord, free]

theorem deregisterRecord_of_handingOver (busy : (recordAt s h).handingOver = true) : deregisterRecord h s = respond .busy s := by
  unfold deregisterRecord
  cases record : recordAt s h with
  | offering | leaving | arriving => rfl
  | _ => simp [record, Record.handingOver] at busy

theorem deregisterRecord_of_not_handingOver (clear : (recordAt s h).handingOver = false)
    (holds : (recordAt s h).identity? = some x) : deregisterRecord h s = respondOk (dropAndRelease h x .host s) := by
  unfold deregisterRecord
  cases record : recordAt s h with
  | offering | leaving | arriving => simp [record, Record.handingOver] at clear
  | free => simp [record, Record.identity?] at holds
  | pending | ranging | active | lost =>
    rw [record] at holds
    rw [← Option.some.inj holds]

theorem deregister_of_high {b : Byte} (high : 128 ≤ b.toNat) (s : State) : deregister b s = respond (.badParameter 1) s := by
  simp [deregister, handleByte, Nat.not_lt.2 high]

theorem deregister_of_handle {b : Byte} (names : b.toNat = h.val) (s : State) : deregister b s = deregisterRecord h s := by
  have handle : handleByte b = some h := by simp [handleByte, names]
  simp [deregister, handle]

theorem inInitOrRunning_of_not_aligning {p : PartState} (part : p ≠ .aligning) : inInitOrRunning p = true := by
  cases p with
  | aligning => exact absurd rfl part
  | init | running => rfl

theorem exec_bar (held : s.host.held = false) (done : owedScheduler s = s) (part : s.host.part ≠ .aligning) (x : Identity) :
    exec (.bar x) s = .next (bar x s) :=
  congrArg Host.Outcome.next (command_of_taken held done (inInitOrRunning_of_not_aligning part) _)

theorem exec_unbar (held : s.host.held = false) (done : owedScheduler s = s) (part : s.host.part ≠ .aligning) (x : Identity) :
    exec (.unbar x) s = .next (unbar x s) :=
  congrArg Host.Outcome.next (command_of_taken held done (inInitOrRunning_of_not_aligning part) _)

theorem exec_deregister (held : s.host.held = false) (done : owedScheduler s = s) (run : s.host.part = .running) (b : Byte) :
    exec (.deregister b) s = .next (deregister b s) :=
  congrArg Host.Outcome.next (command_of_taken held done (by rw [run]; rfl) _)

end Sys2Proof.Machine

namespace Sys2Proof.Proofs
open Sys2Proof.Machine

/-- Settles O50: the cases of `bar` and `deregister` in their order; the DROP names the record that holds the identity (R32). -/
theorem barUnbarDeregister : Obligations.BarUnbarDeregister := by
  intro s held owed freed inHandover
  have done : owedScheduler s = s := by
    by_cases run : s.host.part = .running
    · exact owedScheduler_of_not_owed (owed run)
    · exact owedScheduler_of_not_running (by simp [running, run])
  have freed_eq (h : Handle) (x : Identity) (reason : DropReason) (holds : (recordAt s h).identity? = some x) :
      freed h x reason = dropAndRelease h x reason s := by
    simp only [freed, dropAndRelease, queueDrop]
    cases record : recordAt s h with
    | pending | ranging =>
      rw [record] at holds
      rw [← Option.some.inj holds]
      rfl
    | _ => rfl
  have clear {h : Handle} (not : ¬ inHandover h) : (recordAt s h).handingOver = false :=
    Bool.eq_false_iff.2 fun busy => not ((Record.handingOver_iff _).1 busy)
  refine ⟨fun part x => ?_, fun run => ⟨fun b high => ?_, fun b h names => ?_⟩⟩
  · rw [exec_bar held done part, exec_unbar held done part]
    refine ⟨fun barred => by rw [bar_of_barred barred]; rfl, fun fresh full => by rw [bar_of_full fresh full],
      fun fresh room => ⟨fun none => by rw [bar_of_not_held fresh room none]; rfl, fun h holds => ?_⟩, rfl⟩
    rw [bar_of_held fresh room holds]
    refine ⟨fun busy => by rw [barHeld_of_handingOver ((Record.handingOver_iff _).2 busy)], fun not => ?_⟩
    rw [barHeld_of_not_handingOver (clear not), freed_eq h x _ (holder_holds holds)]
    rfl
  · rw [exec_deregister held done run, deregister_of_high high]
  · rw [exec_deregister held done run, deregister_of_handle names]
    refine ⟨fun free => by rw [deregisterRecord_of_free free],
      fun busy => by rw [deregisterRecord_of_handingOver ((Record.handingOver_iff _).2 busy)], fun not x holds => ?_⟩
    rw [deregisterRecord_of_not_handingOver (clear not) holds, freed_eq h x _ holds]
    rfl

end Sys2Proof.Proofs
end

section
/-! Tracker results applied or dropped (R17, R46, R115 to R120). -/

namespace Sys2Proof.Machine

variable {s : State} {h : Handle} {x : Identity} {found : TrackedState} {r : TrackerResult} {f : Tracking}
  {put : Tracking → Record} {withdrawn : State → State}

/-- A tracked record of identity `x` as a function of its tracking fields, and the WITHDRAW that its loss queues (R15, R46). -/
inductive Tracks (x : Identity) : TrackedState → (Tracking → Record) → (State → State) → Prop
  | active : Tracks x .active (.active x) id
  | offering (p : Channel) (d : LocalCount) : Tracks x .offering (fun g => .offering x g p d) (queueNotice (.withdraw x p))

theorem Tracks.setTracking (tracks : Tracks x found put withdrawn) (record : recordAt s h = put f) (g : Tracking) :
    setTracking h g s = setRecord h (put g) s := by
  rw [Machine.setTracking, record]
  cases tracks <;> rfl

theorem Tracks.takeTracked (tracks : Tracks x found put withdrawn) (record : recordAt s h = put f) (r : TrackerResult) :
    takeTracked h x found r s = applyTracked h x f r s := by
  unfold Machine.takeTracked
  cases tracks <;> simp [record]

theorem Tracks.declareLost (tracks : Tracks x found put withdrawn) (record : recordAt s h = put f) :
    declareLost h s = raise (.lost h x)
      (setRecord h (.lost x f.launchDelay f.lastGood (ahead s s.host.config.retention)) (withdrawn s)) := by
  unfold Machine.declareLost
  rw [record]
  cases tracks with
  | active => rfl
  | offering p d => simp [makeLost, ahead]

/-- The record is not the one that the result was computed against. -/
theorem takeTracked_of_other (active : ∀ f, found = .active → recordAt s h ≠ .active x f)
    (offering : ∀ f p d, found = .offering → recordAt s h ≠ .offering x f p d) : takeTracked h x found r s = s := by
  unfold takeTracked
  split
  case h_1 y f record =>
    exact if_neg fun same : y = x => active f rfl (same ▸ record)
  case h_2 y f p d record =>
    exact if_neg fun same : y = x => offering f p d rfl (same ▸ record)
  case h_3 => rfl

theorem raiseLimit_of_new {k : Correction} {limit : Limit} (clamped : k.clamped = some limit) (s : State) :
    raiseLimit h x false k s = raise (.delayLimit h x limit) s := by
  simp [raiseLimit, clamped]

theorem raiseLimit_of_not_new {k : Correction} {was : Bool} (not : k.clamped = none ∨ was = true) (s : State) :
    raiseLimit h x was k s = s := by
  unfold raiseLimit
  rcases not with none | rfl
  · rw [none]
  · split <;> rfl

theorem applyCorrection_of_same {k : Correction} (same : k.newDelay = f.launchDelay) :
    applyCorrection h x f k s = setTracking h { f with drift := 0 } s :=
  if_pos same

theorem applyCorrection_of_room {k : Correction} (new : k.newDelay ≠ f.launchDelay) (room : s.builder.backlog.length < 256) :
    applyCorrection h x f k s =
      queueMessage (.setDelay h k.newDelay) (some x) (setTracking h { f with correctionPending := true } s) :=
  (if_neg new).trans (if_pos ((backlogRoom_iff s).2 room))

theorem applyCorrection_of_full {k : Correction} (new : k.newDelay ≠ f.launchDelay) (full : 256 ≤ s.builder.backlog.length) :
    applyCorrection h x f k s =
      queueMessage (.setDelay h k.newDelay) (some x) (setTracking h { f with drift := 0 } s) :=
  (if_neg new).trans (if_neg fun room => Nat.not_lt.2 full ((backlogRoom_iff s).1 room))

theorem trackedFor_eq_none {y : Handoff} (other : ∀ x found r, y ≠ .tracked h x found r) : trackedFor h y = none := by
  refine Option.eq_none_iff_forall_ne_some.2 fun a selected => ?_
  obtain ⟨x, found, r⟩ := a
  exact other x found r (trackedFor_eq_some.1 selected)

theorem exec_trackerResultApplied_of_none (run : running s = true) (none : ∀ x found r, Handoff.tracked h x found r ∉ s.handed) :
    exec (.trackerResultApplied h) s = .next s := by
  refine congrArg Host.Outcome.next ((if_pos run).trans ?_)
  rw [takeTrackedFor, takeHanded_eq_none fun y mem => trackedFor_eq_none fun x found r e => none x found r (e ▸ mem)]

theorem exec_trackerResultApplied_of_first {before after : List Handoff} (run : running s = true)
    (split : s.handed = before ++ .tracked h x found r :: after) (first : ∀ y g q, Handoff.tracked h y g q ∉ before) :
    exec (.trackerResultApplied h) s = .next (takeTracked h x found r { s with handed := before ++ after }) := by
  refine congrArg Host.Outcome.next ((if_pos run).trans ?_)
  rw [takeTrackedFor, takeHanded_of_split split (trackedFor_eq_some.2 rfl) fun y mem =>
    trackedFor_eq_none fun x found r e => first x found r (e ▸ mem)]

end Sys2Proof.Machine

namespace Sys2Proof.Proofs
open Sys2Proof.Machine

/-- Settles O44: the oldest result handed for the handle is applied by its kind (`applyTracked`), to an ACTIVE or OFFERING record alike
(`Tracks`). -/
theorem trackerResults : Obligations.TrackerResults := by
  intro h s run
  refine ⟨exec_trackerResultApplied_of_none run, fun x found r before after split first => ?_⟩
  intro t answers
  have taken : ∀ u, takeTracked h x found r t = u → answers u := fun u same =>
    (exec_trackerResultApplied_of_first run split first).trans (congrArg Host.Outcome.next same)
  refine ⟨fun active offering => taken _ (takeTracked_of_other active offering), fun f put withdrawn kind record => ?_⟩
  have tracks : Tracks x found put withdrawn := by
    rcases kind with ⟨rfl, rfl, rfl⟩ | ⟨p, d, rfl, rfl, rfl⟩
    · exact .active
    · exact .offering p d
  have held : recordAt t h = put f := record
  have applied (u : State) (same : applyTracked h x f r t = u) : answers u := taken u ((tracks.takeTracked held r).trans same)
  have written := tracks.setTracking held
  refine ⟨?_, ?_, ?_, ?_, ?_, ?_⟩
  · rintro n rfl
    exact applied _ (written _)
  · rintro rfl
    exact applied _ (tracks.declareLost held)
  · rintro rfl
    exact applied _ (written _)
  · rintro rfl
    exact applied _ rfl
  · rintro drift good rfl
    exact applied _ (written _)
  · rintro drift good k rfl a limited limits
    have limit (u : State) : raiseLimit h x f.atLimit k u = limited u := by
      rcases limits with ⟨l, clamped, off, rfl⟩ | ⟨not, rfl⟩
      · rw [off]
        exact raiseLimit_of_new clamped u
      · exact raiseLimit_of_not_new not u
    have corrected (u : State) (same : applyCorrection h x a k t = u) : answers (limited u) :=
      applied _ ((limit _).trans (congrArg limited same))
    refine ⟨fun same => corrected _ ?_, fun new room => corrected _ ?_, fun new full => corrected _ ?_⟩
    · exact (applyCorrection_of_same (f := a) same).trans (written _)
    · exact (applyCorrection_of_room (s := t) (f := a) new room).trans (congrArg _ (written _))
    · exact (applyCorrection_of_full (s := t) (f := a) new full).trans (congrArg _ (written _))

end Sys2Proof.Proofs
end

section
/-! Re-ranging entered (R36, R44), and the failure of a sequence that is no first one (R43). -/

namespace Sys2Proof.Machine

variable {s : State} {h : Handle} {x : Identity} {r : RangingFields} {delay : Nat} {lastGood : LocalCount} {cause : RerangeCause}
  {event first : State → State}

theorem backlogRoom_eq_false_iff (s : State) : backlogRoom s = false ↔ 256 ≤ s.builder.backlog.length := by
  simp [backlogRoom]

@[simp] theorem ahead_withdrawRequest (h : Handle) (s : State) (k : Nat) : ahead (withdrawRequest h s) k = ahead s k := by
  simp [ahead]

/-- A RERANGE sequence that fails sends its record to LOST with the launch delay and the last good cycle it kept (R43). -/
theorem failRanging_of_rerange (found : recordAt s h = .ranging x r) (again : r.origin = .rerange)
    (kept : r.launchDelay = some delay) (good : r.lastGood = some lastGood) (reason : RangingFailure) :
    failRanging h reason s = raise (.rangingFailed h x reason)
      (setRecord h (.lost x delay lastGood (ahead s s.host.config.retention)) (withdrawRequest h s)) := by
  simp [failRanging, found, again, kept, good, makeLost]

theorem queueAssign_of_room (room : backlogRoom s = true) :
    queueAssign h x event s = event (queueMessage (.assign x h) none s) :=
  if_pos room

theorem queueAssign_of_full (full : backlogRoom s = false) :
    queueAssign h x event s = failRanging h .notQueued (event (queueMessage (.assign x h) none s)) :=
  if_neg (by simp [full])

/-- The record re-ranged, its ASSIGN queued and RERANGE raised (R36). -/
def reranged (h : Handle) (x : Identity) (delay : Nat) (lastGood : LocalCount) (cause : RerangeCause) (first : State → State)
    (s : State) : State :=
  raise (.rerange h x cause.detail) (queueMessage (.assign x h) none
    (first (setRecord h (.ranging x (rerangingFields cause delay lastGood)) (withdrawRequest h s))))

/-- What a re-ranged record queues before its ASSIGN: nothing, or the notice that withdraws its offer (R36). -/
inductive QueuesFirst : (State → State) → Prop
  | nothing : QueuesFirst id
  | notice (n : Notice) : QueuesFirst (queueNotice n)

theorem QueuesFirst.backlogRoom_eq (queues : QueuesFirst first) (s : State) : backlogRoom (first s) = backlogRoom s := by
  cases queues <;> simp

theorem QueuesFirst.recordAt_eq (queues : QueuesFirst first) (s : State) (g : Handle) : recordAt (first s) g = recordAt s g := by
  cases queues <;> simp

theorem rerangeWith_of_room (queues : QueuesFirst first) (room : backlogRoom s = true) :
    rerangeWith h x delay lastGood cause first s = reranged h x delay lastGood cause first s :=
  queueAssign_of_room (by simp [queues.backlogRoom_eq, room])

/-- The ASSIGN refused: the sequence fails NOT-QUEUED after RERANGE, and the record is LOST (R43, R44). -/
theorem rerangeWith_of_full (queues : QueuesFirst first) (full : backlogRoom s = false) :
    rerangeWith h x delay lastGood cause first s = raise (.rangingFailed h x .notQueued)
      (setRecord h (.lost x delay lastGood (ahead s s.host.config.retention))
        (withdrawRequest h (reranged h x delay lastGood cause first s))) := by
  have written : recordAt (reranged h x delay lastGood cause first s) h = .ranging x (rerangingFields cause delay lastGood) := by
    simp [reranged, queues.recordAt_eq]
  have dated : ahead (reranged h x delay lastGood cause first s) (reranged h x delay lastGood cause first s).host.config.retention =
      ahead s s.host.config.retention := by
    cases queues <;> simp [reranged, ahead]
  refine (queueAssign_of_full (by simp [queues.backlogRoom_eq, full])).trans ?_
  exact (failRanging_of_rerange written rfl rfl rfl _).trans (by rw [dated])

end Sys2Proof.Machine

namespace Sys2Proof.Proofs
open Sys2Proof.Machine

/-- Settles O12: the four states from which a record enters re-ranging differ in what `rerangeWith` is given. -/
theorem enteringReranging : Obligations.EnteringReranging := by
  refine ⟨fun e => ⟨rfl, rfl⟩, ⟨rfl, rfl, rfl, rfl⟩, fun h x delay lastGood cause first s enters => ?_⟩
  intro fields t
  obtain ⟨entered, queues⟩ : enterReranging h cause s = rerangeWith h x delay lastGood cause first s ∧ QueuesFirst first := by
    rcases enters with ⟨f, found, rfl, rfl, rfl⟩ | ⟨f, peer, d, found, rfl, rfl, rfl⟩ | ⟨d, found, rfl⟩ |
      ⟨peer, d, retry, found, rfl, rfl⟩
    · exact ⟨by simp [enterReranging, found], .nothing⟩
    · exact ⟨by simp [enterReranging, found], .notice _⟩
    · exact ⟨by simp [enterReranging, found], .nothing⟩
    · exact ⟨by simp [enterReranging, found, now], .nothing⟩
  rw [entered]
  refine ⟨fun room => rerangeWith_of_room queues ((backlogRoom_iff s).2 room), fun full => ?_⟩
  exact rerangeWith_of_full queues ((backlogRoom_eq_false_iff s).2 full)

end Sys2Proof.Proofs
end

section
/-! The tests of a hearing (R20, R33, R34, R35). -/

namespace Sys2Proof.Machine

variable {s : State} {e : Hearing} {h : Handle}

theorem exec_hearing (run : running s = true) (e : Hearing) :
    exec (.hearing e) s = .next (takeHearing e (takeEvent (.hearing e) s)) :=
  congrArg Host.Outcome.next (if_pos run)

theorem isBarred_iff (s : State) (x : Identity) : isBarred s x = true ↔ x ∈ s.table.barred := by
  simp [isBarred]

theorem contestedEntry_isSome_iff (s : State) (x : Identity) :
    (contestedEntry s x).isSome = true ↔ ∃ c ∈ s.table.contested, c.identity = x := by
  simp [contestedEntry]

theorem takeHearing_of_barred (barred : e.identity ∈ s.table.barred) :
    takeHearing e s =
      raise (.barredHeard e.identity e.attemptCount) (queueMessage (.drop (.byIdentity e.identity) .barred) none s) :=
  if_pos ((isBarred_iff s _).2 barred)

theorem takeHearing_of_contested (unbarred : e.identity ∉ s.table.barred)
    (contested : ∃ c ∈ s.table.contested, c.identity = e.identity) : takeHearing e s = bump .contestedIgnored s := by
  simp [takeHearing, isBarred, unbarred, (contestedEntry_isSome_iff s _).2 contested]

theorem takeHearing_of_held (unbarred : e.identity ∉ s.table.barred)
    (uncontested : ∀ c ∈ s.table.contested, c.identity ≠ e.identity) (held : holder s e.identity = some h) :
    takeHearing e s = heardAgain h e s := by
  have entry : contestedEntry s e.identity = none := by simpa [contestedEntry] using uncontested
  simp [takeHearing, isBarred, unbarred, entry, held]

theorem takeHearing_of_unknown (unbarred : e.identity ∉ s.table.barred)
    (uncontested : ∀ c ∈ s.table.contested, c.identity ≠ e.identity) (unknown : holder s e.identity = none) :
    takeHearing e s = heardUnknown e s := by
  have entry : contestedEntry s e.identity = none := by simpa [contestedEntry] using uncontested
  simp [takeHearing, isBarred, unbarred, entry, unknown]

/-- A tracked or LOST record heard again is re-ranged (R35). -/
theorem heardAgain_of_tracked_or_lost
    (state : (recordAt s h).state = .active ∨ (recordAt s h).state = .offering ∨ (recordAt s h).state = .lost) :
    heardAgain h e s = enterReranging h (.heard e) s := by
  unfold heardAgain
  cases record : recordAt s h with
  | active | offering | lost => rfl
  | _ => simp [record, Record.state] at state

theorem heardAgain_of_leaving_or_arriving (state : (recordAt s h).state = .leaving ∨ (recordAt s h).state = .arriving) :
    heardAgain h e s = bump .contestedIgnored s := by
  unfold heardAgain
  cases record : recordAt s h with
  | leaving | arriving => rfl
  | _ => simp [record, Record.state] at state

theorem heardAgain_of_pending_or_ranging (state : (recordAt s h).state = .pending ∨ (recordAt s h).state = .ranging) :
    heardAgain h e s = s := by
  unfold heardAgain
  cases record : recordAt s h with
  | pending | ranging => rfl
  | _ => simp [record, Record.state] at state

theorem heardUnknown_of_free (free : lowestFree s = some h) :
    heardUnknown e s = queueNotice (.claim e.identity e.heardCycle)
      (setRecord h (.pending e.identity ⟨e.heardCycle, e.coarse⟩ (ahead s s.host.config.settleTime)) s) := by
  simp [heardUnknown, free]

theorem heardUnknown_of_full (full : lowestFree s = none) :
    heardUnknown e s = raise (.tableFull e.identity e.attemptCount) s := by
  simp [heardUnknown, full]

end Sys2Proof.Machine

namespace Sys2Proof.Proofs
open Sys2Proof.Machine

/-- Settles O40: the tests of `takeHearing`, each made on the state that no longer hands the hearing. -/
theorem hearingTests : Obligations.HearingTests := by
  intro e s run x s' answers
  have taken {t : State} (same : takeHearing e s' = t) : answers t :=
    (exec_hearing run e).trans (congrArg Host.Outcome.next same)
  refine ⟨fun barred => taken (takeHearing_of_barred barred), fun unbarred => ⟨fun contested => ?_, fun uncontested => ?_⟩⟩
  · exact taken (takeHearing_of_contested unbarred contested)
  refine ⟨fun h held => ?_, fun unknown h free => ?_, fun unknown full => ?_⟩
  · have again := takeHearing_of_held (s := s') unbarred uncontested held
    exact ⟨fun state => taken (again.trans (heardAgain_of_tracked_or_lost state)),
      fun state => taken (again.trans (heardAgain_of_leaving_or_arriving state)),
      fun state => taken (again.trans (heardAgain_of_pending_or_ranging state))⟩
  · exact taken ((takeHearing_of_unknown (s := s') unbarred uncontested unknown).trans (heardUnknown_of_free free))
  · exact taken ((takeHearing_of_unknown (s := s') unbarred uncontested unknown).trans (heardUnknown_of_full full))

end Sys2Proof.Proofs
end

section
/-! RERANGE and HANDOVER (R51, R157). -/

namespace Sys2Proof.Machine

variable {s : State} {h : Handle} {x : Identity} {b d : Byte} {target : Channel} {t : Tracking}

theorem handleByte_of_high (high : 128 ≤ b.toNat) : handleByte b = none :=
  dif_neg (Nat.not_lt.2 high)

theorem handleByte_of_handle (names : b.toNat = h.val) : handleByte b = some h := by
  simp [handleByte, names]

/-! ### RERANGE -/

theorem exec_rerange (held : s.host.held = false) (done : owedScheduler s = s) (run : s.host.part = .running) (b : Byte) :
    exec (.rerange b) s = .next (rerange b s) :=
  congrArg Host.Outcome.next (command_of_taken held done (by rw [run]; rfl) _)

theorem rerange_of_high (high : 128 ≤ b.toNat) (s : State) : rerange b s = respond (.badParameter 1) s := by
  simp [rerange, handleByte_of_high high]

theorem rerange_of_handle (names : b.toNat = h.val) (s : State) : rerange b s = rerangeRecord h s := by
  simp [rerange, handleByte_of_handle names]

theorem rerangeRecord_of_free (free : recordAt s h = .free) : rerangeRecord h s = respond .noSuchHandle s := by
  simp [rerangeRecord, free]

theorem rerangeRecord_of_tracked_or_lost
    (state : (recordAt s h).state = .active ∨ (recordAt s h).state = .offering ∨ (recordAt s h).state = .lost) :
    rerangeRecord h s = respondOk (enterReranging h .host s) := by
  unfold rerangeRecord
  cases record : recordAt s h with
  | active | offering | lost => rfl
  | _ => simp [record, Record.state] at state

theorem rerangeRecord_of_busy
    (state : (recordAt s h).state = .pending ∨ (recordAt s h).state = .ranging ∨ (recordAt s h).state = .leaving ∨
      (recordAt s h).state = .arriving) : rerangeRecord h s = respond .busy s := by
  unfold rerangeRecord
  cases record : recordAt s h with
  | pending | ranging | leaving | arriving => rfl
  | _ => simp [record, Record.state] at state

/-! ### HANDOVER -/

theorem exec_handover (held : s.host.held = false) (done : owedScheduler s = s) (run : s.host.part = .running) (b d : Byte) :
    exec (.handover b d) s = .next (handover b d s) :=
  congrArg Host.Outcome.next (command_of_taken held done (by rw [run]; rfl) _)

theorem handoverTarget_eq_none {hp : HostPort}
    (bad : hp.config.channelCount ≤ d.toNat ∨ 4 ≤ d.toNat ∨ d.toNat = hp.ownChannel.val) : handoverTarget hp d = none := by
  unfold handoverTarget channelByte
  split
  case isTrue channel =>
    refine Option.filter_eq_none_iff.2 fun c named passes => ?_
    obtain rfl := Option.some.inj named
    simp only [Bool.and_eq_true, bne_iff_ne, decide_eq_true_eq] at passes
    obtain ⟨other, below⟩ := passes
    rcases bad with above | above | own
    · exact Nat.not_lt.2 above below
    · exact Nat.not_lt.2 above channel
    · exact other (Fin.ext own)
  case isFalse => rfl

theorem handoverTarget_eq_some {hp : HostPort} (names : d.toNat = target.val) (below : target.val < hp.config.channelCount)
    (other : target ≠ hp.ownChannel) : handoverTarget hp d = some target := by
  have channel : channelByte d = some target := by simp [channelByte, names]
  simp [handoverTarget, channel, below, other]

theorem handover_of_high (high : 128 ≤ b.toNat) (d : Byte) (s : State) : handover b d s = respond (.badParameter 1) s := by
  simp [handover, handleByte_of_high high]

theorem handover_of_no_target (names : b.toNat = h.val) (none : handoverTarget s.host d = none) :
    handover b d s = respond (.badParameter 2) s := by
  simp [handover, handleByte_of_handle names, none]

theorem handover_of_target (names : b.toNat = h.val) (some : handoverTarget s.host d = some target) :
    handover b d s = handoverRecord h target s := by
  simp [handover, handleByte_of_handle names, some]

theorem handoverRecord_of_free (free : recordAt s h = .free) : handoverRecord h target s = respond .noSuchHandle s := by
  simp [handoverRecord, free]

theorem handoverRecord_of_busy (held : (recordAt s h).state ≠ .free) (other : (recordAt s h).state ≠ .active) :
    handoverRecord h target s = respond .busy s := by
  unfold handoverRecord
  cases record : recordAt s h with
  | free => simp [record, Record.state] at held
  | active => simp [record, Record.state] at other
  | _ => rfl

/-- A lane is the one wired to its channel (R132). -/
theorem laneOf_laneChannel (own : Channel) (l : LaneNo) : laneOf own (laneChannel own l) = some l := by
  revert own l
  decide

theorem laneUp_iff (l : LaneNo) (wired : laneChannel s.host.ownChannel l = target) :
    laneUp s target = true ↔ s.link.lanes[l].state = .up := by
  simp [laneUp, ← wired, laneOf_laneChannel]

theorem handoverRecord_of_lane_up (found : recordAt s h = .active x t) (up : laneUp s target = true) :
    handoverRecord h target s = respondOk (makeOffer h x t target s) := by
  simp [handoverRecord, found, up]

theorem handoverRecord_of_lane_down (found : recordAt s h = .active x t) (down : ¬ laneUp s target = true) :
    handoverRecord h target s = respond .laneDown s := by
  simp [handoverRecord, found, down]

end Sys2Proof.Machine

namespace Sys2Proof.Proofs
open Sys2Proof.Machine

/-- Settles O51: the cases of `rerange` and `handover` in their order. -/
theorem rerangeAndHandover : Obligations.RerangeAndHandover := by
  intro s held run owed
  have done : owedScheduler s = s := owedScheduler_of_not_owed owed
  have reranges {b : Byte} {t : State} (same : rerange b s = t) : exec (.rerange b) s = .next t :=
    (exec_rerange held done run b).trans (congrArg Host.Outcome.next same)
  have hands {b d : Byte} {t : State} (same : handover b d s = t) : exec (.handover b d) s = .next t :=
    (exec_handover held done run b d).trans (congrArg Host.Outcome.next same)
  refine ⟨fun b high => ⟨reranges (rerange_of_high high s), fun d => hands (handover_of_high high d s)⟩, fun b h names => ?_⟩
  have record := rerange_of_handle names s
  refine ⟨fun free => reranges (record.trans (rerangeRecord_of_free free)),
    fun state => reranges (record.trans (rerangeRecord_of_tracked_or_lost state)),
    fun state => reranges (record.trans (rerangeRecord_of_busy state)),
    fun d bad => hands (handover_of_no_target names (handoverTarget_eq_none bad)), fun d target channel below other => ?_⟩
  have offered := handover_of_target (s := s) names (handoverTarget_eq_some channel below other)
  refine ⟨fun free => hands (offered.trans (handoverRecord_of_free free)),
    fun holds busy => hands (offered.trans (handoverRecord_of_busy holds busy)),
    fun x f found l wired => ⟨fun down => ?_, fun up => ?_⟩⟩
  · exact hands (offered.trans (handoverRecord_of_lane_down found fun up => down ((laneUp_iff l wired).1 up)))
  · exact hands (offered.trans (handoverRecord_of_lane_up found ((laneUp_iff l wired).2 up)))

end Sys2Proof.Proofs
end

section
/-! Hand-offs taken in the order they were handed (R72, R175), and the next placement asked for (R98, R99, R108). -/

namespace Sys2Proof.Machine

theorem running_of_standing_eq {s t : State} (e : standing t = standing s) : running t = running s := by
  have kept := footing_eq_of_standing_eq e
  have held : t.host.held = s.host.held := congrArg Footing.held kept
  have part : t.host.part = s.host.part := congrArg Footing.part kept
  rw [running, running, held, part]

theorem filterMap_of_split {α : Type} {sel : Handoff → Option α} {xs before after : List Handoff} {x : Handoff} {a : α}
    (split : xs = before ++ x :: after) (chosen : sel x = some a) (oldest : ∀ y ∈ before, sel y = none) :
    xs.filterMap sel = a :: after.filterMap sel := by
  rw [split, List.filterMap_append, List.filterMap_eq_nil_iff.2 oldest, List.nil_append, List.filterMap_cons_some chosen]

/-- Where the oldest is not the one asked for but a later one is, the oldest is taken first. -/
theorem takeWantedInOrder_of_older {α : Type} [DecidableEq α] {sel : Handoff → Option α} {want : α → Bool}
    {take : α → State → State} {a b : α} {rest : List α} {s : State} (waiting : s.handed.filterMap sel = a :: rest)
    (left : (take a s).handed.filterMap sel = rest) (other : want a = false) (later : b ∈ rest) (wanted : want b = true) :
    takeWantedInOrder sel want take s = takeWantedInOrder sel want take (take a s) := by
  obtain ⟨c, found⟩ : ∃ c, rest.find? want = some c := Option.isSome_iff_exists.1 (List.find?_isSome.2 ⟨b, later, wanted⟩)
  have apart : a ≠ c := by
    rintro rfl
    exact absurd (List.find?_some found) (by simp [other])
  have before : (s.handed.filterMap sel).find? want = some c := by
    rw [waiting, List.find?_cons_of_neg (by simp [other]), found]
  have after : ((take a s).handed.filterMap sel).find? want = some c := by rw [left, found]
  have older : olderHanded sel c s = a :: olderHanded sel c (take a s) := by
    simp [olderHanded, waiting, left, apart]
  simp only [takeWantedInOrder, before, after, takeInOrder_of_older older rfl]

variable {s : State} {h : Handle} {x : Identity} {r : RangingFields}

theorem askOrWait_of_held (held : Hold.ranging ∈ s.sched.stack) : askOrWait h s = setSlot h .idle s :=
  if_pos (by simp [isHeld, held])

theorem askOrWait_of_not_held (clear : Hold.ranging ∉ s.sched.stack) (found : recordAt s h = .ranging x r) :
    askOrWait h s = request ⟨.range (expectedLoop s.host.config r), h, x⟩ (setSlot h (.asked x) s) := by
  simp [askOrWait, isHeld, clear, askRange, askRangeBy, found]

end Sys2Proof.Machine
end

section
/-! Outcomes applied (R40, R42, R43, R108) and placements taken (R17, R72, R100). -/

namespace Sys2Proof.Machine

variable {s : State} {h : Handle} {x : Identity} {r : RangingFields} {o : RangingOutcome} {cycle : TreeCycle} {offset : Nat}
  {before after : List Handoff}

/-- A record that takes no outcome and no attempt of `x`: it is not of that identity in stage ATTEMPTING. -/
theorem not_attempting_of_record {y : Identity} (idle : ∀ r, recordAt s h = .ranging x r → r.stage ≠ .attempting)
    (found : recordAt s h = .ranging y r) : ¬ (y = x ∧ r.stage = .attempting) := by
  rintro ⟨rfl, attempting⟩
  exact idle r found attempting

/-! ### Outcomes -/

theorem outcomeFor_eq_none {y : Handoff} (other : ∀ x o, y ≠ .outcome h x o) : outcomeFor h y = none :=
  Option.eq_none_iff_forall_ne_some.2 fun a read => other a.1 a.2 (outcomeFor_eq_some.1 read)

theorem exec_rangingOutcomeApplied_of_none (run : running s = true) (none : ∀ x o, Handoff.outcome h x o ∉ s.handed) :
    exec (.rangingOutcomeApplied h) s = .next s := by
  refine congrArg Host.Outcome.next ((if_pos run).trans ?_)
  rw [takeHanded_eq_none fun y mem => outcomeFor_eq_none fun x o e => none x o (e ▸ mem)]

theorem exec_rangingOutcomeApplied_of_first (run : running s = true) (split : s.handed = before ++ .outcome h x o :: after)
    (first : ∀ y o', Handoff.outcome h y o' ∉ before) :
    exec (.rangingOutcomeApplied h) s = .next (takeOutcome h x o { s with handed := before ++ after }) := by
  refine congrArg Host.Outcome.next ((if_pos run).trans ?_)
  rw [takeHanded_of_split split (outcomeFor_eq_some.2 rfl) fun y mem =>
    outcomeFor_eq_none fun x o e => first x o (e ▸ mem)]

theorem settleSlot_of_answered (answered : slotAt s h = .answered x) : settleSlot h x s = setSlot h .idle s :=
  if_pos answered

theorem takeOutcome_of_attempting (found : recordAt s h = .ranging x r) (attempting : r.stage = .attempting)
    (answered : slotAt s h = .answered x) : takeOutcome h x o s = applyOutcome h x r o s := by
  simp [takeOutcome, found, attempting, answered]

/-- An outcome whose record or slot has moved on is dropped (R108). -/
theorem takeOutcome_of_moved_on
    (moved : ∀ r, recordAt s h = .ranging x r → r.stage = .attempting → slotAt s h ≠ .answered x) :
    takeOutcome h x o s = settleSlot h x s := by
  unfold takeOutcome
  split
  case h_1 y r found =>
    refine if_neg ?_
    rintro ⟨rfl, attempting, answered⟩
    exact moved r found attempting answered
  all_goals rfl

theorem applyOutcome_proceed_of_held {samples : List Int} {attempts : Nat} (held : Hold.ranging ∈ s.sched.stack) :
    applyOutcome h x r (.proceed samples attempts) s =
      setSlot h .idle (setRecord h (.ranging x { r with samples := samples, attempts := attempts }) s) :=
  askOrWait_of_held held

theorem applyOutcome_proceed_of_not_held {samples : List Int} {attempts : Nat} (clear : Hold.ranging ∉ s.sched.stack) :
    applyOutcome h x r (.proceed samples attempts) s = request ⟨.range (expectedLoop s.host.config r), h, x⟩
      (setSlot h (.asked x) (setRecord h (.ranging x { r with samples := samples, attempts := attempts }) s)) :=
  askOrWait_of_not_held (r := { r with samples := samples, attempts := attempts }) clear (recordAt_setRecord_self h _ s)

/-- An agreement written into its record, and its SET-DELAY queued (R40). -/
theorem applyOutcome_agreement {samples : List Int} {delay : Nat} (answered : slotAt s h = .answered x) :
    let agreed := queueMessage (.setDelay h delay) (some x)
      (setRecord h (.ranging x { r with samples := samples, stage := .awaitSetDelay, launchDelay := some delay })
        (setSlot h .idle s))
    applyOutcome h x r (.agreement samples delay) s = if backlogRoom s then agreed else failRanging h .notQueued agreed := by
  simp only [applyOutcome, settleSlot_of_answered answered]

theorem applyOutcome_failure {reason : RangingFailure} (answered : slotAt s h = .answered x) :
    applyOutcome h x r (.failure reason) s = failRanging h reason (setSlot h .idle s) := by
  rw [applyOutcome, settleSlot_of_answered answered]

/-- A FRESH sequence that fails: the record is freed, with a DROP named by its stage and a RELEASE (R32, R42). -/
theorem failRanging_of_fresh (found : recordAt s h = .ranging x r) (fresh : r.origin = .fresh) (reason : RangingFailure) :
    failRanging h reason s = raise (.rangingFailed h x reason) (freeRecord h (queueNotice (.release x)
      (queueMessage (.drop (if r.stage = .awaitAssign then .byIdentity x else .byHandle h) .ranging) none s))) := by
  simp [failRanging, found, fresh, dropAndRelease, queueDrop, dropAddress]

/-! ### Placements -/

theorem exec_attemptPlaced (run : running s = true) (h : Handle) :
    exec (.attemptPlaced h) s = .next (takeWantedInOrder placementHanded (fun p => p.handle == h) takeOnePlacement s) :=
  congrArg Host.Outcome.next (if_pos run)

theorem placementHanded_eq_none {y : Handoff} (other : ∀ h x c o, y ≠ .placed h x c o) : placementHanded y = none :=
  Option.eq_none_iff_forall_ne_some.2 fun _ read => other _ _ _ _ (placementHanded_eq_some.1 read)

theorem exec_attemptPlaced_of_none (run : running s = true) (none : ∀ x c o, Handoff.placed h x c o ∉ s.handed) :
    exec (.attemptPlaced h) s = .next s := by
  rw [exec_attemptPlaced run, takeWantedInOrder_of_none fun y mem p read => ?_]
  rw [placementHanded_eq_some.1 read] at mem
  refine beq_false_of_ne ?_
  rintro rfl
  exact none _ _ _ mem

/-- An older placement of another handle is taken first (R72). -/
theorem exec_attemptPlaced_of_older {p q : RangePlacement} (run : running s = true)
    (split : s.handed = before ++ p.handoff :: after) (oldest : ∀ h x c o, Handoff.placed h x c o ∉ before)
    (later : q.handoff ∈ after) (other : q.handle ≠ p.handle) :
    exec (.attemptPlaced p.handle) s = .next (takeOnePlacement p s) ∧
      exec (.attemptPlaced q.handle) s = exec (.attemptPlaced q.handle) (takeOnePlacement p s) := by
  have unread : ∀ y ∈ before, placementHanded y = none := fun y mem =>
    placementHanded_eq_none fun h x c o e => oldest h x c o (e ▸ mem)
  have waiting := filterMap_of_split split (placementHanded_eq_some.2 rfl) unread
  have still : running (takeOnePlacement p s) = true := (running_of_standing_eq (standing_takeOnePlacement p s)).trans run
  rw [exec_attemptPlaced run, exec_attemptPlaced run, exec_attemptPlaced still,
    takeWantedInOrder_of_oldest (want := fun k => k.handle == p.handle) split (placementHanded_eq_some.2 rfl) unread
      (beq_self_eq_true p.handle),
    takeWantedInOrder_of_older (want := fun k => k.handle == q.handle) waiting (placementsHanded_takeOnePlacement waiting)
      (beq_false_of_ne other.symm) (List.mem_filterMap.2 ⟨_, later, placementHanded_eq_some.2 rfl⟩) (beq_self_eq_true q.handle)]
  exact ⟨rfl, rfl⟩

/-- The slot that awaits a placement is OUT (R100). -/
def placedSlot (h : Handle) (x : Identity) (cycle : TreeCycle) (offset : Nat) (s : State) : State :=
  if slotAt s h = .asked x then setSlot h (.out x cycle offset) s else s

theorem takePlacement_of_attempting (found : recordAt s h = .ranging x r) (attempting : r.stage = .attempting) :
    takePlacement h x cycle offset s =
      setRecord h (.ranging x { r with attempts := r.attempts + 1 }) (placedSlot h x cycle offset s) := by
  simp [takePlacement, found, attempting, placedSlot]

theorem takePlacement_of_not_attempting (idle : ∀ r, recordAt s h = .ranging x r → r.stage ≠ .attempting) :
    takePlacement h x cycle offset s = placedSlot h x cycle offset s := by
  unfold takePlacement
  dsimp only
  split
  case h_1 y r found => exact if_neg (not_attempting_of_record idle found)
  all_goals rfl

end Sys2Proof.Machine

namespace Sys2Proof.Proofs
open Sys2Proof.Machine

/-- Settles O42: the oldest outcome handed for the handle is applied by its kind (`applyOutcome`) or dropped; placements are taken in the
order they were handed (`takeWantedInOrder_of_older`). -/
theorem outcomesAndPlacements : Obligations.OutcomesAndPlacements := by
  refine ⟨fun g h x y c d a b before after s run split oldest later other => ?_, fun h x before after s run => ?_⟩
  · exact ⟨_, exec_attemptPlaced_of_older (p := ⟨g, x, c, a⟩) (q := ⟨h, y, d, b⟩) run split oldest later other⟩
  intro t
  refine ⟨fun o split first => ?_, fun cycle offset split oldest => ?_, exec_rangingOutcomeApplied_of_none run,
    exec_attemptPlaced_of_none run, fun r reason found => ⟨fun fresh => failRanging_of_fresh found fresh reason,
      fun delay good again kept dated => failRanging_of_rerange found again kept dated reason⟩⟩
  · intro answers
    have taken {u : State} (same : takeOutcome h x o t = u) : answers u :=
      (exec_rangingOutcomeApplied_of_first run split first).trans (congrArg Host.Outcome.next same)
    refine ⟨fun r found attempting answered => ?_, fun moved => taken (takeOutcome_of_moved_on moved)⟩
    have applied {u : State} (same : applyOutcome h x r o t = u) : answers u :=
      taken ((takeOutcome_of_attempting (s := t) found attempting answered).trans same)
    refine ⟨?_, ?_, ?_⟩
    · rintro samples attempts rfl
      exact ⟨fun held => applied (applyOutcome_proceed_of_held held),
        fun clear => applied (applyOutcome_proceed_of_not_held clear)⟩
    · rintro samples delay rfl
      have agreed := applyOutcome_agreement (s := t) (r := r) (samples := samples) (delay := delay) answered
      exact ⟨fun room => applied (agreed.trans (if_pos ((backlogRoom_iff t).2 room))),
        fun full => applied (agreed.trans (if_neg (Bool.eq_false_iff.1 ((backlogRoom_eq_false_iff t).2 full))))⟩
    · rintro reason rfl
      exact applied (applyOutcome_failure answered)
  · have taken {u : State} (same : takePlacement h x cycle offset t = u) : exec (.attemptPlaced h) s = .next u :=
      (execAttemptPlaced_of_oldest run split oldest).trans (congrArg Host.Outcome.next same)
    refine ⟨fun r found attempting asked => ?_, fun r found attempting other => ?_, fun idle asked => ?_, fun idle other => ?_⟩
    · exact taken ((takePlacement_of_attempting (s := t) found attempting).trans (congrArg _ (if_pos asked)))
    · exact taken ((takePlacement_of_attempting (s := t) found attempting).trans (congrArg _ (if_neg other)))
    · exact taken ((takePlacement_of_not_attempting (s := t) idle).trans (if_pos asked))
    · exact taken ((takePlacement_of_not_attempting (s := t) idle).trans (if_neg other))

end Sys2Proof.Proofs
end

section
/-! Delivery notices (R4, R39, R41, R45, R98, R99, R121, R175). -/

namespace Sys2Proof.Machine

variable {s : State} {h : Handle} {x : Identity} {r : RangingFields} {f : Tracking} {delay : Nat} {c : TreeCycle}
  {before after : List Handoff}

theorem expectedLoop_of_heard {heard : HeardAt} (found : r.heard = some heard) (c : Configuration) :
    expectedLoop c r = heard.coarse := by
  simp [expectedLoop, found]

theorem expectedLoop_of_launchDelay (unheard : r.heard = none) (kept : r.launchDelay = some delay) (c : Configuration) :
    expectedLoop c r = (c.treeLoopTime : Int) - 40000 - delay := by
  simp [expectedLoop, unheard, kept, responseOffset]

theorem ofEarlierSequence_iff (h : Handle) (y : Handoff) :
    ofEarlierSequence h y = true ↔ (∃ x o, y = .outcome h x o) ∨ ∃ x c offset, y = .placed h x c offset := by
  cases y <;> simp [ofEarlierSequence, outcomeFor, placementFor]

/-! ### The rows -/

/-- The row of a notice takes the oldest notice of that row. -/
theorem exec_row (e : Delivery) (s : State) : exec e.row s = .next (deliveryRow (fun d => d.row = e.row) s) := by
  have selects (sel : Delivery → Bool) (same : ∀ d, sel d = decide (d.row = e.row)) :
      deliveryRow sel s = deliveryRow (fun d => d.row = e.row) s := by
    rw [funext same]
  cases e with
  | assign h x c =>
    exact congrArg Host.Outcome.next (selects (Delivery.isAssign h) fun d => by
      cases d <;> simp [Delivery.isAssign, Delivery.row, Bool.beq_eq_decide_eq])
  | setDelay h x delay c =>
    exact congrArg Host.Outcome.next (selects (Delivery.isSetDelay h) fun d => by
      cases d <;> simp [Delivery.isSetDelay, Delivery.row, Bool.beq_eq_decide_eq])
  | retune h x c =>
    exact congrArg Host.Outcome.next (selects (Delivery.isRetune h) fun d => by
      cases d <;> simp [Delivery.isRetune, Delivery.row, Bool.beq_eq_decide_eq])

theorem exec_row_of_oldest {d : Delivery} (run : running s = true) (split : s.handed = before ++ .delivered d :: after)
    (oldest : ∀ b, Handoff.delivered b ∉ before) :
    exec d.row s = .next (actOnDelivery d { s with handed := before ++ after }) := by
  rw [exec_row, deliveryRow_of_oldest run split oldest (decide_eq_true rfl)]

theorem exec_row_of_none {e : Delivery} (none : ∀ d : Delivery, d.row = e.row → Handoff.delivered d ∉ s.handed) :
    exec e.row s = .next s := by
  rw [exec_row, deliveryRow_of_none fun d mem => decide_eq_false fun same => none d same mem]

/-- An older notice of another row is taken first (R45, R175). -/
theorem exec_row_of_older {d e : Delivery} (run : running s = true) (split : s.handed = before ++ .delivered d :: after)
    (oldest : ∀ b, Handoff.delivered b ∉ before) (later : Handoff.delivered e ∈ after) (other : e.row ≠ d.row) :
    exec d.row s = .next (takeDelivery d s) ∧ exec e.row s = exec e.row (takeDelivery d s) := by
  have unread : ∀ y ∈ before, deliveryNotice y = none := fun y mem =>
    Option.eq_none_iff_forall_ne_some.2 fun b read => oldest b (deliveryNotice_eq_some.1 read ▸ mem)
  have waiting := filterMap_of_split split (deliveryNotice_eq_some.2 rfl) unread
  have still : running (takeDelivery d s) = true := (running_of_standing_eq (standing_takeDelivery d s)).trans run
  rw [exec_row, exec_row, exec_row, deliveryRow, deliveryRow, deliveryRow, if_pos run, if_pos run, if_pos still,
    takeWantedInOrder_of_oldest split (deliveryNotice_eq_some.2 rfl) unread (decide_eq_true rfl),
    takeWantedInOrder_of_older waiting (goes_takeDelivery waiting).2 (decide_eq_false other.symm)
      (List.mem_filterMap.2 ⟨_, later, deliveryNotice_eq_some.2 rfl⟩) (decide_eq_true rfl)]
  exact ⟨rfl, rfl⟩

/-! ### ASSIGN -/

/-- The record in stage ATTEMPTING, with nothing of an earlier sequence in flight (R39, R99). -/
def attemptsBegun (h : Handle) (x : Identity) (r : RangingFields) (s : State) : State :=
  { setRecord h (.ranging x { r with stage := .attempting }) s with
    handed := s.handed.filter fun y => !ofEarlierSequence h y }

theorem assignDelivered_of_awaits (found : recordAt s h = .ranging x r) (awaits : r.stage = .awaitAssign) :
    assignDelivered h x s = askOrWait h (attemptsBegun h x r s) := by
  simp [assignDelivered, found, awaits, beginAttempts, attemptsBegun]

theorem recordAt_attemptsBegun (h : Handle) (x : Identity) (r : RangingFields) (s : State) :
    recordAt (attemptsBegun h x r s) h = .ranging x { r with stage := .attempting } :=
  recordAt_setRecord_self h _ s

theorem assignDelivered_of_moved_on (moved : ∀ r, recordAt s h = .ranging x r → r.stage ≠ .awaitAssign) :
    assignDelivered h x s = s := by
  unfold assignDelivered
  split
  case h_1 y r found =>
    refine if_neg ?_
    rintro ⟨rfl, awaits⟩
    exact moved r found awaits
  all_goals rfl

/-! ### SET-DELAY -/

/-- An agreed launch delay delivered: the record is ACTIVE from the cycle after the slate's (R41). -/
theorem setDelayDelivered_of_awaits (found : recordAt s h = .ranging x r) (awaits : r.stage = .awaitSetDelay)
    (agreed : r.launchDelay = some delay) :
    setDelayDelivered h x delay c s = raise (.registered h x r.origin.registered)
      (setRecord h (.active x (freshTracking delay (localOf s.time c + 1) (localOf s.time c - 1))) s) := by
  simp [setDelayDelivered, found, awaits, agreed]

theorem setDelayDelivered_of_active (found : recordAt s h = .active x f) (pending : f.correctionPending = true) :
    setDelayDelivered h x delay c s =
      setRecord h (.active x (correctedTracking f delay (localOf s.time c + 1))) s := by
  simp [setDelayDelivered, found, pending]

theorem setDelayDelivered_of_offering {p : Channel} {d : LocalCount} (found : recordAt s h = .offering x f p d)
    (pending : f.correctionPending = true) :
    setDelayDelivered h x delay c s =
      setRecord h (.offering x (correctedTracking f delay (localOf s.time c + 1)) p d) s := by
  simp [setDelayDelivered, found, pending]

theorem setDelayDelivered_of_moved_on
    (ranging : ∀ r, recordAt s h = .ranging x r → r.stage ≠ .awaitSetDelay ∨ r.launchDelay ≠ some delay)
    (active : ∀ f, recordAt s h = .active x f → f.correctionPending = false)
    (offering : ∀ f p d, recordAt s h = .offering x f p d → f.correctionPending = false) :
    setDelayDelivered h x delay c s = s := by
  unfold setDelayDelivered
  dsimp only
  split
  case h_1 y r found =>
    refine if_neg ?_
    rintro ⟨rfl, awaits, agreed⟩
    exact (ranging r found).elim (· awaits) (· agreed)
  case h_2 y f found =>
    refine if_neg ?_
    rintro ⟨rfl, pending⟩
    exact Bool.false_ne_true ((active f found).symm.trans pending)
  case h_3 y f p d found =>
    refine if_neg ?_
    rintro ⟨rfl, pending⟩
    exact Bool.false_ne_true ((offering f p d found).symm.trans pending)
  all_goals rfl

theorem Origin.registered_eq (o : Origin) : o.registered = if o = .fresh then .fresh else .rerange := by
  cases o <;> rfl

end Sys2Proof.Machine

namespace Sys2Proof.Proofs
open Sys2Proof.Machine

/-- Settles O45: the rows take the notices in the order they were handed (`exec_row_of_older`); the oldest acts on the record it matches
(`assignDelivered`, `setDelayDelivered`). -/
theorem deliveryNotices : Obligations.DeliveryNotices := by
  refine ⟨fun d e before after s run split oldest later other => ⟨_, exec_row_of_older run split oldest later other⟩,
    fun c r => ⟨fun heard found => expectedLoop_of_heard found c, fun delay unheard kept => expectedLoop_of_launchDelay unheard kept c⟩,
    ofEarlierSequence_iff, fun h x c before after s run => ?_⟩
  intro t
  refine ⟨fun split oldest => ?_, fun delay split oldest => ?_, fun split oldest => exec_row_of_oldest run split oldest,
    fun none => ?_, fun none => ?_, fun none => ?_⟩
  · have taken {u : State} (same : assignDelivered h x t = u) : exec (.assignDeliveryNotice h) s = .next u :=
      (exec_row_of_oldest run split oldest).trans (congrArg Host.Outcome.next same)
    refine ⟨fun r found awaits => ?_, fun moved => taken (assignDelivered_of_moved_on moved)⟩
    have begun := assignDelivered_of_awaits (s := t) found awaits
    refine ⟨fun held => taken (begun.trans (askOrWait_of_held held)), fun clear => taken (begun.trans ?_)⟩
    exact askOrWait_of_not_held (r := { r with stage := .attempting }) clear (recordAt_attemptsBegun h x r t)
  · intro answers dated effective corrected
    have taken {u : State} (same : setDelayDelivered h x delay c t = u) : answers u :=
      (exec_row_of_oldest run split oldest).trans (congrArg Host.Outcome.next same)
    refine ⟨fun r found awaits agreed => ?_, fun f found pending => ?_, fun f p d found pending => ?_,
      fun ranging active offering => taken (setDelayDelivered_of_moved_on ranging active offering)⟩
    · rw [← Origin.registered_eq]
      exact taken (setDelayDelivered_of_awaits (s := t) found awaits agreed)
    · exact taken (setDelayDelivered_of_active (s := t) found pending)
    · exact taken (setDelayDelivered_of_offering (s := t) found pending)
  · refine exec_row_of_none (e := .assign h x c) fun d same mem => ?_
    cases d <;> cases same
    exact none _ _ mem
  · refine exec_row_of_none (e := .setDelay h x 0 c) fun d same mem => ?_
    cases d <;> cases same
    exact none _ _ _ mem
  · refine exec_row_of_none (e := .retune h x c) fun d same mem => ?_
    cases d <;> cases same
    exact none _ _ mem

end Sys2Proof.Proofs
end

section
/-! The window scheduler's deadlines, reached and not (R58, R64, R65). -/

namespace Sys2Proof.Machine

variable {s : State}

/-- The passed spans are removed where the scheduler's work is owed. -/
theorem firstRemoval_eq (s : State) : firstRemoval s =
    { s with sched :=
      { s.sched with spans := s.sched.spans.filter fun x =>
          !(s.time.owesScheduler && decide (2 ≤ cycleDiff s.time.treeCycle x.last.cycle)) } } := by
  have near (x : Span) : (!decide (2 ≤ cycleDiff s.time.treeCycle x.last.cycle)) =
      decide (cycleDiff s.time.treeCycle x.last.cycle < 2) := by
    rw [← decide_not]
    exact decide_eq_decide.2 Int.not_le
  unfold firstRemoval
  cases owed : s.time.owesScheduler with
  | true => simp only [if_true, removePassedSpans, Bool.true_and, near]
  | false => simp

@[simp] theorem firstRemoval_time (s : State) : (firstRemoval s).time = s.time := by rw [firstRemoval_eq]

@[simp] theorem firstRemoval_host (s : State) : (firstRemoval s).host = s.host := by rw [firstRemoval_eq]

@[simp] theorem firstRemoval_calendar (s : State) : (firstRemoval s).sched.calendar = s.sched.calendar := by
  rw [firstRemoval_eq]

/-! ### A deadline reached, and one that is not or does not stand -/

theorem serveWindowStart_of_due {w : Window} (window : s.sched.window = some w) (announced : w.stage = .announced)
    (reached : due s w.startDeadline = true) : serveWindowStart s =
      { firstRemoval s with sched := { (firstRemoval s).sched with window := some { w with stage := .opened } } } := by
  simp [serveWindowStart, window, announced, reached]

theorem serveWindowStart_of_not_due
    (waits : ∀ w, s.sched.window = some w → w.stage = .announced → due s w.startDeadline = false) : serveWindowStart s = s := by
  unfold serveWindowStart
  split
  case h_1 w window => exact if_neg fun reached => by simp [waits w window reached.1] at reached
  · rfl

theorem serveWindowClose_of_due {w : Window} (window : s.sched.window = some w) (opened : w.stage = .opened)
    (reached : due s w.closeDeadline = true) : serveWindowClose s = raise (.windowClosed w.bursts)
      { firstRemoval s with sched :=
        { (firstRemoval s).sched with
          window := none, lastClosed := some w.grantCycle
          dueDeadline :=
            some (ahead s (if w.activity then s.host.config.fastPeriod else s.host.config.discoveryPeriod)) } } := by
  simp [serveWindowClose, window, opened, reached, ahead]

theorem serveWindowClose_of_not_due
    (waits : ∀ w, s.sched.window = some w → w.stage = .opened → due s w.closeDeadline = false) : serveWindowClose s = s := by
  unfold serveWindowClose
  split
  case h_1 w window => exact if_neg fun reached => by simp [waits w window reached.1] at reached
  · rfl

theorem serveDiscoveryDue_of_due {d : LocalCount} (deadline : s.sched.dueDeadline = some d) (reached : due s d = true) :
    serveDiscoveryDue s =
      { firstRemoval s with sched := { (firstRemoval s).sched with due := true, dueDeadline := none } } := by
  simp [serveDiscoveryDue, deadline, reached]

theorem serveDiscoveryDue_of_not_due (waits : ∀ d, s.sched.dueDeadline = some d → due s d = false) :
    serveDiscoveryDue s = s := by
  unfold serveDiscoveryDue
  split
  case h_1 d deadline => exact if_neg (by simp [waits d deadline])
  · rfl

/-! ### What serving a deadline can do -/

theorem serveWindowStart_cases (s : State) :
    (∃ w, s.sched.window = some w ∧ w.stage = .announced ∧ due s w.startDeadline = true ∧ serveWindowStart s =
      { firstRemoval s with sched := { (firstRemoval s).sched with window := some { w with stage := .opened } } }) ∨
    ((∀ w, s.sched.window = some w → w.stage = .announced → due s w.startDeadline = false) ∧ serveWindowStart s = s) := by
  by_cases serves : ∃ w, s.sched.window = some w ∧ w.stage = .announced ∧ due s w.startDeadline = true
  · obtain ⟨w, window, announced, reached⟩ := serves
    exact .inl ⟨w, window, announced, reached, serveWindowStart_of_due window announced reached⟩
  · have waits : ∀ w, s.sched.window = some w → w.stage = .announced → due s w.startDeadline = false :=
      fun w window announced => Bool.eq_false_iff.2 fun reached => serves ⟨w, window, announced, reached⟩
    exact .inr ⟨waits, serveWindowStart_of_not_due waits⟩

theorem serveWindowClose_cases (s : State) :
    (∃ w, s.sched.window = some w ∧ w.stage = .opened ∧ due s w.closeDeadline = true ∧ serveWindowClose s =
      raise (.windowClosed w.bursts)
        { firstRemoval s with sched :=
          { (firstRemoval s).sched with
            window := none, lastClosed := some w.grantCycle
            dueDeadline :=
              some (ahead s (if w.activity then s.host.config.fastPeriod else s.host.config.discoveryPeriod)) } }) ∨
    ((∀ w, s.sched.window = some w → w.stage = .opened → due s w.closeDeadline = false) ∧ serveWindowClose s = s) := by
  by_cases serves : ∃ w, s.sched.window = some w ∧ w.stage = .opened ∧ due s w.closeDeadline = true
  · obtain ⟨w, window, opened, reached⟩ := serves
    exact .inl ⟨w, window, opened, reached, serveWindowClose_of_due window opened reached⟩
  · have waits : ∀ w, s.sched.window = some w → w.stage = .opened → due s w.closeDeadline = false :=
      fun w window opened => Bool.eq_false_iff.2 fun reached => serves ⟨w, window, opened, reached⟩
    exact .inr ⟨waits, serveWindowClose_of_not_due waits⟩

theorem serveDiscoveryDue_cases (s : State) :
    (∃ d, s.sched.dueDeadline = some d ∧ due s d = true ∧ serveDiscoveryDue s =
      { firstRemoval s with sched := { (firstRemoval s).sched with due := true, dueDeadline := none } }) ∨
    ((∀ d, s.sched.dueDeadline = some d → due s d = false) ∧ serveDiscoveryDue s = s) := by
  by_cases serves : ∃ d, s.sched.dueDeadline = some d ∧ due s d = true
  · obtain ⟨d, deadline, reached⟩ := serves
    exact .inl ⟨d, deadline, reached, serveDiscoveryDue_of_due deadline reached⟩
  · have waits : ∀ d, s.sched.dueDeadline = some d → due s d = false :=
      fun d deadline => Bool.eq_false_iff.2 fun reached => serves ⟨d, deadline, reached⟩
    exact .inr ⟨waits, serveDiscoveryDue_of_not_due waits⟩

end Sys2Proof.Machine

namespace Sys2Proof.Proofs
open Sys2Proof.Machine

/-- Settles O14: each row serves its deadline where it is reached and stands, the passed spans removed first (`firstRemoval_eq`). -/
theorem schedulerDeadlines : Obligations.SchedulerDeadlines := by
  intro s run
  have row {t u : State} (same : t = u) :
      (.next (if running s then t else s) : Host.Outcome State Fault Refusal) = .next u := by rw [if_pos run, same]
  refine ⟨fun d deadline reached => row ?_, fun waits => row (serveDiscoveryDue_of_not_due waits),
    fun w window announced reached => row ?_, fun waits => row (serveWindowStart_of_not_due waits),
    fun w window opened reached => row ?_, fun waits => row (serveWindowClose_of_not_due waits)⟩
  · rw [serveDiscoveryDue_of_due deadline reached, firstRemoval_eq]
  · rw [serveWindowStart_of_due window announced reached, firstRemoval_eq]
  · rw [serveWindowClose_of_due window opened reached, firstRemoval_eq]

end Sys2Proof.Proofs
end

section
/-! The books of a RUNNING part: the spans, the window, the calendar, the issued grants and the reservations, with the laws that the
window scheduler and the slate builder keep of them (R55, R56, R63 to R65, R69, R82, R173). -/

namespace Sys2Proof.Machine

/-! ### The laws -/

/-- The laws of the window and of the calendar in RUNNING: `WindowLaws` without what other laws say. -/
structure WindowBooks (s : State) : Prop where
  part : s.host.part = .running
  agree : s.time.treeCycle = s.time.localCount.setWidth 16
  config : ConfigWithin s.host.config
  window : ∀ w ∈ s.sched.window, WindowWithin s w
  own : ∀ x ∈ s.sched.spans, x.isOwn = true →
    (∃ w ∈ s.sched.window, x = windowSpan w) ∨
      (s.time.owesScheduler = true ∧ 2 ≤ cycleDiff s.time.treeCycle x.last.cycle)
  ownOnce : s.sched.spans.countP Span.isOwn ≤ 1
  calendar : ∀ g ∈ s.sched.calendar, (if s.time.owesBuild then 1 else 2) ≤ cyclesTo s g.cycle ∧ cyclesTo s g.cycle ≤ 16
  discover : ∀ g ∈ s.sched.calendar, g.isDiscover = true → ∃ w ∈ s.sched.window, w.grantCycle = g.cycle
  discoverOnce : s.sched.calendar.countP Grant.isDiscover ≤ 1

/-- The laws of the grants out and of the reservations: `GrantLaws` without what other laws say. -/
structure GrantBooks (s : State) : Prop where
  loops : ∀ h : Handle, ∀ e ∈ (recordAt s h).coarse?, loopWithin e
  requests : ∀ q ∈ s.sched.placements, ∀ e, q.wanted = .range e → loopWithin e
  calendar : ∀ g ∈ s.sched.calendar.filterMap Grant.directed?,
    g.span.isDirected = true ∧ (g.span.last.cycle - g.cycle).toNat ≤ 8
  issued : ∀ g ∈ s.classifier.issued,
    g.span.isDirected = true ∧ -2 ≤ cycleDiff g.span.last.cycle s.time.treeCycle ∧
      cycleDiff g.span.last.cycle s.time.treeCycle ≤ 24
  listed : ∀ x : Span, cycleDiff s.time.treeCycle x.last.cycle < 2 →
    ((grantsOut s).map DirectedGrant.span).count x ≤ s.sched.spans.count x
  issuedBound : (grantsIssued s).length ≤ 32
  ahead : ∀ x ∈ s.builder.reservations, (x.isOwn || x.isDirected) = true →
    (if s.time.owesBuild then 1 else 2) ≤ cyclesTo s x.last.cycle ∧ cyclesTo s x.last.cycle ≤ 40
  reserved : ∀ x : Span, (x.isOwn || x.isDirected) = true → s.builder.reservations.count x ≤ s.sched.spans.count x

/-- The laws of the books; those of the grants are asked for where `full` holds, so that one walk through the model serves both halves
of the statement. -/
structure Books (full : Prop) (s : State) : Prop where
  window : WindowBooks s
  grants : full → GrantBooks s

/-- What the books are about, the rest of the state as at reset. -/
def booksView (s : State) : State :=
  { State.reset with
    time := s.time
    table := { Table.atReset with records := s.table.records }
    sched := { Scheduler.atReset with
      spans := s.sched.spans, window := s.sched.window, calendar := s.sched.calendar, placements := s.sched.placements }
    classifier := { Classifier.atReset with issued := s.classifier.issued }
    builder := { SlateBuilder.atReset with reservations := s.builder.reservations }
    host := { HostPort.atReset 0 with part := s.host.part, config := s.host.config } }

section
variable {full : Prop} {s t : State}

theorem windowWithin_booksView {w : Window} : WindowWithin (booksView s) w ↔ WindowWithin s w :=
  ⟨fun v => { v with }, fun v => { v with }⟩

theorem books_booksView : Books full (booksView s) ↔ Books full s where
  mp law :=
    { window := { law.window with window := fun w mem => windowWithin_booksView.1 (law.window.window w mem) }
      grants := fun whole => { law.grants whole with } }
  mpr law :=
    { window := { law.window with window := fun w mem => windowWithin_booksView.2 (law.window.window w mem) }
      grants := fun whole => { law.grants whole with } }

theorem Books.of_view (law : Books full s) (same : booksView t = booksView s) : Books full t :=
  books_booksView.1 (same ▸ books_booksView.2 law)

end

/-! ### Cycle numbers and deadlines -/

/-- The signed difference of two cycle numbers, read off the unsigned one. -/
theorem cycleDiff_eq (a b : TreeCycle) :
    cycleDiff a b = if (a - b).toNat < 32768 then ((a - b).toNat : Int) else ((a - b).toNat : Int) - 65536 := by
  rw [cycleDiff, BitVec.toInt_eq_toNat_cond]
  have : (a - b).toNat < 65536 := (a - b).isLt
  split <;> split <;> omega

/-- A deadline that is near is reached in its own cycle, where the scheduler's work is still owed. -/
theorem due_iff_of_deadlineWithin {s : State} {d : LocalCount} (near : deadlineWithin s 40 d) :
    due s d = true ↔ d = s.time.localCount := by
  obtain ⟨-, most⟩ := near
  simp only [due, reached, decide_eq_true_eq]
  constructor
  · intro reached
    bv_omega
  · rintro rfl
    simp

theorem owesScheduler_of_due {s : State} {d : LocalCount} (near : deadlineWithin s 40 d) (reached : due s d = true) :
    s.time.owesScheduler = true := by
  rw [due_iff_of_deadlineWithin near] at reached
  obtain ⟨least, -⟩ := near
  rw [reached, BitVec.sub_self] at least
  cases owed : s.time.owesScheduler with
  | true => rfl
  | false => simp [owed] at least

/-- The grant lead and the window length are short (R62). -/
theorem grantLead_le {c : Configuration} (within : ConfigWithin c) : grantLead c + 2 ≤ c.lead ∧ grantLead c ≤ 6 := by
  obtain ⟨-, -, leadTree⟩ := within.lead
  obtain ⟨-, loopHigh⟩ := within.treeLoopTime
  obtain ⟨maxLoop, -⟩ := within.maxLoopDelay
  have := within.minLoopDelay
  simp only [grantLead, nearestArrival, cycleLength, responseOffset] at *
  omega

theorem windowLength_le (c : Configuration) (within : ConfigWithin c) : 1 ≤ windowLength c ∧ windowLength c ≤ 6 := by
  obtain ⟨-, spread⟩ := within.maxLoopDelay
  simp only [windowLength, latestEnd, nearestArrival, cycleLength, responseOffset, largestScatter, burstLength,
    discoverySpread] at *
  omega

end Sys2Proof.Machine
end

section
/-! The deadlines of the window and the announcement keep the books (R56, R58, R61 to R65). -/

namespace Sys2Proof.Machine

variable {full : Prop} {s : State}

/-! ### Passed spans -/

/-- Where a window stands is read from the counts and the configuration. -/
theorem WindowWithin.of_same {t : State} {w : Window} (within : WindowWithin s w) (time : t.time = s.time)
    (config : t.host.config = s.host.config) : WindowWithin t w where
  grantCycle := config ▸ within.grantCycle
  last := config ▸ within.last
  start := within.start
  close := config ▸ within.close
  opening := fun announced => by
    rw [deadlineWithin, time]
    exact within.opening announced
  closing := by
    rw [deadlineWithin, time]
    exact within.closing

/-- No span is listed whose end lies two cycles back or more (R56). -/
def Unpassed (s : State) : Prop :=
  ∀ x ∈ s.sched.spans, cycleDiff s.time.treeCycle x.last.cycle < 2

theorem unpassed_removePassedSpans (s : State) : Unpassed (removePassedSpans s) :=
  fun _ mem => of_decide_eq_true (List.mem_filter.1 mem).2

theorem removePassedSpans_of_unpassed (clear : Unpassed s) : removePassedSpans s = s := by
  have kept : (s.sched.spans.filter fun x => cycleDiff s.time.treeCycle x.last.cycle < 2) = s.sched.spans :=
    List.filter_eq_self.2 fun x mem => decide_eq_true (clear x mem)
  rw [removePassedSpans, kept]

theorem firstRemoval_of_unpassed (clear : Unpassed s) : firstRemoval s = s := by
  rw [firstRemoval, removePassedSpans_of_unpassed clear, ite_self]

theorem count_removePassedSpans {x : Span} (near : cycleDiff s.time.treeCycle x.last.cycle < 2) :
    (removePassedSpans s).sched.spans.count x = s.sched.spans.count x :=
  List.count_filter (decide_eq_true near)

theorem Books.removePassedSpans (law : Books full s) : Books full (removePassedSpans s) where
  window :=
    { law.window with
      window := fun w mem => (law.window.window w mem).of_same rfl rfl
      own := fun x mem => law.window.own x (List.mem_of_mem_filter mem)
      ownOnce := List.filter_sublist.countP_le.trans law.window.ownOnce }
  grants := fun whole =>
    { law.grants whole with
      listed := fun x near => by
        rw [count_removePassedSpans (s := s) near]
        exact (law.grants whole).listed x near
      reserved := fun x ours => by
        by_cases mem : x ∈ s.builder.reservations
        · obtain ⟨least, most⟩ := (law.grants whole).ahead x mem ours
          have ahead : 1 ≤ (x.last.cycle - s.time.treeCycle).toNat := by
            rw [cyclesTo] at least
            split at least <;> omega
          rw [count_removePassedSpans]
          · exact (law.grants whole).reserved x ours
          · rw [cyclesTo] at most
            rw [cycleDiff_eq]
            split <;> bv_omega
        · exact (List.count_eq_zero.2 mem).trans_le (Nat.zero_le _) }

theorem Books.firstRemoval (law : Books full s) : Books full (firstRemoval s) := by
  unfold Machine.firstRemoval
  split
  · exact law.removePassedSpans
  · exact law

/-! ### The window's deadlines -/

theorem Books.serveDiscoveryDue (law : Books full s) : Books full (serveDiscoveryDue s) := by
  rcases serveDiscoveryDue_cases s with ⟨d, -, -, e⟩ | ⟨-, e⟩ <;> rw [e]
  · exact law.firstRemoval.of_view rfl
  · exact law

/-- The window in another stage, or with other marks of what it heard (R64). -/
theorem Books.setWindow {w v : Window} (law : Books full s) (window : s.sched.window = some w)
    (same : { v with stage := w.stage, bursts := w.bursts, activity := w.activity } = w)
    (stage : v.stage = .announced → w.stage = .announced) :
    Books full { s with sched := { s.sched with window := some v } } := by
  have within := law.window.window w window
  have spans : windowSpan w = windowSpan v := by rw [← same]; rfl
  have cycle : w.grantCycle = v.grantCycle := by rw [← same]
  refine ⟨{ law.window with window := ?_, own := fun x mem own => ?_, discover := fun g mem isDiscover => ?_ },
    fun whole => { law.grants whole with }⟩
  · rintro _ ⟨⟩
    rw [← same] at within
    exact ⟨within.grantCycle, within.last, within.start, within.close, fun e => within.opening (stage e), within.closing⟩
  · refine (law.window.own x mem own).imp_left ?_
    rintro ⟨u, found, rfl⟩
    obtain rfl := Option.some.inj (window.symm.trans found)
    exact ⟨v, rfl, spans⟩
  · obtain ⟨u, found, e⟩ := law.window.discover g mem isDiscover
    obtain rfl := Option.some.inj (window.symm.trans found)
    exact ⟨v, rfl, cycle ▸ e⟩

theorem Books.serveWindowStart (law : Books full s) : Books full (serveWindowStart s) := by
  rcases serveWindowStart_cases s with ⟨w, window, -, -, e⟩ | ⟨-, e⟩ <;> rw [e]
  · exact law.firstRemoval.setWindow ((firstRemoval_window s).trans window) rfl (fun e => nomatch e)
  · exact law

/-- The close deadline comes when the window's span has passed, and its DISCOVER grant has left the calendar (R65). -/
theorem WindowWithin.of_close_due {w : Window} (within : WindowWithin s w) (config : ConfigWithin s.host.config)
    (agree : s.time.treeCycle = s.time.localCount.setWidth 16) (reached : due s w.closeDeadline = true) :
    2 ≤ cycleDiff s.time.treeCycle w.last ∧ 16 < cyclesTo s w.grantCycle := by
  have now := (due_iff_of_deadlineWithin within.closing).1 reached
  have length := windowLength_le _ config
  have lead := (grantLead_le config).2
  have first : s.time.treeCycle = w.first + BitVec.ofNat 16 (windowLength s.host.config + 1) := by
    rw [agree, ← now, within.close, ← within.start]
    bv_omega
  rw [cyclesTo, cycleDiff_eq, within.grantCycle, within.last, first]
  generalize windowLength s.host.config = n at length
  generalize grantLead s.host.config = k at lead
  constructor
  · split <;> bv_omega
  · bv_omega

/-- No window in progress, none of its spans and grants being left. -/
theorem Books.closeWindow {closed : Option TreeCycle} {deadline : Option LocalCount} (law : Books full s)
    (spans : ∀ x ∈ s.sched.spans, x.isOwn = false) (grants : ∀ g ∈ s.sched.calendar, g.isDiscover = false) :
    Books full { s with sched :=
      { s.sched with window := none, lastClosed := closed, dueDeadline := deadline } } where
  window :=
    { law.window with
      window := nofun
      own := fun x mem own => by simp [spans x mem] at own
      discover := fun g mem isDiscover => by simp [grants g mem] at isDiscover }
  grants := fun whole => { law.grants whole with }

/-- Once its close deadline is reached, nothing of the window is left when the passed spans are removed. -/
theorem Books.serveWindowClose (law : Books full s) : Books full (serveWindowClose s) := by
  rcases serveWindowClose_cases s with ⟨w, window, -, reached, e⟩ | ⟨-, e⟩ <;> rw [e]
  · have within := law.window.window w window
    have removed : Machine.firstRemoval s = Machine.removePassedSpans s :=
      if_pos (owesScheduler_of_due within.closing reached)
    obtain ⟨passed, far⟩ := within.of_close_due law.window.config law.window.agree reached
    refine Books.of_view (law.firstRemoval.closeWindow (closed := none) (deadline := none) (fun x mem => ?_) fun g mem => ?_)
      (by simp [booksView])
    · rw [removed] at mem
      have near := unpassed_removePassedSpans s x mem
      refine Bool.eq_false_iff.2 fun own => ?_
      rcases law.window.own x (List.mem_of_mem_filter mem) own with ⟨v, found, rfl⟩ | ⟨-, old⟩
      · obtain rfl := Option.some.inj (window.symm.trans found)
        exact absurd near (Int.not_lt.2 passed)
      · exact absurd near (Int.not_lt.2 old)
    · rw [firstRemoval_calendar] at mem
      refine Bool.eq_false_iff.2 fun isDiscover => ?_
      obtain ⟨v, found, cycle⟩ := law.window.discover g mem isDiscover
      obtain rfl := Option.some.inj (window.symm.trans found)
      have near := (law.window.calendar g mem).2
      rw [cycle] at far
      omega
  · exact law

end Sys2Proof.Machine
end

section
/-! The scheduler's work at a strobe keeps the books: its deadlines served, the announcement, and directed placement (R61 to R65, R70
to R72, R77). -/

namespace Sys2Proof.Machine

variable {full : Prop} {s : State}

/-! ### The scheduler's work no longer owed -/

/-- The scheduler's work is owed no longer. -/
def schedulerDone (s : State) : State :=
  { s with time := { s.time with owesScheduler := false } }

/-- The windows that stand once their deadlines are served: no start deadline of an announced one and no close deadline is reached. -/
structure Settled (s : State) : Prop where
  start : ∀ w ∈ s.sched.window, w.stage = .announced → due s w.startDeadline = false
  close : ∀ w ∈ s.sched.window, due s w.closeDeadline = false

/-- A near deadline that is not reached lies ahead. -/
theorem deadlineWithin_schedulerDone {d : LocalCount} (near : deadlineWithin s 40 d) (waits : due s d = false) :
    deadlineWithin (schedulerDone s) 40 d := by
  have apart : d ≠ s.time.localCount := fun e => by
    rw [(due_iff_of_deadlineWithin near).2 e] at waits
    exact Bool.noConfusion waits
  refine ⟨?_, near.2⟩
  change 1 ≤ (d - s.time.localCount).toNat
  bv_omega

/-- With the passed spans removed and the deadlines served, the books stand though the scheduler's work is done. -/
theorem Books.schedulerDone (law : Books full s) (clear : Unpassed s) (settled : Settled s) :
    Books full (schedulerDone s) where
  window :=
    { law.window with
      window := fun w mem =>
        let within := law.window.window w mem
        { within with
          opening := fun announced =>
            deadlineWithin_schedulerDone (within.opening announced) (settled.start w mem announced)
          closing := deadlineWithin_schedulerDone within.closing (settled.close w mem) }
      own := fun x mem own => by
        rcases law.window.own x mem own with windowed | ⟨-, passed⟩
        · exact .inl windowed
        · exact absurd (clear x mem) (Int.not_lt.2 passed) }
  grants := fun whole => { law.grants whole with }

/-- An announced window whose start deadline is not reached is not at its close deadline either (R64, R65). -/
theorem WindowWithin.close_waits {w : Window} (within : WindowWithin s w) (config : ConfigWithin s.host.config)
    (announced : w.stage = .announced) (waits : due s w.startDeadline = false) : due s w.closeDeadline = false := by
  have start := within.opening announced
  have apart : w.startDeadline ≠ s.time.localCount := fun e => by
    rw [(due_iff_of_deadlineWithin start).2 e] at waits
    exact Bool.noConfusion waits
  have length := windowLength_le _ config
  have most := start.2
  refine Bool.eq_false_iff.2 fun reached => ?_
  rw [due_iff_of_deadlineWithin within.closing, within.close] at reached
  generalize windowLength s.host.config = n at *
  bv_omega

/-- Served, no announced window is at its start deadline (R64). -/
theorem start_waits_serveWindowStart : ∀ w ∈ (serveWindowStart s).sched.window, w.stage = .announced →
    due (serveWindowStart s) w.startDeadline = false := by
  rcases serveWindowStart_cases s with ⟨w, -, -, -, e⟩ | ⟨waits, e⟩ <;> rw [e]
  · rintro _ ⟨⟩ opened
    exact nomatch opened
  · exact waits

/-- Served in their order, no deadline of a window that stands is reached. -/
theorem settled_serveWindowClose (law : WindowBooks s)
    (started : ∀ w ∈ s.sched.window, w.stage = .announced → due s w.startDeadline = false) : Settled (serveWindowClose s) := by
  rcases serveWindowClose_cases s with ⟨w, -, -, -, e⟩ | ⟨waits, e⟩ <;> rw [e]
  · exact ⟨nofun, nofun⟩
  · refine ⟨started, fun w window => ?_⟩
    cases stage : w.stage with
    | opened => exact waits w window stage
    | announced => exact (law.window w window).close_waits law.config stage (started w window stage)

theorem Settled.serveDiscoveryDue (settled : Settled s) : Settled (serveDiscoveryDue s) := by
  rcases serveDiscoveryDue_cases s with ⟨d, -, -, e⟩ | ⟨-, e⟩ <;> rw [e]
  · refine ⟨fun w window => ?_, fun w window => ?_⟩
    all_goals
      simp only [firstRemoval_window] at window
      simp only [due, firstRemoval_time]
    · exact settled.start w window
    · exact settled.close w window
  · exact settled

/-! ### The serving of the deadlines with no passed span listed -/

/-- Serving the deadlines leaves the spans, where none listed has passed. -/
theorem spans_serveWindowStart (clear : Unpassed s) : (serveWindowStart s).sched.spans = s.sched.spans := by
  rcases serveWindowStart_cases s with ⟨w, -, -, -, e⟩ | ⟨-, e⟩ <;> rw [e]
  rw [firstRemoval_of_unpassed clear]

theorem spans_serveWindowClose (clear : Unpassed s) : (serveWindowClose s).sched.spans = s.sched.spans := by
  rcases serveWindowClose_cases s with ⟨w, -, -, -, e⟩ | ⟨-, e⟩ <;> rw [e]
  rw [raise_sched, firstRemoval_of_unpassed clear]

theorem spans_serveDiscoveryDue (clear : Unpassed s) : (serveDiscoveryDue s).sched.spans = s.sched.spans := by
  rcases serveDiscoveryDue_cases s with ⟨d, -, -, e⟩ | ⟨-, e⟩ <;> rw [e]
  rw [firstRemoval_of_unpassed clear]

theorem Unpassed.of_spans {t : State} (clear : Unpassed s) (spans : t.sched.spans = s.sched.spans)
    (same : standing t = standing s) : Unpassed t := by
  have cycle : t.time.treeCycle = s.time.treeCycle := congrArg (fun f => f.1.treeCycle) same
  rw [Unpassed, spans, cycle]
  exact clear

theorem firstRemoval_schedulerDone (s : State) : firstRemoval (schedulerDone s) = schedulerDone s := by
  simp [firstRemoval, schedulerDone]

theorem serveWindowStart_schedulerDone (clear : Unpassed s) :
    serveWindowStart (schedulerDone s) = schedulerDone (serveWindowStart s) := by
  rcases serveWindowStart_cases s with ⟨w, window, announced, reached, e⟩ | ⟨waits, e⟩ <;> rw [e]
  · rw [serveWindowStart_of_due (s := schedulerDone s) window announced reached, firstRemoval_schedulerDone,
      firstRemoval_of_unpassed clear]
    rfl
  · exact serveWindowStart_of_not_due waits

theorem serveWindowClose_schedulerDone (clear : Unpassed s) :
    serveWindowClose (schedulerDone s) = schedulerDone (serveWindowClose s) := by
  rcases serveWindowClose_cases s with ⟨w, window, opened, reached, e⟩ | ⟨waits, e⟩ <;> rw [e]
  · rw [serveWindowClose_of_due (s := schedulerDone s) window opened reached, firstRemoval_schedulerDone,
      firstRemoval_of_unpassed clear]
    rfl
  · exact serveWindowClose_of_not_due waits

theorem serveDiscoveryDue_schedulerDone (clear : Unpassed s) :
    serveDiscoveryDue (schedulerDone s) = schedulerDone (serveDiscoveryDue s) := by
  rcases serveDiscoveryDue_cases s with ⟨d, deadline, reached, e⟩ | ⟨waits, e⟩ <;> rw [e]
  · rw [serveDiscoveryDue_of_due (s := schedulerDone s) deadline reached, firstRemoval_schedulerDone,
      firstRemoval_of_unpassed clear]
    rfl
  · exact serveDiscoveryDue_of_not_due waits

/-- The first two steps of R77, and the work owed no longer from then on. -/
def deadlinesServed (s : State) : State :=
  schedulerDone (serveDiscoveryDue (serveWindowClose (serveWindowStart (removePassedSpans s))))

theorem schedulerWork_eq (s : State) : schedulerWork s = retryPlacements (tryAnnounce (deadlinesServed s)) := by
  have clear := unpassed_removePassedSpans s
  have started := clear.of_spans (spans_serveWindowStart clear) (standing_serveWindowStart _)
  have closed := started.of_spans (spans_serveWindowClose started) (standing_serveWindowClose _)
  rw [deadlinesServed, ← serveDiscoveryDue_schedulerDone closed, ← serveWindowClose_schedulerDone started,
    ← serveWindowStart_schedulerDone clear]
  rfl

theorem Books.deadlinesServed (law : Books full s) : Books full (deadlinesServed s) := by
  have clear := unpassed_removePassedSpans s
  have started := clear.of_spans (spans_serveWindowStart clear) (standing_serveWindowStart _)
  have closed := started.of_spans (spans_serveWindowClose started) (standing_serveWindowClose _)
  have opened := law.removePassedSpans.serveWindowStart
  exact opened.serveWindowClose.serveDiscoveryDue.schedulerDone
    (closed.of_spans (spans_serveDiscoveryDue closed) (standing_serveDiscoveryDue _))
    (settled_serveWindowClose opened.window start_waits_serveWindowStart).serveDiscoveryDue

@[simp] theorem deadlinesServed_owesScheduler (s : State) : (deadlinesServed s).time.owesScheduler = false := rfl

end Sys2Proof.Machine
end

section
/-! The announcement of a window, the QUIETs of peers and the placement of requests keep the books (R55, R61 to R63, R67 to R72). -/

namespace Sys2Proof.Machine

variable {full : Prop} {s : State}

/-! ### Counting in lists -/

theorem count_insertSpan (x y : Span) (l : List Span) :
    (insertSpan x l).count y = l.count y + if x = y then 1 else 0 := by
  rw [List.count_eq_countP, countP_insertSpan, List.countP_cons, List.count_eq_countP]
  simp only [beq_iff_eq]

/-- A span listed and reserved is counted once more in both lists. -/
theorem count_reserved_insertSpan {x : Span} {spans reservations : List Span} {y : Span}
    (reserved : reservations.count y ≤ spans.count y) :
    (reservations ++ [x]).count y ≤ (insertSpan x spans).count y := by
  rw [List.count_append, count_insertSpan, List.count_singleton]
  simp only [beq_iff_eq]
  omega

/-! ### The announcement -/

/-- An announced window written down: its span, its grant and its deadlines (R63). -/
def announced (o : Nat) (s : State) : State :=
  let first := s.time.treeCycle + BitVec.ofNat 16 o
  let g := first - BitVec.ofNat 16 (grantLead s.host.config)
  let own := wholeCycles .ownDiscovery first (windowLength s.host.config)
  { s with
    sched :=
      { s.sched with
        spans := insertSpan own s.sched.spans
        calendar := s.sched.calendar ++ [.discover g s.host.config.trainingPattern]
        window := some
          { stage := .announced, grantCycle := g, first := first, last := own.last.cycle, bursts := 0, activity := false,
            startDeadline := ahead s o, closeDeadline := ahead s (o + windowLength s.host.config + 1) }
        due := false }
    builder := { s.builder with reservations := s.builder.reservations ++ [own] } }

/-- The QUIET that announces a window (R63). -/
def announcedQuiet (o : Nat) (s : State) : Notice :=
  .quiet (s.time.treeCycle + BitVec.ofNat 16 o) (BitVec.ofNat 4 (windowLength s.host.config))

/-- The announcement writes the window down; beside that it queues the QUIET and counts the window (R63). -/
theorem announceAt_eq (o : Nat) (s : State) : announceAt o s =
    bump .discoveryWindows { announced o s with
      link := (queueNotice (announcedQuiet o s) s).link
      host := (queueNotice (announcedQuiet o s) s).host } := by
  unfold announceAt queueNotice announcedQuiet
  split <;> rfl

/-- The last cycle of `n` whole cycles. -/
theorem wholeCycles_last (kind : SpanKind) (first : TreeCycle) {n : Nat} (some : 1 ≤ n) :
    wholeCycles kind first n = ⟨kind, ⟨first, 0⟩, ⟨first + BitVec.ofNat 16 n - 1, 312499⟩⟩ := by
  have last : BitVec.ofInt 16 ((n : Int) - 1) = BitVec.ofNat 16 n - 1 := by
    obtain ⟨k, rfl⟩ := Nat.exists_eq_add_of_le' some
    rw [show ((k + 1 : Nat) : Int) - 1 = (k : Int) by omega]
    simp only [BitVec.ofInt_natCast]
    bv_omega
  have sum : first + (BitVec.ofNat 16 n - 1) = first + BitVec.ofNat 16 n - 1 := by bv_omega
  rw [wholeCycles, last, sum]
  rfl

theorem WindowBooks.announced {o : Nat} (law : WindowBooks s) (done : s.time.owesScheduler = false)
    (window : s.sched.window = none) (least : s.host.config.lead ≤ o) (most : o ≤ 16 + grantLead s.host.config) :
    WindowBooks (announced o s) := by
  obtain ⟨leadLow, leadHigh⟩ := grantLead_le law.config
  obtain ⟨lengthLow, lengthHigh⟩ := windowLength_le _ law.config
  have noOwn : ∀ x ∈ s.sched.spans, x.isOwn = false := fun x mem => Bool.eq_false_iff.2 fun own => by
    rcases law.own x mem own with ⟨w, found, -⟩ | ⟨owed, -⟩
    · rw [window] at found
      exact nomatch found
    · rw [done] at owed
      exact Bool.noConfusion owed
  have noDiscover : ∀ g ∈ s.sched.calendar, g.isDiscover = false := fun g mem => Bool.eq_false_iff.2 fun isDiscover => by
    obtain ⟨w, found, -⟩ := law.discover g mem isDiscover
    rw [window] at found
    exact nomatch found
  have last := wholeCycles_last .ownDiscovery (s.time.treeCycle + BitVec.ofNat 16 o) lengthLow
  refine { law with window := ?_, own := fun x mem own => ?_, ownOnce := ?_, calendar := fun g mem => ?_,
                    discover := fun g mem isDiscover => ?_, discoverOnce := ?_ }
  · rintro _ ⟨⟩
    refine ⟨rfl, congrArg (fun x : Span => x.last.cycle) last, ?_, ?_, fun _ => ?_, ?_⟩
    · show (s.time.localCount + BitVec.ofNat 32 o).setWidth 16 = s.time.treeCycle + BitVec.ofNat 16 o
      rw [law.agree]
      bv_omega
    · show s.time.localCount + BitVec.ofNat 32 (o + windowLength s.host.config + 1) =
        s.time.localCount + BitVec.ofNat 32 o + BitVec.ofNat 32 (windowLength s.host.config + 1)
      bv_omega
    · change (if s.time.owesScheduler then 0 else 1) ≤ (s.time.localCount + BitVec.ofNat 32 o - s.time.localCount).toNat ∧
        (s.time.localCount + BitVec.ofNat 32 o - s.time.localCount).toNat ≤ 40
      constructor
      · split <;> bv_omega
      · bv_omega
    · change (if s.time.owesScheduler then 0 else 1) ≤
          (s.time.localCount + BitVec.ofNat 32 (o + windowLength s.host.config + 1) - s.time.localCount).toNat ∧
        (s.time.localCount + BitVec.ofNat 32 (o + windowLength s.host.config + 1) - s.time.localCount).toNat ≤ 40
      constructor
      · split <;> bv_omega
      · bv_omega
  · rcases (mem_insertSpan _ _ _).1 mem with rfl | old
    · exact .inl ⟨_, rfl, rfl⟩
    · rw [noOwn x old] at own
      exact Bool.noConfusion own
  · refine (countP_insertSpan _ _ _).trans_le ?_
    rw [List.countP_cons, List.countP_eq_zero.2 fun x mem => by simp [noOwn x mem]]
    split <;> omega
  · rcases List.mem_append.1 mem with old | new
    · exact law.calendar g old
    · obtain rfl := List.mem_singleton.1 new
      change (if s.time.owesBuild then 1 else 2) ≤
          (s.time.treeCycle + BitVec.ofNat 16 o - BitVec.ofNat 16 (grantLead s.host.config) - s.time.treeCycle).toNat ∧
        (s.time.treeCycle + BitVec.ofNat 16 o - BitVec.ofNat 16 (grantLead s.host.config) - s.time.treeCycle).toNat ≤ 16
      constructor
      · split <;> bv_omega
      · bv_omega
  · rcases List.mem_append.1 mem with old | new
    · rw [noDiscover g old] at isDiscover
      exact Bool.noConfusion isDiscover
    · obtain rfl := List.mem_singleton.1 new
      exact ⟨_, rfl, rfl⟩
  · refine (List.countP_append).trans_le ?_
    rw [List.countP_eq_zero.2 fun g mem => by simp [noDiscover g mem]]
    exact Nat.le_refl 1

/-- A DISCOVER grant is no directed one. -/
theorem filterMap_directed_discover (calendar : List Grant) (g : TreeCycle) (pattern : Byte) :
    (calendar ++ [Grant.discover g pattern]).filterMap Grant.directed? = calendar.filterMap Grant.directed? := by
  simp [Grant.directed?]

theorem GrantBooks.announced {o : Nat} (law : GrantBooks s) (config : ConfigWithin s.host.config)
    (least : s.host.config.lead ≤ o) (most : o ≤ 16 + grantLead s.host.config) : GrantBooks (announced o s) := by
  obtain ⟨leadLow, leadHigh⟩ := grantLead_le config
  obtain ⟨lengthLow, lengthHigh⟩ := windowLength_le _ config
  have out : grantsOut (Machine.announced o s) = grantsOut s :=
    congrArg (· ++ s.classifier.issued) (filterMap_directed_discover _ _ _)
  have issued : grantsIssued (Machine.announced o s) = grantsIssued s := by
    simp only [grantsIssued, Machine.announced, directedIn_discover]
  refine { law with calendar := fun g mem => ?_, listed := fun x near => ?_, issuedBound := issued ▸ law.issuedBound,
                    ahead := fun x mem ours => ?_, reserved := fun x ours => count_reserved_insertSpan (law.reserved x ours) }
  · refine law.calendar g ?_
    rw [← filterMap_directed_discover]
    exact mem
  · rw [out]
    refine (law.listed x near).trans ((Nat.le_add_right _ _).trans_eq (count_insertSpan _ x _).symm)
  · rcases List.mem_append.1 mem with old | new
    · exact law.ahead x old ours
    · obtain rfl := List.mem_singleton.1 new
      rw [wholeCycles_last _ _ lengthLow]
      change (if s.time.owesBuild then 1 else 2) ≤
          (s.time.treeCycle + BitVec.ofNat 16 o + BitVec.ofNat 16 (windowLength s.host.config) - 1 - s.time.treeCycle).toNat ∧
        (s.time.treeCycle + BitVec.ofNat 16 o + BitVec.ofNat 16 (windowLength s.host.config) - 1 - s.time.treeCycle).toNat ≤ 40
      constructor
      · split <;> bv_omega
      · bv_omega

theorem Books.announceAt {o : Nat} (law : Books full s) (done : s.time.owesScheduler = false)
    (window : s.sched.window = none) (least : s.host.config.lead ≤ o) (most : o ≤ 16 + grantLead s.host.config) :
    Books full (announceAt o s) := by
  have written : Books full (announced o s) :=
    ⟨law.window.announced done window least most,
      fun whole => (law.grants whole).announced law.window.config least most⟩
  rw [announceAt_eq]
  exact written.of_view (by simp [booksView, announced])

/-- The announcement leaves the state, or announces a window for a start that R63 allows. -/
theorem tryAnnounce_cases (s : State) : tryAnnounce s = s ∨
    ∃ o, s.sched.window = none ∧ startAhead s = some o ∧ s.host.config.lead ≤ o ∧ o ≤ 16 + grantLead s.host.config ∧
      tryAnnounce s = announceAt o s := by
  unfold tryAnnounce
  split
  case isTrue gate =>
    simp only [Bool.and_eq_true, Option.isNone_iff_eq_none] at gate
    split
    case h_1 o found =>
      split
      case isTrue most =>
        have least := (List.mem_range'_1.1 (List.mem_of_find?_eq_some found)).1
        exact .inr ⟨o, gate.1.2, found, least, most, rfl⟩
      · exact .inl rfl
    · exact .inl rfl
  · exact .inl rfl

theorem Books.tryAnnounce (law : Books full s) (done : s.time.owesScheduler = false) : Books full (tryAnnounce s) := by
  rcases tryAnnounce_cases s with e | ⟨o, window, -, least, most, e⟩ <;> rw [e]
  · exact law
  · exact law.announceAt done window least most

/-! ### The QUIETs of peers -/

/-- A PEER-QUIET span listed and reserved (R67). -/
theorem Books.addQuiet {x : Span} {p : Channel} (law : Books full s) (quiet : x.kind = .peerQuiet p) :
    Books full (addSpan x s) := by
  have notOwn : x.isOwn = false := by simp [Span.isOwn, quiet]
  have notDirected : x.isDirected = false := by simp [Span.isDirected, quiet]
  refine ⟨{ law.window with window := fun w mem => (law.window.window w mem).of_same rfl rfl
                            own := fun y mem own => ?_, ownOnce := ?_ },
    fun whole =>
      { law.grants whole with
        listed := fun y near => ((law.grants whole).listed y near).trans
          ((Nat.le_add_right _ _).trans_eq (count_insertSpan _ y _).symm)
        ahead := fun y mem ours => ?_
        reserved := fun y ours => count_reserved_insertSpan ((law.grants whole).reserved y ours) }⟩
  · rcases (mem_insertSpan _ _ _).1 mem with rfl | old
    · rw [notOwn] at own
      exact Bool.noConfusion own
    · exact law.window.own y old own
  · refine (countP_insertSpan _ _ _).trans_le ?_
    rw [List.countP_cons, notOwn]
    exact law.window.ownOnce
  · rcases List.mem_append.1 mem with old | new
    · exact (law.grants whole).ahead y old ours
    · obtain rfl := List.mem_singleton.1 new
      rw [notOwn, notDirected] at ours
      exact Bool.noConfusion ours

end Sys2Proof.Machine
end

section
/-! The placement of requests keeps the books (R70 to R72), and with it the scheduler's work at a strobe (R77). -/

namespace Sys2Proof.Machine

variable {full : Prop} {s : State}

/-! ### A grant reserved -/

theorem not_isOwn_of_isDirected {x : Span} (directed : x.isDirected = true) : x.isOwn = false := by
  refine Bool.eq_false_iff.2 fun own => ?_
  have kind : x.kind = .ownDiscovery := by simpa [Span.isOwn] using own
  simp [Span.isDirected, kind] at directed

/-- A request whose expected loop delay, where it has one, a hearing may bring (R13, R98). -/
def Request.within (q : Request) : Prop :=
  ∀ e, q.wanted = .range e → loopWithin e

/-- The span of a grant ends at most 8 cycles after the grant's own (R71). -/
theorem directedSpan_last {c : Configuration} {q : Request} {o : Nat} (r : TreeCycle) (config : ConfigWithin c)
    (within : q.within) (offset : o ≤ 312320) :
    ∃ n ≤ 8, (directedSpan c q r o).last.cycle = r + BitVec.ofNat 16 n := by
  have carried (x : Int) (least : 0 ≤ x) (most : x ≤ 2812499) :
      ∃ n ≤ 8, (Pos.ofOffset r x).cycle = r + BitVec.ofNat 16 n := by
    refine ⟨(x / 312500).toNat, by omega, ?_⟩
    have nat : x / (cycleLength : Int) = ((x / 312500).toNat : Int) := by
      simp only [cycleLength]
      omega
    rw [Pos.ofOffset, nat]
    rfl
  obtain ⟨treeLow, treeHigh⟩ := config.treeLoopTime
  unfold directedSpan expectedOffset
  cases wanted : q.wanted with
  | range e =>
    obtain ⟨least, most⟩ := within e wanted
    exact carried _ (by simp only [responseOffset]; omega) (by simp only [responseOffset]; omega)
  | verify =>
    dsimp only
    exact carried _ (by omega) (by omega)

/-- A grant found for a cycle from now + 2 to now + 16, at an offset of the cycle (R71). -/
structure Found (s : State) (q : Request) (g : DirectedGrant) : Prop where
  at_ : ∃ r o, grantAt s q r o = some g
  cycle : 2 ≤ cyclesTo s g.cycle ∧ cyclesTo s g.cycle ≤ 16
  offset : g.offset ≤ 312320

theorem found_of_searchPlacement {q : Request} {g : DirectedGrant} (found : searchPlacement s q = some g) : Found s q g := by
  unfold searchPlacement at found
  obtain ⟨i, memI, found⟩ := List.exists_of_findSome?_eq_some found
  obtain ⟨j, memJ, found⟩ := List.exists_of_findSome?_eq_some found
  rw [List.mem_range] at memI memJ
  have same := (grantAt_spec found).1
  refine ⟨⟨_, _, found⟩, ?_, ?_⟩
  · rw [cyclesTo, show g.cycle = s.time.treeCycle + 2 + BitVec.ofNat 16 i by rw [same]]
    bv_omega
  · rw [show g.offset = offsetStep * j by rw [same], offsetStep]
    omega

theorem Found.isDirected {q : Request} {g : DirectedGrant} (found : Found s q g) : g.span.isDirected = true := by
  obtain ⟨r, o, at_⟩ := found.at_
  rw [(grantAt_spec at_).1]
  exact isDirected_directedSpan _ _ _ _

theorem Found.last {q : Request} {g : DirectedGrant} (found : Found s q g) (config : ConfigWithin s.host.config)
    (within : q.within) : ∃ n ≤ 8, g.span.last.cycle = g.cycle + BitVec.ofNat 16 n := by
  obtain ⟨r, o, at_⟩ := found.at_
  have offset := found.offset
  rw [(grantAt_spec at_).1] at offset ⊢
  exact directedSpan_last r config within offset

theorem WindowBooks.reserveGrant {q : Request} {g : DirectedGrant} (law : WindowBooks s) (found : Found s q g) :
    WindowBooks (reserveGrant g s) := by
  have notOwn := not_isOwn_of_isDirected found.isDirected
  refine { law with window := fun w mem => (law.window w mem).of_same rfl rfl, own := fun x mem own => ?_, ownOnce := ?_,
                    calendar := fun e mem => ?_, discover := fun e mem isDiscover => ?_, discoverOnce := ?_ }
  · rcases (mem_insertSpan _ _ _).1 mem with rfl | old
    · rw [notOwn] at own
      exact Bool.noConfusion own
    · exact law.own x old own
  · refine (countP_insertSpan _ _ _).trans_le ?_
    rw [List.countP_cons, notOwn]
    exact law.ownOnce
  · rcases List.mem_append.1 mem with old | new
    · exact law.calendar e old
    · obtain rfl := List.mem_singleton.1 new
      obtain ⟨least, most⟩ := found.cycle
      refine ⟨le_trans ?_ least, most⟩
      split <;> omega
  · rcases List.mem_append.1 mem with old | new
    · exact law.discover e old isDiscover
    · obtain rfl := List.mem_singleton.1 new
      exact Bool.noConfusion isDiscover
  · refine List.countP_append.trans_le ?_
    exact law.discoverOnce

/-- A directed grant appended to the calendar. -/
theorem filterMap_directed_append (calendar : List Grant) (g : DirectedGrant) :
    (calendar ++ [Grant.directed g]).filterMap Grant.directed? = calendar.filterMap Grant.directed? ++ [g] := by
  simp [Grant.directed?]

/-- A grant for another cycle is not among those of a cycle. -/
theorem directedIn_append_of_ne {r : TreeCycle} {g : DirectedGrant} (calendar : List Grant) (other : g.cycle ≠ r) :
    directedIn r (calendar ++ [.directed g]) = directedIn r calendar := by
  simp [directedIn, other]

theorem GrantBooks.reserveGrant {q : Request} {g : DirectedGrant} (law : GrantBooks s) (config : ConfigWithin s.host.config)
    (found : Found s q g) (within : q.within) : GrantBooks (reserveGrant g s) := by
  have directed := found.isDirected
  obtain ⟨n, short, last⟩ := found.last config within
  obtain ⟨least, most⟩ := found.cycle
  rw [cyclesTo] at least most
  have calendar : (Machine.reserveGrant g s).sched.calendar.filterMap Grant.directed? =
      s.sched.calendar.filterMap Grant.directed? ++ [g] := filterMap_directed_append _ _
  have issued : grantsIssued (Machine.reserveGrant g s) = grantsIssued s := by
    have other : g.cycle ≠ s.time.treeCycle + 1 := by
      rintro e
      rw [e] at least
      bv_omega
    exact congrArg (fun l => s.classifier.issued ++ if s.time.owesBuild then l else []) (directedIn_append_of_ne _ other)
  refine { law with calendar := fun e mem => ?_, listed := fun x near => ?_, issuedBound := issued ▸ law.issuedBound,
                    ahead := fun x mem ours => ?_, reserved := fun x ours => count_reserved_insertSpan (law.reserved x ours) }
  · rw [calendar] at mem
    rcases List.mem_append.1 mem with old | new
    · exact law.calendar e old
    · obtain rfl := List.mem_singleton.1 new
      refine ⟨directed, ?_⟩
      rw [last]
      bv_omega
  · have listed := law.listed x near
    rw [grantsOut, List.map_append, List.count_append] at listed
    rw [grantsOut, calendar, List.map_append, List.count_append, List.map_append, List.count_append]
    refine le_trans ?_ (count_insertSpan g.span x s.sched.spans).ge
    have one : List.count x ([g].map DirectedGrant.span) = if g.span = x then 1 else 0 := by
      simp only [List.map_cons, List.map_nil, List.count_singleton, beq_iff_eq]
    have same : (Machine.reserveGrant g s).classifier = s.classifier := rfl
    rw [one, same]
    omega
  · rcases List.mem_append.1 mem with old | new
    · exact law.ahead x old ours
    · obtain rfl := List.mem_singleton.1 new
      change (if s.time.owesBuild then 1 else 2) ≤ (g.span.last.cycle - s.time.treeCycle).toNat ∧
        (g.span.last.cycle - s.time.treeCycle).toNat ≤ 40
      rw [last]
      constructor
      · split <;> bv_omega
      · bv_omega

theorem Books.reserveGrant {q : Request} {g : DirectedGrant} (law : Books full s) (found : Found s q g)
    (within : full → q.within) : Books full (reserveGrant g s) :=
  ⟨law.window.reserveGrant found,
    fun whole => (law.grants whole).reserveGrant law.window.config found (within whole)⟩

end Sys2Proof.Machine
end

section
/-! The shared operations keep the books; with them the requests made of the scheduler, and its work at a strobe (R70 to R72, R77). -/

namespace Sys2Proof.Machine

variable {full : Prop} {s : State}

/-! ### The host port, the queues and the hand-offs -/

theorem Books.raise (law : Books full s) (e : Event) : Books full (raise e s) :=
  law.of_view (by simp [booksView])

theorem Books.bump (law : Books full s) (c : Counter) : Books full (bump c s) :=
  law.of_view rfl

theorem Books.attend (law : Books full s) (c : Condition) : Books full (attend c s) :=
  law.of_view rfl

theorem Books.respond (law : Books full s) (x : Response) : Books full (respond x s) :=
  law.of_view rfl

theorem Books.respondOk (law : Books full s) : Books full (respondOk s) :=
  law.of_view rfl

theorem Books.queueNotice (law : Books full s) (n : Notice) : Books full (queueNotice n s) := by
  rcases queueNotice_cases n s with ⟨-, e⟩ | ⟨-, e⟩ <;> rw [e]
  · exact law.of_view rfl
  · exact (law.bump _).attend _

theorem Books.queueMessage (law : Books full s) (m : Message) (tag : Option Identity) : Books full (queueMessage m tag s) := by
  rcases queueMessage_cases m tag s with ⟨-, e⟩ | ⟨-, e⟩ <;> rw [e]
  · exact law.of_view rfl
  · exact (law.bump _).attend _

theorem Books.hand (law : Books full s) (x : Handoff) : Books full (hand x s) :=
  law.of_view rfl

theorem Books.takeEvent (law : Books full s) (x : Handoff) : Books full (takeEvent x s) :=
  law.of_view rfl

theorem Books.takeHanded {α : Type} {sel : Handoff → Option α} {t : State} {a : α} (law : Books full s)
    (taken : takeHanded sel s = some (a, t)) : Books full t := by
  obtain ⟨-, rfl⟩ := takeHanded_eq_some.1 taken
  exact law.of_view rfl

theorem Books.setSlot (law : Books full s) (h : Handle) (v : Slot) : Books full (setSlot h v s) :=
  law.of_view rfl

theorem Books.setLane (law : Books full s) (l : LaneNo) (v : Lane) : Books full (setLane l v s) :=
  law.of_view rfl

theorem Books.uncontest (law : Books full s) (x : Identity) : Books full (uncontest x s) :=
  law.of_view rfl

theorem Books.contest (law : Books full s) (x : Identity) : Books full (contest x s) :=
  law.of_view rfl

theorem books_ite {c : Prop} [Decidable c] {a b : State} (yes : c → Books full a) (no : ¬ c → Books full b) :
    Books full (if c then a else b) := by
  split
  case isTrue h => exact yes h
  case isFalse h => exact no h

theorem books_foldl {α : Type} {f : State → α → State} (each : ∀ s a, Books full s → Books full (f s a)) (xs : List α)
    (law : Books full s) : Books full (xs.foldl f s) := by
  induction xs generalizing s with
  | nil => exact law
  | cons x xs ih => exact ih (each s x law)

/-! ### Records and waiting requests -/

/-- A record written: the coarse loop delay it holds, where it holds one, a hearing may bring (R13, R88). -/
theorem Books.setRecord (law : Books full s) (h : Handle) {r : Record}
    (heard : full → ∀ e ∈ r.coarse?, loopWithin e := by rintro - _ ⟨⟩) : Books full (setRecord h r s) where
  window := { law.window with window := fun w mem => (law.window.window w mem).of_same rfl rfl }
  grants := fun whole =>
    { law.grants whole with
      loops := fun g e mem => by
        by_cases same : g = h
        · rw [same, recordAt_setRecord_self] at mem
          exact heard whole e mem
        · rw [recordAt_setRecord_ne _ _ same] at mem
          exact (law.grants whole).loops g e mem }

/-- The coarse loop delay that a record holds a hearing may have brought. -/
theorem Books.heard (law : Books full s) {h : Handle} {x : Identity} {r : RangingFields}
    (record : recordAt s h = .ranging x r) (whole : full) : ∀ e ∈ r.heard.map HeardAt.coarse, loopWithin e := fun e mem =>
  (law.grants whole).loops h e (by rw [record]; exact mem)

theorem Books.dropRequest (law : Books full s) (h : Handle) : Books full (dropRequest h s) where
  window := { law.window with window := fun w mem => (law.window.window w mem).of_same rfl rfl }
  grants := fun whole =>
    { law.grants whole with requests := fun q mem => (law.grants whole).requests q (List.mem_of_mem_filter mem) }

theorem Books.withdrawRequest (law : Books full s) (h : Handle) : Books full (withdrawRequest h s) :=
  books_ite (fun _ => (law.dropRequest h).setSlot h _) fun _ => law.dropRequest h

theorem Books.freeRecord (law : Books full s) (h : Handle) : Books full (freeRecord h s) :=
  (law.withdrawRequest h).setRecord h

/-- A request that joins the placement queue (R70). -/
theorem Books.appendRequest {q : Request} (law : Books full s) (within : full → q.within) :
    Books full { s with sched := { s.sched with placements := s.sched.placements ++ [q] } } where
  window := { law.window with window := fun w mem => (law.window.window w mem).of_same rfl rfl }
  grants := fun whole =>
    { law.grants whole with
      requests := fun p mem => by
        rcases List.mem_append.1 mem with old | new
        · exact (law.grants whole).requests p old
        · exact List.mem_singleton.1 new ▸ within whole }

/-! ### Placements made and taken -/

theorem Books.takePlacement (law : Books full s) (h : Handle) (x : Identity) (cycle : TreeCycle) (offset : Nat) :
    Books full (takePlacement h x cycle offset s) := by
  have slot : Books full (if slotAt s h = .asked x then Machine.setSlot h (.out x cycle offset) s else s) :=
    books_ite (fun _ => law.setSlot h _) fun _ => law
  unfold Machine.takePlacement
  dsimp only
  split
  case h_1 y r record => exact books_ite (fun _ => slot.setRecord h fun whole e mem => law.heard record whole e mem) fun _ => slot
  all_goals exact slot

theorem Books.takeOnePlacement (law : Books full s) (p : RangePlacement) : Books full (takeOnePlacement p s) :=
  (law.takeEvent _).takePlacement _ _ _ _

theorem Books.takeAllPlacements (law : Books full s) : Books full (takeAllPlacements s) :=
  books_foldl (fun _ p law => law.takeOnePlacement p) _ law

theorem Books.takeVerifyPlacement (law : Books full s) (h : Handle) (x : Identity) :
    Books full (takeVerifyPlacement h x s) := by
  unfold Machine.takeVerifyPlacement
  split
  · exact books_ite (fun _ => law.setRecord h) fun _ => law
  all_goals exact law

theorem Books.place {q : Request} {g : DirectedGrant} (law : Books full s) (found : Found s q g)
    (within : full → q.within) : Books full (place g s) := by
  have reserved : Books full (Machine.reserveGrant g s) := law.reserveGrant found within
  show Books full (handPlacement g (Machine.reserveGrant g s))
  unfold handPlacement
  split
  · exact reserved.hand _
  · exact reserved.takeAllPlacements.takeVerifyPlacement _ _

theorem Books.meetRequest {q : Request} (law : Books full s) (within : full → q.within) : Books full (meetRequest q s) := by
  rcases meetRequest_cases q s with e | e | ⟨g, -, found, e⟩ <;> rw [e]
  · exact law
  · exact law.appendRequest within
  · exact law.place (found_of_searchPlacement found) within

theorem Books.enqueue {q : Request} (law : Books full s) (within : full → q.within) : Books full (enqueue q s) := by
  rcases enqueue_cases q s with e | e <;> rw [e]
  · exact law
  · exact law.appendRequest within

theorem Books.retryRequest {q : Request} (law : Books full s) (within : full → q.within) : Books full (retryRequest s q) := by
  unfold Machine.retryRequest
  split
  case h_1 g found =>
    have same : searchPlacement (Machine.dropRequest q.handle s) q = some g := found
    exact (law.dropRequest q.handle).place (found_of_searchPlacement same) within
  · exact law

theorem Books.retryPlacements (law : Books full s) : Books full (retryPlacements s) := by
  have all : ∀ (l : List Request) (t : State), (full → ∀ q ∈ l, q.within) → Books full t →
      Books full (l.foldl Machine.retryRequest t) := by
    intro l
    induction l with
    | nil => exact fun _ _ law => law
    | cons q l ih =>
      exact fun t within law => ih _ (fun whole p mem => within whole p (List.mem_cons_of_mem q mem))
        (law.retryRequest fun whole => within whole q List.mem_cons_self)
  exact all _ s (fun whole => (law.grants whole).requests) law

/-! ### The scheduler's work at a strobe, and the requests between strobes -/

theorem Books.schedulerWork (law : Books full s) : Books full (schedulerWork s) := by
  rw [schedulerWork_eq]
  exact (law.deadlinesServed.tryAnnounce (deadlinesServed_owesScheduler s)).retryPlacements

theorem Books.owedScheduler (law : Books full s) : Books full (owedScheduler s) :=
  books_ite (fun _ => law.schedulerWork) fun _ => law

theorem Books.request {q : Request} (law : Books full s) (within : full → q.within) : Books full (request q s) :=
  law.owedScheduler.meetRequest within

/-- A VERIFY request has no expected loop delay. -/
theorem Books.requestVerify (law : Books full s) (h : Handle) (x : Identity) : Books full (Machine.request ⟨.verify, h, x⟩ s) :=
  law.request fun _ => nofun

theorem Books.takeQuiet (law : Books full s) (p : Channel) (first : TreeCycle) (length : BitVec 4) :
    Books full (takeQuiet p first length s) := by
  refine books_ite (fun _ => law.owedScheduler.bump _) fun _ => books_ite (fun _ => law.owedScheduler.addQuiet rfl) fun _ => ?_
  exact books_ite (fun _ => (law.owedScheduler.bump _).addQuiet rfl) fun _ => law.owedScheduler.bump _

end Sys2Proof.Machine
end

section
/-! The burst classifier and the peer link unit keep the books (R80 to R96, R125 to R142). -/

namespace Sys2Proof.Machine

variable {full : Prop} {s : State}

/-! ### The burst classifier -/

theorem Books.of_takeHeader {cycle : TreeCycle} {kind : ReportKind} {q : BitVec 28} {b : HeaderBlock} {t : State}
    {f : Option HeaderFields} (law : Books full s) (taken : takeHeader cycle kind q b s = (f, t)) : Books full t := by
  unfold takeHeader at taken
  split at taken <;> obtain ⟨-, rfl⟩ := Prod.mk.inj taken
  · exact law
  · exact law.bump _
  · unfold offerCapture
    split
    · exact law.of_view rfl
    · exact law.bump _

theorem Books.markActivity (law : Books full s) : Books full (markActivity s) := by
  unfold Machine.markActivity
  cases window : s.sched.window with
  | none => exact law.of_view (by simp [booksView, window])
  | some w => exact law.setWindow window rfl id

theorem Books.countBurst (law : Books full s) : Books full (countBurst s) := by
  unfold Machine.countBurst
  cases window : s.sched.window with
  | none => exact law.of_view (by simp [booksView, window])
  | some w => exact law.setWindow window rfl id

theorem Books.crossHeard (law : Books full s) (f : HeaderFields) : Books full (crossHeard f s) :=
  books_ite (fun _ => law.bump _) fun _ => law.hand _

theorem Books.ownBurst (law : Books full s) (g : TreeCycle) (q : Int) (f : HeaderFields) : Books full (ownBurst g q f s) :=
  books_ite (fun _ => law.bump _) fun _ => books_ite (fun _ => (law.bump _).hand _) fun _ => (law.bump _).raise _

theorem Books.identityBurst (law : Books full s) (g : TreeCycle) (q : Int) (ref : TreeCycle) (kind : ReportKind)
    (arrival : BitVec 28) (b : HeaderBlock) : Books full (identityBurst g q ref kind arrival b s) := by
  unfold Machine.identityBurst
  split
  case h_1 taken => exact (law.of_takeHeader taken).markActivity
  case h_2 taken =>
    exact books_ite (fun _ => (law.of_takeHeader taken).markActivity.ownBurst _ _ _) fun _ =>
      (law.of_takeHeader taken).crossHeard _

theorem Books.windowReport (law : Books full s) (w : Window) (origin ref : TreeCycle) (kind : ReportKind)
    (o : BurstOutcome) : Books full (windowReport w origin ref kind o s) := by
  cases o with
  | good q b =>
    exact books_ite (fun _ => law.countBurst.identityBurst _ _ _ _ _ _) fun _ => (law.bump _).markActivity
  | undecoded => exact law.markActivity
  | noBurst => exact law

theorem Books.discoverReport (law : Books full s) (ref : TreeCycle) (o : BurstOutcome) :
    Books full (discoverReport ref o s) := by
  unfold Machine.discoverReport
  split
  · exact law.windowReport _ _ _ _ _
  all_goals exact law.bump _

theorem Books.windowSummary (law : Books full s) (ref : TreeCycle) (light : Bool) :
    Books full (windowSummary ref light s) := by
  unfold Machine.windowSummary
  split
  · exact books_ite (fun _ => law.markActivity) fun _ => law
  all_goals exact law.bump _

/-- An entry dropped: fewer grants are out, and their spans are listed as before (R82). -/
theorem Books.dropEntry (law : Books full s) (sel : DirectedGrant → Bool) : Books full (dropEntry sel s) where
  window := { law.window with window := fun w mem => (law.window.window w mem).of_same rfl rfl }
  grants := fun whole =>
    { law.grants whole with
      issued := fun g mem => (law.grants whole).issued g (List.mem_of_mem_eraseP mem)
      listed := fun x near => by
        have fewer : (grantsOut (Machine.dropEntry sel s)).Sublist (grantsOut s) :=
          (List.Sublist.refl _).append List.eraseP_sublist
        exact ((fewer.map _).count_le x).trans ((law.grants whole).listed x near)
      issuedBound := by
        have fewer : (grantsIssued (Machine.dropEntry sel s)).Sublist (grantsIssued s) :=
          List.eraseP_sublist.append (List.Sublist.refl _)
        exact fewer.length_le.trans (law.grants whole).issuedBound }

theorem Books.rangeReport (law : Books full s) (e : DirectedGrant) (o : BurstOutcome) : Books full (rangeReport e o s) := by
  cases o with
  | noBurst => exact law.hand _
  | undecoded => exact law.hand _
  | good q b =>
    unfold Machine.rangeReport
    dsimp only
    split
    case h_1 taken => exact (law.of_takeHeader taken).hand _
    case h_2 t taken =>
      have heard := law.of_takeHeader taken
      exact books_ite (fun _ => (heard.bump _).hand _) fun _ => books_ite (fun _ => heard.hand _) fun _ => (heard.bump _).hand _

theorem Books.handVerify (law : Books full s) (e : DirectedGrant) (q : Nat) (taker : VerifyTaker) :
    Books full (handVerify e q taker s) := by
  cases taker <;> exact law.hand _

theorem Books.handMissing (law : Books full s) (e : DirectedGrant) (taker : VerifyTaker) :
    Books full (handMissing e taker s) := by
  cases taker with
  | handover => exact law
  | tracker found => exact law.hand _

theorem Books.verifyReport (law : Books full s) (e : DirectedGrant) (o : BurstOutcome) :
    Books full (verifyReport e o s) := by
  unfold Machine.verifyReport
  split
  · exact law
  case h_2 taker _ =>
    cases o with
    | noBurst => exact law.handMissing e taker
    | undecoded => exact law.handMissing e taker
    | good q b =>
      dsimp only
      split
      case h_1 taken => exact law.of_takeHeader taken
      case h_2 t taken =>
        have heard := law.of_takeHeader taken
        exact books_ite (fun _ => heard.bump _) fun _ =>
          books_ite (fun _ => heard.handVerify e _ taker) fun _ => (heard.bump _).handVerify e _ taker

theorem Books.answerEntry (law : Books full s) (e : DirectedGrant) (o : BurstOutcome) : Books full (answerEntry e o s) := by
  unfold Machine.answerEntry
  split
  · exact law.rangeReport e o
  · exact law.verifyReport e o

theorem Books.directedReport (law : Books full s) (k : DirectedKind) (ref : TreeCycle) (h : Handle) (o : BurstOutcome) :
    Books full (directedReport k ref h o s) := by
  unfold Machine.directedReport
  split
  · exact (law.dropEntry _).answerEntry _ _
  · exact law.bump _

theorem Books.serveExpiry (law : Books full s) (k : DirectedKind) (h : Handle) (r : TreeCycle) :
    Books full (serveExpiry k h r s) := by
  unfold Machine.serveExpiry
  dsimp only
  split
  · exact (law.dropEntry _).answerEntry _ _
  · exact law

theorem Books.dataReport (law : Books full s) (ref : TreeCycle) (h : Handle) (offset : Nat) (arrival : Option (BitVec 28)) :
    Books full (dataReport ref h offset arrival s) := by
  have handed (x : Identity) (found : TrackedState) : Books full (handData ref h offset arrival x found s) := by
    cases arrival <;> exact law.hand _
  unfold Machine.dataReport
  split
  · exact handed _ _
  · exact handed _ _
  all_goals exact law

theorem Books.quietReport (law : Books full s) (ref : TreeCycle) (o : BurstOutcome) : Books full (quietReport ref o s) := by
  cases o with
  | undecoded => exact law.bump _
  | noBurst => exact law.bump _
  | good q b =>
    unfold Machine.quietReport
    dsimp only
    split
    case h_1 taken => exact law.of_takeHeader taken
    case h_2 taken =>
      exact books_ite (fun _ => (law.of_takeHeader taken).bump _) fun _ => (law.of_takeHeader taken).crossHeard _

theorem Books.ungrantedReport (law : Books full s) (ref : TreeCycle) (n : SpanName) (o : BurstOutcome) :
    Books full (ungrantedReport ref n o s) := by
  unfold Machine.ungrantedReport
  split
  · exact law.windowReport _ _ _ _ _
  · exact books_ite (fun _ => law.quietReport ref o) fun _ => law.bump _

theorem Books.takeReport (law : Books full s) (r : RawReport) : Books full (takeReport r s) := by
  unfold Machine.takeReport
  split
  · exact law.discoverReport _ _
  · exact law.directedReport _ _ _ _
  · exact law.dataReport _ _ _ _
  · exact law.ungrantedReport _ _ _
  · exact law.bump _

theorem Books.takeSummary (law : Books full s) (r : RawSummary) : Books full (takeSummary r s) := by
  unfold Machine.takeSummary
  split
  · exact law.windowSummary _ _
  · exact law.bump _
  · exact law.bump _

/-! ### The lanes -/

theorem Books.discardAssembly (law : Books full s) (l : LaneNo) : Books full (discardAssembly l s) := by
  unfold Machine.discardAssembly
  split
  · exact (law.setLane l _).bump _
  · exact law

theorem Books.changeLane (law : Books full s) (l : LaneNo) (entered : LaneState) (next : Lane → Lane) :
    Books full (changeLane l entered next s) :=
  ((law.discardAssembly l).setLane l _).raise _

theorem Books.heardMismatch (law : Books full s) (l : LaneNo) (f : FillInfo) : Books full (heardMismatch l f s) :=
  books_ite (fun _ => law.setLane l _) fun _ =>
    books_ite (fun _ => ((law.setLane l _).raise _).attend _) fun _ => law.setLane l _

theorem Books.heardUpTest (law : Books full s) (l : LaneNo) (f : FillInfo) : Books full (heardUpTest l f s) :=
  books_ite (fun _ => books_ite (fun _ => law.setLane l _) fun _ => law.changeLane l _ _) fun _ => law.setLane l _

theorem Books.upFill (law : Books full s) (l : LaneNo) (f : FillInfo) : Books full (upFill l f s) :=
  books_ite (fun _ => law.setLane l _) fun _ => books_ite (fun _ => law.setLane l _) fun _ => law.changeLane l _ _

theorem Books.seekingFill (law : Books full s) (l : LaneNo) : Books full (seekingFill l s) :=
  books_ite (fun _ => law.setLane l _) fun _ => law.changeLane l _ _

theorem Books.holdGood (law : Books full s) (l : LaneNo) : Books full (holdGood l s) :=
  books_ite (fun _ => law.setLane l _) fun _ => law.changeLane l _ _

theorem Books.goodStep (law : Books full s) (l : LaneNo) (fill : Option FillInfo) : Books full (goodStep l fill s) := by
  unfold Machine.goodStep
  split
  · exact law.changeLane l _ _
  · exact law.changeLane l _ _
  · exact law.holdGood l
  · exact law.seekingFill l
  · exact (law.heardMismatch l _).heardUpTest l _
  · exact law.upFill l _
  all_goals exact law

theorem Books.badRunStep (law : Books full s) (l : LaneNo) : Books full (badRunStep l s) :=
  books_ite (fun _ => (law.changeLane l _ _).attend _) fun _ => law.setLane l _

theorem Books.badStep (law : Books full s) (l : LaneNo) : Books full (badStep l s) := by
  unfold Machine.badStep
  split
  · exact law
  · exact law
  · exact law.setLane l _
  all_goals exact law.badRunStep l

theorem Books.countSilence (law : Books full s) (l : LaneNo) : Books full (countSilence l s) := by
  unfold Machine.countSilence
  dsimp only
  split
  · exact law
  · exact law
  all_goals exact books_ite (fun _ => law.setLane l _) fun _ => law.changeLane l _ _

theorem Books.takeSilence (law : Books full s) (l : LaneNo) : Books full (takeSilence l s) := by
  unfold Machine.takeSilence
  split
  · exact law
  · exact law
  all_goals exact law.changeLane l _ _

theorem Books.serveAbsence (law : Books full s) (l : LaneNo) : Books full (serveAbsence l s) := by
  unfold Machine.serveAbsence
  split
  · exact books_ite (fun _ => law.changeLane l _ _) fun _ => law
  all_goals exact law

theorem Books.completeNotice (law : Books full s) (l : LaneNo) (a : Assembly) : Books full (completeNotice l a s) := by
  unfold Machine.completeNotice
  split
  · exact books_ite (fun _ => law.hand _) fun _ => law
  · exact law.bump _

theorem Books.placeAssembly (law : Books full s) (l : LaneNo) (a : Assembly) : Books full (placeAssembly l a s) :=
  books_ite (fun _ => (law.setLane l _).completeNotice l a) fun _ => law.setLane l _

theorem Books.assembleHead (law : Books full s) (l : LaneNo) (p : BitVec 28) : Books full (assembleHead l p s) :=
  books_ite (fun _ => (law.discardAssembly l).placeAssembly l _) fun _ => law.bump _

theorem Books.assembleBody (law : Books full s) (l : LaneNo) (p : BitVec 28) : Books full (assembleBody l p s) := by
  unfold Machine.assembleBody
  split
  · exact law.placeAssembly l _
  · exact law

theorem Books.markGood (law : Books full s) (l : LaneNo) (fill : Option FillInfo) : Books full (markGood l fill s) :=
  law.setLane l _

theorem Books.takeGood (law : Books full s) (l : LaneNo) (w : LaneWord) : Books full (takeGood l w s) := by
  unfold Machine.takeGood
  split
  · exact ((law.markGood l _).discardAssembly l).goodStep l _
  · exact ((law.markGood l _).assembleHead l _).goodStep l _
  · exact ((law.markGood l _).assembleBody l _).goodStep l _
  · exact law

theorem Books.takeBad (law : Books full s) (l : LaneNo) : Books full (takeBad l s) :=
  (((law.bump _).discardAssembly l).badStep l).countSilence l

theorem Books.takeWord (law : Books full s) (l : LaneNo) (w : LaneWord) : Books full (takeWord l w s) :=
  books_ite (fun _ => (law.setLane l _).takeGood l w) fun _ => (law.setLane l _).takeBad l

theorem Books.transmitWord (law : Books full s) : Books full (transmitWord s) := by
  have sent (t : State) : booksView (sendNext t) = booksView t := by
    unfold sendNext
    split
    · rfl
    · split
      · rfl
      · split
        · rfl
        · split <;> rfl
  exact (law.of_view rfl : Books full { s with link := countWordTime s.link }).of_view (sent _)

end Sys2Proof.Machine
end

section
/-! The registration controller, the ranging unit, the delay tracker and the handover rules keep the books (R30 to R52, R97 to R124,
R143 to R169). -/

namespace Sys2Proof.Machine

variable {full : Prop} {s : State}

/-! ### Dropping, losing and re-ranging -/

theorem Books.queueDrop (law : Books full s) (h : Handle) (reason : DropReason) : Books full (queueDrop h reason s) :=
  law.queueMessage _ _

theorem Books.dropAndRelease (law : Books full s) (h : Handle) (x : Identity) (reason : DropReason) :
    Books full (dropAndRelease h x reason s) :=
  ((law.queueDrop h reason).queueNotice _).freeRecord h

theorem Books.makeLost (law : Books full s) (h : Handle) (x : Identity) (delay : Nat) (lastGood : LocalCount) :
    Books full (makeLost h x delay lastGood s) :=
  law.setRecord h

theorem Books.failRanging (law : Books full s) (h : Handle) (reason : RangingFailure) :
    Books full (failRanging h reason s) := by
  unfold Machine.failRanging
  split
  case h_1 x r _ =>
    refine Books.raise ?_ _
    cases r.origin with
    | fresh => exact law.dropAndRelease h x _
    | rerange => exact (law.withdrawRequest h).makeLost h x _ _
  all_goals exact law

theorem Books.queueAssign {event : State → State} (law : Books full s) (h : Handle) (x : Identity)
    (each : ∀ {t}, Books full t → Books full (event t)) : Books full (queueAssign h x event s) :=
  have queued := each (law.queueMessage (.assign x h) none)
  books_ite (fun _ => queued) fun _ => queued.failRanging h _

/-- A hearing that brings a re-ranging brings a coarse loop delay that a hearing may bring (R88). -/
def RerangeCause.within (cause : RerangeCause) : Prop :=
  ∀ a ∈ cause.heardAt, loopWithin a.coarse

theorem RerangeCause.within_misaligned : RerangeCause.misaligned.within := nofun

theorem RerangeCause.within_host : RerangeCause.host.within := nofun

theorem Books.rerangeWith {cause : RerangeCause} {first : State → State} (law : Books full s) (h : Handle) (x : Identity)
    (delay : Nat) (lastGood : LocalCount) (within : full → cause.within)
    (each : ∀ {t}, Books full t → Books full (first t)) : Books full (rerangeWith h x delay lastGood cause first s) := by
  have written := (law.withdrawRequest h).setRecord h (r := .ranging x (rerangingFields cause delay lastGood))
    fun whole e mem => by
      obtain ⟨a, heard, rfl⟩ := Option.map_eq_some_iff.1 mem
      exact within whole a heard
  exact (each written).queueAssign h x fun law => law.raise _

theorem Books.enterReranging {cause : RerangeCause} (law : Books full s) (h : Handle) (within : full → cause.within) :
    Books full (enterReranging h cause s) := by
  unfold Machine.enterReranging
  split
  · exact law.rerangeWith h _ _ _ within id
  · exact law.rerangeWith h _ _ _ within fun law => law.queueNotice _
  · exact law.rerangeWith h _ _ _ within id
  · exact law.rerangeWith h _ _ _ within id
  all_goals exact law

theorem Books.declareLost (law : Books full s) (h : Handle) : Books full (declareLost h s) := by
  unfold Machine.declareLost
  split
  · exact (law.makeLost h _ _ _).raise _
  · exact ((law.queueNotice _).makeLost h _ _ _).raise _
  all_goals exact law

/-! ### Hearings and deadlines -/

theorem Books.takeHearing {e : Hearing} (law : Books full s) (within : full → loopWithin e.coarse) :
    Books full (takeHearing e s) := by
  have heard : full → (RerangeCause.heard e).within := fun whole => by
    rintro _ ⟨⟩
    exact within whole
  have again (h : Handle) : Books full (heardAgain h e s) := by
    unfold heardAgain
    split
    · exact law.enterReranging h heard
    · exact law.enterReranging h heard
    · exact law.enterReranging h heard
    · exact law.bump _
    · exact law.bump _
    all_goals exact law
  have unknown : Books full (heardUnknown e s) := by
    unfold heardUnknown
    split
    · refine (law.setRecord _ fun whole _ mem => ?_).queueNotice _
      obtain rfl := Option.some.inj mem
      exact within whole
    · exact law.raise _
  refine books_ite (fun _ => (law.queueMessage _ _).raise _) fun _ => books_ite (fun _ => law.bump _) fun _ => ?_
  split
  · exact again _
  · exact unknown

theorem Books.serveSettle (law : Books full s) (h : Handle) : Books full (serveSettle h s) := by
  unfold Machine.serveSettle
  split
  case h_1 x heard d record =>
    refine books_ite (fun _ => Books.queueAssign (law.setRecord h fun whole e mem => ?_) h x id) fun _ => law
    exact (law.grants whole).loops h e (by rw [record]; exact mem)
  all_goals exact law

theorem Books.serveRetention (law : Books full s) (h : Handle) : Books full (serveRetention h s) := by
  unfold Machine.serveRetention
  split
  · exact books_ite (fun _ => (law.dropAndRelease h _ _).raise _) fun _ => law
  all_goals exact law

theorem Books.serveContestedExpiry (law : Books full s) (x : Identity) : Books full (serveContestedExpiry x s) := by
  unfold Machine.serveContestedExpiry
  split
  · exact books_ite (fun _ => law.uncontest x) fun _ => law
  · exact law

/-! ### The ranging unit -/

/-- The launch delays in the records keep to R19's bound. -/
def RecordDelays (s : State) : Prop :=
  ∀ h, ∀ d ∈ (recordAt s h).launchDelay?, d ≤ launchBound s.host.config

theorem DelaysWithin.records (within : DelaysWithin s) : RecordDelays s :=
  fun _ d mem => within d (sourced_of_record mem)

/-- A record written with the launch delay that the handle's record had. -/
theorem RecordDelays.setRecord {h : Handle} {r : Record} (delays : RecordDelays s)
    (same : r.launchDelay? = (recordAt s h).launchDelay?) : RecordDelays (setRecord h r s) := fun g => by
  by_cases e : g = h
  · rw [e, recordAt_setRecord_self, same]
    exact delays h
  · rw [recordAt_setRecord_ne _ _ e]
    exact delays g

/-- The expected loop delay of a request is one that a hearing may bring (R98). -/
theorem Books.expectedLoop {h : Handle} {x : Identity} {r : RangingFields} (law : Books full s) (delays : full → RecordDelays s)
    (record : recordAt s h = .ranging x r) (whole : full) : loopWithin (expectedLoop s.host.config r) := by
  have heard := law.heard record whole
  have delay : ∀ d ∈ r.launchDelay, d ≤ launchBound s.host.config := fun d mem =>
    delays whole h d (by rw [record]; exact mem)
  obtain ⟨low, high⟩ := law.window.config.treeLoopTime
  unfold Machine.expectedLoop
  cases some : r.heard with
  | some a => exact heard _ (by simp [some])
  | none =>
    have most : r.launchDelay.getD 0 ≤ launchBound s.host.config := by
      cases some : r.launchDelay with
      | none => exact Nat.zero_le _
      | some d => exact delay d some
    simp only [launchBound, responseOffset] at most
    simp only [loopWithin, responseOffset]
    omega

theorem Books.askRangeBy {make : Request → State → State} (law : Books full s) (h : Handle) (delays : full → RecordDelays s)
    (each : ∀ {q : Request} {t : State}, Books full t → (full → q.within) → Books full (make q t)) :
    Books full (askRangeBy make h s) := by
  unfold Machine.askRangeBy
  split
  case h_1 x r record =>
    refine each (law.setSlot h _) fun whole e wanted => ?_
    obtain rfl : Machine.expectedLoop s.host.config r = e := Wanted.range.inj wanted
    exact law.expectedLoop delays record whole
  all_goals exact law

theorem Books.askRange (law : Books full s) (h : Handle) (delays : full → RecordDelays s) : Books full (askRange h s) :=
  law.askRangeBy h delays fun law => law.request

theorem Books.askOrWait (law : Books full s) (h : Handle) (delays : full → RecordDelays s) : Books full (askOrWait h s) :=
  books_ite (fun _ => law.setSlot h _) fun _ => law.askRange h delays

theorem Books.takeRangeResult (law : Books full s) (r : RangeResult) : Books full (takeRangeResult r s) :=
  books_ite (fun _ => (law.setSlot _ _).hand _) fun _ => law

theorem Books.settleSlot (law : Books full s) (h : Handle) (x : Identity) : Books full (settleSlot h x s) :=
  books_ite (fun _ => law.setSlot h _) fun _ => law

theorem Books.applyOutcome {h : Handle} {x : Identity} {r : RangingFields} (law : Books full s) (o : RangingOutcome)
    (delays : full → RecordDelays s) (record : recordAt s h = .ranging x r) : Books full (applyOutcome h x r o s) := by
  cases o with
  | proceed samples attempts =>
    refine Books.askOrWait (law.setRecord h (r := .ranging x { r with samples := samples, attempts := attempts })
      (law.heard (r := r) record)) h fun whole => ?_
    exact (delays whole).setRecord (by rw [record]; rfl)
  | agreement samples delay =>
    have written := ((law.settleSlot h x).setRecord h
      (r := .ranging x { r with samples := samples, stage := .awaitSetDelay, launchDelay := some delay })
      (law.heard (r := r) record)).queueMessage (.setDelay h delay) (some x)
    exact books_ite (fun _ => written) fun _ => written.failRanging h _
  | failure reason => exact (law.settleSlot h x).failRanging h reason

theorem Books.takeOutcome (law : Books full s) (h : Handle) (x : Identity) (o : RangingOutcome)
    (delays : full → RecordDelays s) : Books full (takeOutcome h x o s) := by
  unfold Machine.takeOutcome
  split
  case h_1 y r record =>
    refine books_ite (fun applies => ?_) fun _ => law.settleSlot h x
    exact law.applyOutcome o delays (applies.1 ▸ record)
  all_goals exact law.settleSlot h x

/-! ### The delay tracker -/

theorem coarse_withTracking (t : Tracking) (r : Record) : (r.withTracking t).coarse? = r.coarse? := by
  cases r <;> rfl

theorem Books.setTracking (law : Books full s) (h : Handle) (t : Tracking) : Books full (setTracking h t s) :=
  law.setRecord h fun whole e mem => (law.grants whole).loops h e (by rwa [coarse_withTracking] at mem)

theorem Books.applyCorrection (law : Books full s) (h : Handle) (x : Identity) (t : Tracking) (k : Correction) :
    Books full (applyCorrection h x t k s) :=
  books_ite (fun _ => law.setTracking h _) fun _ =>
    books_ite (fun _ => (law.setTracking h _).queueMessage _ _) fun _ => (law.setTracking h _).queueMessage _ _

theorem Books.raiseLimit (law : Books full s) (h : Handle) (x : Identity) (was : Bool) (k : Correction) :
    Books full (raiseLimit h x was k s) := by
  unfold Machine.raiseLimit
  split
  · exact books_ite (fun _ => law) fun _ => law.raise _
  · exact law

theorem Books.applyTracked (law : Books full s) (h : Handle) (x : Identity) (t : Tracking) (r : TrackerResult) :
    Books full (applyTracked h x t r s) := by
  cases r with
  | missing run => exact law.setTracking h _
  | lost => exact law.declareLost h
  | misaligned => exact law.setTracking h _
  | rerange => exact law.enterReranging h fun _ => RerangeCause.within_misaligned
  | aligned drift good correction =>
    cases correction with
    | none => exact law.setTracking h _
    | some k => exact (law.applyCorrection h x _ k).raiseLimit h x _ k

theorem Books.takeTrackedFor (law : Books full s) (h : Handle) : Books full (takeTrackedFor h s) := by
  unfold Machine.takeTrackedFor
  split
  case h_1 x found r t taken =>
    have dropped := law.takeHanded taken
    unfold takeTracked
    split
    · exact books_ite (fun _ => dropped.applyTracked h x _ r) fun _ => dropped
    · exact books_ite (fun _ => dropped.applyTracked h x _ r) fun _ => dropped
    · exact dropped
  · exact law

theorem Books.takeInput (law : Books full s) (i : TrackerInput) : Books full (takeInput i s) := by
  have handed (found : TrackedState) (x : Identity) (t : Tracking) : Books full (handResult i found x t s) := by
    refine books_ite (fun _ => ?_) fun _ => law
    split
    · exact law.hand _
    · exact law
  unfold Machine.takeInput
  split
  · exact handed _ _ _
  · exact handed _ _ _
  all_goals exact law

theorem Books.takeOneInput (law : Books full s) (i : TrackerInput) : Books full (takeOneInput i s) :=
  ((law.takeEvent _).takeTrackedFor _).takeInput i

/-! ### Handover (R157 to R169) -/

theorem Books.askVerify (law : Books full s) (h : Handle) (x : Identity) : Books full (askVerify h x s) :=
  law.requestVerify h x

theorem Books.takeHandoff (law : Books full s) (p : Channel) (x : Identity) (delay : BitVec 21) :
    Books full (takeHandoff p x delay s) := by
  have begun := law.uncontest x
  have declined (reason : DeclinedBy) : Books full (answerDecline p x reason (Machine.uncontest x s)) := begun.queueNotice _
  refine books_ite (fun _ => declined _) fun _ => books_ite (fun _ => declined _) fun _ => books_ite (fun _ => declined _) fun _ => ?_
  split
  · exact declined _
  · exact ((begun.setRecord _).queueNotice _).askVerify _ _

theorem Books.takeAccept (law : Books full s) (p : Channel) (x : Identity) (newHandle : Handle) :
    Books full (takeAccept p x newHandle s) := by
  have withdrawn : Books full (Machine.queueNotice (.withdraw x p) s) := law.queueNotice _
  unfold Machine.takeAccept
  split
  · exact withdrawn
  · split
    · exact books_ite (fun _ => (law.setRecord _).queueMessage _ _) fun _ => withdrawn
    all_goals exact withdrawn

theorem Books.endOffer (law : Books full s) (h : Handle) (x : Identity) (t : Tracking) (peer : Channel) (reason : DeclinedBy) :
    Books full (endOffer h x t peer reason s) :=
  (law.setRecord h).raise _

theorem Books.takeDecline (law : Books full s) (p : Channel) (x : Identity) (reason : BitVec 4) :
    Books full (takeDecline p x reason s) := by
  unfold Machine.takeDecline
  split
  · exact law
  · split
    · exact books_ite (fun _ => law.endOffer _ _ _ _ _) fun _ => law
    all_goals exact law

theorem Books.serveOffer (law : Books full s) (h : Handle) : Books full (serveOffer h s) := by
  unfold Machine.serveOffer
  split
  · exact books_ite (fun _ => law.endOffer _ _ _ _ _) fun _ => law
  all_goals exact law

theorem Books.takeTaken (law : Books full s) (p : Channel) (x : Identity) : Books full (takeTaken p x s) := by
  unfold Machine.takeTaken
  split
  · exact law
  case h_2 h _ =>
    split
    · exact (law.freeRecord h).raise _
    · exact (Books.freeRecord (s := { s with freeCount := s.freeCount + 1 }) (law.of_view rfl) h).raise _
    all_goals exact law

theorem Books.lapseSource (law : Books full s) (h : Handle) (x : Identity) (delay : Nat) (peer : Channel) (cause : LapsedBy) :
    Books full (lapseSource h x delay peer cause s) :=
  (law.makeLost h x _ _).raise _

theorem Books.takeLapsed (law : Books full s) (p : Channel) (x : Identity) : Books full (takeLapsed p x s) := by
  unfold Machine.takeLapsed
  split
  · exact law
  · split
    · exact books_ite (fun _ => law.lapseSource _ _ _ _ _) fun _ => law
    all_goals exact law

theorem Books.serveHandoverSource (law : Books full s) (h : Handle) : Books full (serveHandoverSource h s) := by
  unfold Machine.serveHandoverSource
  split
  · exact books_ite (fun _ => law.lapseSource _ _ _ _ _) fun _ => law
  all_goals exact law

theorem Books.serveHandoverTarget (law : Books full s) (h : Handle) : Books full (serveHandoverTarget h s) := by
  unfold Machine.serveHandoverTarget
  split
  · exact books_ite (fun _ => ((law.freeRecord h).queueNotice _).raise _) fun _ => law
  all_goals exact law

theorem Books.takeWithdraw (law : Books full s) (p : Channel) (x : Identity) : Books full (takeWithdraw p x s) := by
  unfold Machine.takeWithdraw
  split
  · exact law
  case h_2 h _ =>
    split
    · exact books_ite (fun _ => (law.freeRecord h).raise _) fun _ => law
    all_goals exact law

theorem Books.serveVerifyRetry (law : Books full s) (h : Handle) : Books full (serveVerifyRetry h s) := by
  unfold Machine.serveVerifyRetry
  split
  · exact books_ite (fun _ => (law.setRecord h).askVerify _ _) fun _ => law
  all_goals exact law

theorem Books.takeVerification (law : Books full s) (v : VerificationBurst) : Books full (takeVerification v s) := by
  unfold Machine.takeVerification
  split
  case h_1 x delay source d retry record =>
    refine books_ite (fun _ => books_ite (fun _ => ?_) fun _ => ?_) fun _ => law
    · exact (law.queueNotice _).enterReranging _ fun _ => RerangeCause.within_host
    · exact ((((law.withdrawRequest _).setRecord _).queueNotice _).raise _).hand _
  all_goals exact law

theorem Books.takeOneVerification (law : Books full s) (v : VerificationBurst) : Books full (takeOneVerification v s) :=
  (law.takeEvent _).takeVerification v

/-! ### The tree notices (R143 to R156) -/

theorem Books.freeForClaim (law : Books full s) (h : Handle) (x : Identity) (p : Channel) (drop : Bool)
    (offeredTo : Option Channel) : Books full (freeForClaim h x p drop offeredTo s) := by
  have dropped : Books full (if drop then Machine.queueDrop h .peer s else s) :=
    books_ite (fun _ => law.queueDrop h _) fun _ => law
  cases offeredTo with
  | none => exact ((dropped.queueNotice _).freeRecord h).raise _
  | some peer => exact (((dropped.queueNotice _).queueNotice _).freeRecord h).raise _

theorem Books.takeClaim (law : Books full s) (p : Channel) (x : Identity) (heard : TreeCycle) :
    Books full (takeClaim p x heard s) := by
  unfold Machine.takeClaim
  split
  · exact law
  · split
    · exact books_ite (fun _ => (law.freeRecord _).raise _) fun _ => law
    · exact books_ite (fun _ => law.queueNotice _) fun _ => law.freeForClaim _ _ _ _ _
    · exact books_ite (fun _ => law.queueNotice _) fun _ => law.freeForClaim _ _ _ _ _
    · exact law.freeForClaim _ _ _ _ _
    · exact law.freeForClaim _ _ _ _ _
    · exact law.freeForClaim _ _ _ _ _
    · exact law.freeForClaim _ _ _ _ _
    · exact law

theorem Books.takeObject (law : Books full s) (q : Channel) (x : Identity) : Books full (takeObject q x s) := by
  unfold Machine.takeObject
  split
  · exact law
  case h_2 h _ =>
    split
    · exact (((law.freeRecord h).contest x).raise _).attend _
    all_goals exact law

theorem Books.takeCross (law : Books full s) (p : Channel) (x : Identity) : Books full (takeCross p x s) := by
  have tuned : Books full (Machine.queueMessage (.tune x p) none s) := law.queueMessage _ _
  unfold Machine.takeCross
  split
  · exact law
  · exact books_ite (fun _ => tuned.raise _) fun _ => tuned

theorem Books.takeCrossHeard (law : Books full s) (b : CrossHeard) : Books full (takeCrossHeard b s) :=
  books_ite (fun _ => (law.queueNotice _).raise _) fun _ => law.bump _

theorem Books.actOn (law : Books full s) (p : Channel) (n : Notice) : Books full (actOn p n s) := by
  cases n with
  | claim x heard => exact law.takeClaim p x heard
  | object x claimant => exact law.takeObject p x
  | release x => exact law.uncontest x
  | quiet first length => exact law.takeQuiet p first length
  | cross x down => exact law.takeCross p x
  | handoff x target delay => exact law.takeHandoff p x delay
  | accept x source newHandle => exact law.takeAccept p x newHandle
  | decline x source reason => exact law.takeDecline p x reason
  | taken x source => exact law.takeTaken p x
  | lapsed x source => exact law.takeLapsed p x
  | withdraw x target => exact law.takeWithdraw p x

theorem Books.takeNotice (law : Books full s) (p : Channel) (n : Notice) : Books full (takeNotice p n s) :=
  books_ite (fun _ => (law.takeEvent _).actOn p n) fun _ => law.takeEvent _

theorem Books.takeInOrder {α : Type} [DecidableEq α] {sel : Handoff → Option α} {take : α → State → State}
    (law : Books full s) (each : ∀ a {t}, Books full t → Books full (take a t)) (a : α) :
    Books full (takeInOrder sel take a s) :=
  each a (books_foldl (fun _ b law => each b law) _ law)

theorem Books.noticeRow (law : Books full s) (p : Channel) (n : Notice) : Books full (noticeRow p n s) :=
  books_ite (fun _ => law.takeInOrder (fun n _ law => law.takeNotice p n) n) fun _ => law

end Sys2Proof.Machine
end

section
/-! The leftovers of a strobe: the rows that the strobe itself serves, and the issued grants that they leave (R77, R82, R94). -/

namespace Sys2Proof.Machine

variable {full : Prop} {s : State}

/-! ### The books -/

theorem Books.serveRecord (law : Books full s) (h : Handle) : Books full (serveRecord s h) := by
  unfold Machine.serveRecord
  split
  · exact law.serveSettle h
  · exact law.serveOffer h
  · exact law.serveHandoverSource h
  · exact (law.serveHandoverTarget h).serveVerifyRetry h
  · exact law.serveRetention h
  all_goals exact law

theorem Books.serveLane (law : Books full s) (l : LaneNo) : Books full (serveLane s l) :=
  books_ite (fun _ => law.serveAbsence l) fun _ => law

theorem Books.serveLeftovers (law : Books full s) : Books full (serveLeftovers s) := by
  have contested := books_foldl (fun _ (c : Contested) law => law.serveContestedExpiry c.identity) s.table.contested law
  have records := books_foldl (fun _ h law => law.serveRecord h) (List.finRange 128) contested
  have lanes := books_foldl (fun _ l law => law.serveLane l) (List.finRange 3) records
  exact books_foldl (fun _ (e : DirectedGrant) law => law.serveExpiry e.kind e.handle e.cycle) _ lanes

/-! ### The counts and the issued grants, kept by the leftovers but for the expired entries -/

/-- The counts with what is owed at them, and the burst classifier's state. -/
def timedClassifier (s : State) : Timebase × Classifier :=
  (s.time, s.classifier)

theorem time_of_timedClassifier {t : State} (same : timedClassifier t = timedClassifier s) : t.time = s.time :=
  congrArg Prod.fst same

theorem classifier_of_timedClassifier {t : State} (same : timedClassifier t = timedClassifier s) :
    t.classifier = s.classifier :=
  congrArg Prod.snd same

@[simp] theorem timedClassifier_ite (c : Prop) [Decidable c] (s t : State) :
    timedClassifier (if c then s else t) = if c then timedClassifier s else timedClassifier t :=
  apply_ite timedClassifier c s t

section
variable (s : State)

@[simp] theorem timedClassifier_raise (e : Event) : timedClassifier (raise e s) = timedClassifier s := rfl

@[simp] theorem timedClassifier_setRecord (h : Handle) (r : Record) : timedClassifier (setRecord h r s) = timedClassifier s := rfl

@[simp] theorem timedClassifier_queueNotice (n : Notice) : timedClassifier (queueNotice n s) = timedClassifier s := by
  simp [timedClassifier]

@[simp] theorem timedClassifier_queueMessage (m : Message) (tag : Option Identity) :
    timedClassifier (queueMessage m tag s) = timedClassifier s := by simp [timedClassifier]

@[simp] theorem timedClassifier_withdrawRequest (h : Handle) : timedClassifier (withdrawRequest h s) = timedClassifier s := by
  simp [timedClassifier]

@[simp] theorem timedClassifier_freeRecord (h : Handle) : timedClassifier (freeRecord h s) = timedClassifier s := by
  simp [timedClassifier]

@[simp] theorem timedClassifier_dropAndRelease (h : Handle) (x : Identity) (reason : DropReason) :
    timedClassifier (dropAndRelease h x reason s) = timedClassifier s := by
  simp [dropAndRelease, queueDrop]

@[simp] theorem timedClassifier_makeLost (h : Handle) (x : Identity) (delay : Nat) (lastGood : LocalCount) :
    timedClassifier (makeLost h x delay lastGood s) = timedClassifier s := rfl

@[simp] theorem timedClassifier_failRanging (h : Handle) (reason : RangingFailure) :
    timedClassifier (failRanging h reason s) = timedClassifier s := by
  unfold failRanging
  split
  case h_1 x r _ => cases r.origin <;> simp
  all_goals rfl

@[simp] theorem timedClassifier_queueAssign (h : Handle) (x : Identity) :
    timedClassifier (queueAssign h x id s) = timedClassifier s := by
  simp [queueAssign]

theorem timedClassifier_serveSettle (h : Handle) : timedClassifier (serveSettle h s) = timedClassifier s := by
  unfold serveSettle
  split
  · simp
  all_goals rfl

theorem timedClassifier_serveOffer (h : Handle) : timedClassifier (serveOffer h s) = timedClassifier s := by
  unfold serveOffer
  split
  · simp [endOffer]
  all_goals rfl

theorem timedClassifier_serveHandoverSource (h : Handle) : timedClassifier (serveHandoverSource h s) = timedClassifier s := by
  unfold serveHandoverSource
  split
  · simp [lapseSource]
  all_goals rfl

theorem timedClassifier_serveHandoverTarget (h : Handle) : timedClassifier (serveHandoverTarget h s) = timedClassifier s := by
  unfold serveHandoverTarget
  split
  · simp
  all_goals rfl

theorem timedClassifier_serveRetention (h : Handle) : timedClassifier (serveRetention h s) = timedClassifier s := by
  unfold serveRetention
  split
  · simp
  all_goals rfl

end

theorem timedClassifier_meetRequest (q : Request) (s : State) : timedClassifier (meetRequest q s) = timedClassifier s :=
  congrArg₂ Prod.mk (frame_meetRequest q s).time (frame_meetRequest q s).classifier

/-- A VERIFY placement asked for again, where no scheduler work is owed (R160). -/
theorem timedClassifier_serveVerifyRetry (done : s.time.owesScheduler = false) (h : Handle) :
    timedClassifier (serveVerifyRetry h s) = timedClassifier s := by
  unfold serveVerifyRetry
  split
  case h_1 x delay source d retry _ =>
    have asked (t : State) (same : timedClassifier t = timedClassifier s) :
        timedClassifier (askVerify h x t) = timedClassifier s := by
      have settled : t.time.owesScheduler = false := (time_of_timedClassifier same ▸ done)
      rw [askVerify, request_of_not_owed settled, timedClassifier_meetRequest, same]
    rw [timedClassifier_ite, asked (setRecord h (.arriving x delay source d none) s) rfl, ite_self]
  all_goals rfl

theorem timedClassifier_serveRecord (done : s.time.owesScheduler = false) (h : Handle) :
    timedClassifier (serveRecord s h) = timedClassifier s := by
  unfold serveRecord
  split
  · exact timedClassifier_serveSettle s h
  · exact timedClassifier_serveOffer s h
  · exact timedClassifier_serveHandoverSource s h
  · have target := timedClassifier_serveHandoverTarget s h
    exact (timedClassifier_serveVerifyRetry (time_of_timedClassifier target ▸ done) h).trans target
  · exact timedClassifier_serveRetention s h
  all_goals rfl

theorem timedClassifier_serveContestedExpiry (x : Identity) (s : State) :
    timedClassifier (serveContestedExpiry x s) = timedClassifier s := by
  unfold serveContestedExpiry
  split
  · split <;> rfl
  · rfl

theorem timedClassifier_serveAbsence (l : LaneNo) (s : State) : timedClassifier (serveAbsence l s) = timedClassifier s := by
  have discarded : timedClassifier (discardAssembly l s) = timedClassifier s := by
    unfold discardAssembly
    split <;> rfl
  unfold serveAbsence
  split
  · split
    · exact discarded
    · rfl
  all_goals rfl

theorem timedClassifier_serveLane (s : State) (l : LaneNo) : timedClassifier (serveLane s l) = timedClassifier s := by
  rw [serveLane, timedClassifier_ite, timedClassifier_serveAbsence, ite_self]

/-- The strobe's rows before those of the issued grants. -/
def serveStanding (s : State) : State :=
  (List.finRange 3).foldl serveLane <| (List.finRange 128).foldl serveRecord <|
    s.table.contested.foldl (fun s c => serveContestedExpiry c.identity s) s

theorem serveLeftovers_eq (s : State) :
    serveLeftovers s = (serveStanding s).classifier.issued.foldl serveEntry (serveStanding s) := by
  unfold serveLeftovers serveStanding
  rfl

theorem timedClassifier_foldl {α : Type} {f : State → α → State} (done : s.time.owesScheduler = false)
    (each : ∀ t a, t.time.owesScheduler = false → timedClassifier (f t a) = timedClassifier t) (xs : List α) :
    timedClassifier (xs.foldl f s) = timedClassifier s := by
  induction xs generalizing s with
  | nil => rfl
  | cons x xs ih =>
    have first := each s x done
    exact (ih (time_of_timedClassifier first ▸ done)).trans first

theorem timedClassifier_serveStanding (done : s.time.owesScheduler = false) :
    timedClassifier (serveStanding s) = timedClassifier s := by
  have settled {t : State} (same : timedClassifier t = timedClassifier s) : t.time.owesScheduler = false :=
    (time_of_timedClassifier same ▸ done)
  unfold serveStanding
  have contested := timedClassifier_foldl (f := fun s (c : Contested) => serveContestedExpiry c.identity s) done
    (fun t c _ => timedClassifier_serveContestedExpiry c.identity t) s.table.contested
  generalize s.table.contested.foldl (fun s (c : Contested) => serveContestedExpiry c.identity s) s = t at contested ⊢
  have records := (timedClassifier_foldl (settled contested) (fun t h done => timedClassifier_serveRecord done h)
    (List.finRange 128)).trans contested
  generalize (List.finRange 128).foldl serveRecord t = u at records ⊢
  exact (timedClassifier_foldl (settled records) (fun t l _ => timedClassifier_serveLane t l) (List.finRange 3)).trans records

/-! ### The expired entries -/

/-- The first element of a kind erased leaves one less of the kind. -/
theorem countP_eraseP_self {α : Type} (p : α → Bool) (l : List α) : (l.eraseP p).countP p = l.countP p - 1 := by
  induction l with
  | nil => rfl
  | cons x l ih =>
    by_cases picked : p x = true
    · rw [List.eraseP_cons_of_pos picked, List.countP_cons_of_pos picked, Nat.add_sub_cancel]
    · rw [List.eraseP_cons_of_neg picked, List.countP_cons_of_neg picked, List.countP_cons_of_neg picked, ih]

/-- An expired entry of these names. -/
def isStale (s : State) (k : DirectedKind) (h : Handle) (r : TreeCycle) (e : DirectedGrant) : Bool :=
  isEntry k h r e && entryExpired s e

/-- An entry that no burst answers leaves the counts and the classifier's state. -/
theorem timedClassifier_answerEntry (e : DirectedGrant) (s : State) :
    timedClassifier (answerEntry e .noBurst s) = timedClassifier s := by
  unfold answerEntry
  split
  · rfl
  · unfold verifyReport
    split
    · rfl
    case h_2 taker _ => cases taker <;> rfl

/-- Serving an entry's expiry drops the first expired entry of its names. -/
theorem timedClassifier_serveEntry (s : State) (e : DirectedGrant) : timedClassifier (serveEntry s e) =
    (s.time, { s.classifier with issued := s.classifier.issued.eraseP (isStale s e.kind e.handle e.cycle) }) := by
  unfold serveEntry serveExpiry
  dsimp only
  split
  case h_1 => exact timedClassifier_answerEntry _ _
  case h_2 none =>
    have kept : s.classifier.issued.eraseP (isStale s e.kind e.handle e.cycle) = s.classifier.issued :=
      List.eraseP_of_forall_not fun x mem => List.find?_eq_none.1 none x mem
    rw [kept]
    rfl

/-- Entries served one by one leave none expired that has as many of its names to be served (R82). -/
theorem unexpired_foldl_serveEntry (entries : List DirectedGrant) :
    ∀ s : State, (∀ k h r, s.classifier.issued.countP (isStale s k h r) ≤ entries.countP (isEntry k h r)) →
      (entries.foldl serveEntry s).time = s.time ∧
        ∀ e ∈ (entries.foldl serveEntry s).classifier.issued, entryExpired s e = false := by
  induction entries with
  | nil =>
    refine fun s few => ⟨rfl, fun e mem => Bool.eq_false_iff.2 fun expired => ?_⟩
    have none := List.countP_eq_zero.1 (Nat.le_zero.1 (few e.kind e.handle e.cycle)) e mem
    simp [isStale, isEntry, expired] at none
  | cons e entries ih =>
    intro s few
    have served := timedClassifier_serveEntry s e
    have time : (serveEntry s e).time = s.time := congrArg Prod.fst served
    have issued : (serveEntry s e).classifier.issued = s.classifier.issued.eraseP (isStale s e.kind e.handle e.cycle) :=
      congrArg (fun f => f.2.issued) served
    have same : ∀ k h r, isStale (serveEntry s e) k h r = isStale s k h r := fun k h r => by
      funext g
      rw [isStale, entryExpired, time]
      rfl
    obtain ⟨timeAll, unexpired⟩ := ih (serveEntry s e) fun k h r => by
      have before := few k h r
      rw [List.countP_cons] at before
      rw [issued, same]
      by_cases named : isEntry k h r e = true
      · obtain ⟨⟨rfl, rfl⟩, rfl⟩ : (e.kind = k ∧ e.handle = h) ∧ e.cycle = r := by simpa [isEntry] using named
        rw [if_pos named] at before
        rw [countP_eraseP_self]
        omega
      · rw [if_neg named] at before
        exact (List.eraseP_sublist.countP_le).trans before
    refine ⟨timeAll.trans time, fun g mem => ?_⟩
    have kept := unexpired g mem
    rwa [entryExpired, time] at kept

/-- The leftovers served, with no scheduler work owed: the counts stand, and no expired entry is left (R82). -/
theorem serveLeftovers_unexpired (done : s.time.owesScheduler = false) :
    (serveLeftovers s).time = s.time ∧ ∀ e ∈ (serveLeftovers s).classifier.issued, entryExpired s e = false := by
  have time := time_of_timedClassifier (timedClassifier_serveStanding done)
  obtain ⟨kept, unexpired⟩ := unexpired_foldl_serveEntry (serveStanding s).classifier.issued (serveStanding s)
    fun k h r => List.countP_mono_left fun e _ stale => (Bool.and_eq_true_iff.1 stale).1
  rw [serveLeftovers_eq]
  refine ⟨kept.trans time, fun e mem => ?_⟩
  have left := unexpired e mem
  rwa [entryExpired, time] at left

end Sys2Proof.Machine
end

section
/-! The slate built, and the counts advanced, keep the books (R4, R77, R82, R172, R173). -/

namespace Sys2Proof.Machine

variable {full : Prop} {s : State}

/-! ### The slate built -/

theorem directedIn_eq (r : TreeCycle) (calendar : List Grant) :
    directedIn r calendar = (calendar.filter fun g => g.cycle == r).filterMap Grant.directed? := by
  rw [List.filterMap_filter, directedIn]
  refine List.filterMap_congr fun g _ => ?_
  cases g with
  | directed g => simp [Grant.cycle, Grant.directed?]
  | discover c pattern => simp [Grant.directed?]

theorem directedIn_sublist (r : TreeCycle) (calendar : List Grant) :
    (directedIn r calendar).Sublist (calendar.filterMap Grant.directed?) := by
  rw [directedIn_eq]
  exact List.filter_sublist.filterMap _

theorem cycle_of_mem_directedIn {r : TreeCycle} {calendar : List Grant} {g : DirectedGrant}
    (mem : g ∈ directedIn r calendar) : g.cycle = r := by
  rw [directedIn_eq] at mem
  obtain ⟨e, kept, read⟩ := List.mem_filterMap.1 mem
  cases e with
  | directed e =>
    obtain rfl := Option.some.inj read
    simpa [Grant.cycle] using (List.mem_filter.1 kept).2
  | discover c pattern => exact nomatch read

/-- The grants out are the same, those of a cycle moved from the calendar to the issued grants (R82). -/
theorem perm_directedIn (r : TreeCycle) (calendar : List Grant) (issued : List DirectedGrant) :
    ((calendar.filter fun g => g.cycle != r).filterMap Grant.directed? ++ (issued ++ directedIn r calendar)).Perm
      (calendar.filterMap Grant.directed? ++ issued) := by
  have parts := (List.filter_append_perm (fun g : Grant => g.cycle == r) calendar).filterMap Grant.directed?
  rw [List.filterMap_append, ← directedIn_eq] at parts
  have others : (calendar.filter fun g => !(g.cycle == r)) = calendar.filter fun g => g.cycle != r := rfl
  rw [others] at parts
  calc _ = ((calendar.filter fun g => g.cycle != r).filterMap Grant.directed? ++ issued) ++ directedIn r calendar :=
        (List.append_assoc _ _ _).symm
    List.Perm _ (directedIn r calendar ++ ((calendar.filter fun g => g.cycle != r).filterMap Grant.directed? ++ issued)) :=
        List.perm_append_comm
    _ = (directedIn r calendar ++ (calendar.filter fun g => g.cycle != r).filterMap Grant.directed?) ++ issued :=
        (List.append_assoc _ _ _).symm
    List.Perm _ (calendar.filterMap Grant.directed? ++ issued) := parts.append_right _

theorem buildSlate_eq (run : s.host.part = .running) :
    buildSlate s = buildRunning { s with time := { s.time with owesBuild := false } } :=
  if_pos run

theorem WindowBooks.buildSlate (law : WindowBooks s) (owed : s.time.owesBuild = true) : WindowBooks (buildSlate s) := by
  rw [buildSlate_eq law.part]
  refine { law with window := fun w mem => { law.window w mem with }, calendar := fun g mem => ?_,
                    discover := fun g mem => law.discover g (List.mem_of_mem_filter mem),
                    discoverOnce := List.filter_sublist.countP_le.trans law.discoverOnce }
  obtain ⟨mem, other⟩ := List.mem_filter.1 mem
  obtain ⟨least, most⟩ := law.calendar g mem
  refine ⟨?_, most⟩
  change 2 ≤ (g.cycle - s.time.treeCycle).toNat
  have apart : g.cycle ≠ s.time.treeCycle + 1 := by simpa using other
  rw [owed, if_pos rfl, cyclesTo] at least
  bv_omega

theorem GrantBooks.buildSlate (law : GrantBooks s) (run : s.host.part = .running) (owed : s.time.owesBuild = true) :
    GrantBooks (buildSlate s) := by
  rw [buildSlate_eq run]
  refine { law with calendar := fun g mem => law.calendar g ((List.filter_sublist.filterMap _).mem mem),
                    issued := fun g mem => ?_, listed := fun x near => ?_, issuedBound := ?_, ahead := nofun,
                    reserved := fun x _ => Nat.zero_le _ }
  · rcases List.mem_append.1 mem with old | new
    · exact law.issued g old
    · obtain ⟨directed, short⟩ := law.calendar g ((directedIn_sublist _ _).mem new)
      refine ⟨directed, ?_⟩
      have cycle : g.cycle = s.time.treeCycle + 1 := cycle_of_mem_directedIn new
      rw [cycle] at short
      change -2 ≤ cycleDiff g.span.last.cycle s.time.treeCycle ∧ cycleDiff g.span.last.cycle s.time.treeCycle ≤ 24
      rw [cycleDiff_eq]
      split
      · constructor
        · omega
        · bv_omega
      · bv_omega
  · exact (((perm_directedIn _ _ _).map _).count_eq x).trans_le (law.listed x near)
  · have same := law.issuedBound
    rw [grantsIssued, owed, if_pos rfl] at same
    simpa [grantsIssued, buildRunning] using same

theorem Books.owedBuild (law : Books full s) : Books full (owedBuild s) := by
  unfold Machine.owedBuild
  split
  case isTrue owed =>
    exact ⟨law.window.buildSlate owed, fun whole => (law.grants whole).buildSlate law.window.part owed⟩
  · exact law

/-! ### The counts advanced -/

theorem WindowBooks.advanceCounts (law : WindowBooks s) (done : s.time.owesScheduler = false)
    (built : s.time.owesBuild = false) : WindowBooks (advanceCounts s) := by
  have near {d : LocalCount} (within : deadlineWithin s 40 d) : deadlineWithin (Machine.advanceCounts s) 40 d := by
    obtain ⟨least, most⟩ := within
    rw [done] at least
    change 0 ≤ (d - (s.time.localCount + 1)).toNat ∧ (d - (s.time.localCount + 1)).toNat ≤ 40
    simp only [Bool.false_eq_true, if_false] at least
    bv_omega
  refine { law with agree := ?_, window := fun w mem => ?_, own := fun x mem own => ?_, calendar := fun g mem => ?_ }
  · show s.time.treeCycle + 1 = (s.time.localCount + 1).setWidth 16
    rw [law.agree]
    bv_omega
  · have within := law.window w mem
    exact { within with opening := fun announced => near (within.opening announced), closing := near within.closing }
  · rcases law.own x mem own with windowed | ⟨owed, -⟩
    · exact .inl windowed
    · rw [done] at owed
      exact Bool.noConfusion owed
  · obtain ⟨least, most⟩ := law.calendar g mem
    rw [built, cyclesTo] at least
    rw [cyclesTo] at most
    change 1 ≤ (g.cycle - (s.time.treeCycle + 1)).toNat ∧ (g.cycle - (s.time.treeCycle + 1)).toNat ≤ 16
    simp only [Bool.false_eq_true, if_false] at least
    bv_omega

/-- The span of a grant out ends ahead, or at most one cycle back where no issued grant has expired. -/
theorem unpassed_grantsOut (law : Books True s) (unexpired : ∀ e ∈ s.classifier.issued, entryExpired s e = false)
    {g : DirectedGrant} (mem : g ∈ grantsOut s) : cycleDiff s.time.treeCycle g.span.last.cycle < 2 := by
  rcases List.mem_append.1 mem with waiting | issued
  · obtain ⟨e, kept, read⟩ := List.mem_filterMap.1 waiting
    obtain ⟨-, short⟩ := (law.grants trivial).calendar g waiting
    obtain ⟨least, most⟩ := law.window.calendar e kept
    have cycle : e.cycle = g.cycle := by
      cases e with
      | directed e => rw [← Option.some.inj read]; rfl
      | discover c pattern => exact nomatch read
    rw [cycle, cyclesTo] at least most
    have ahead : 1 ≤ (g.cycle - s.time.treeCycle).toNat := by
      split at least <;> omega
    rw [cycleDiff_eq]
    split <;> bv_omega
  · have left := unexpired g issued
    simp only [entryExpired, decide_eq_false_iff_not, Int.not_le] at left
    exact left

/-- The grants issued once the counts advance are among the grants out. -/
theorem count_grantsIssued_advanceCounts (x : Span) : ((grantsIssued (advanceCounts s)).map DirectedGrant.span).count x ≤
    ((grantsOut s).map DirectedGrant.span).count x := by
  have fewer : (grantsIssued (advanceCounts s)).Sublist (s.classifier.issued ++ s.sched.calendar.filterMap Grant.directed?) :=
    (List.Sublist.refl _).append (directedIn_sublist _ _)
  exact ((fewer.map _).count_le x).trans_eq ((List.perm_append_comm.map _).count_eq x)

theorem GrantBooks.advanceCounts (law : Books True s) (built : s.time.owesBuild = false)
    (unexpired : ∀ e ∈ s.classifier.issued, entryExpired s e = false) (few : directedSpans s ≤ 32) :
    GrantBooks (advanceCounts s) := by
  obtain ⟨window, grants⟩ := law
  have grants := grants trivial
  have listed (x : Span) (out : x ∈ (grantsOut s).map DirectedGrant.span) :
      ((grantsOut s).map DirectedGrant.span).count x ≤ s.sched.spans.count x := by
    obtain ⟨g, mem, rfl⟩ := List.mem_map.1 out
    exact grants.listed _ (unpassed_grantsOut ⟨window, fun _ => grants⟩ unexpired mem)
  have directed {x : Span} (out : x ∈ (grantsOut s).map DirectedGrant.span) : x.isDirected = true := by
    obtain ⟨g, mem, rfl⟩ := List.mem_map.1 out
    rcases List.mem_append.1 mem with waiting | issued
    · exact (grants.calendar g waiting).1
    · exact (grants.issued g issued).1
  refine { grants with issued := fun g mem => ?_, listed := fun x _ => ?_, issuedBound := ?_, ahead := fun x mem ours => ?_ }
  · obtain ⟨directed, least, most⟩ := grants.issued g mem
    have left := unexpired g mem
    simp only [entryExpired, decide_eq_false_iff_not, Int.not_le] at left
    refine ⟨directed, ?_⟩
    change -2 ≤ cycleDiff g.span.last.cycle (s.time.treeCycle + 1) ∧
      cycleDiff g.span.last.cycle (s.time.treeCycle + 1) ≤ 24
    rw [cycleDiff_eq] at left least most ⊢
    split at left <;> split at least <;> split <;> bv_omega
  · by_cases out : x ∈ (grantsOut s).map DirectedGrant.span
    · exact listed x out
    · exact (List.count_eq_zero.2 out).trans_le (Nat.zero_le _)
  · have fewer : ((grantsIssued (Machine.advanceCounts s)).map DirectedGrant.span).Subperm
        (s.sched.spans.filter Span.isDirected) := by
      refine List.subperm_ext_iff.2 fun x mem => ?_
      have count := count_grantsIssued_advanceCounts (s := s) x
      have out : x ∈ (grantsOut s).map DirectedGrant.span :=
        List.count_pos_iff.1 ((List.count_pos_iff.2 mem).trans_le count)
      rw [List.count_filter (directed out)]
      exact count.trans (listed x out)
    have short := fewer.length_le
    rw [List.length_map, ← List.countP_eq_length_filter] at short
    exact short.trans few
  · obtain ⟨least, most⟩ := grants.ahead x mem ours
    rw [built, cyclesTo] at least
    rw [cyclesTo] at most
    change 1 ≤ (x.last.cycle - (s.time.treeCycle + 1)).toNat ∧ (x.last.cycle - (s.time.treeCycle + 1)).toNat ≤ 40
    simp only [Bool.false_eq_true, if_false] at least
    bv_omega

end Sys2Proof.Machine
end

section
/-! The deliveries, the strobe and the host commands keep the books, and with them every command that leaves the part in RUNNING. -/

namespace Sys2Proof.Machine

variable {full : Prop} {s : State}

/-! ### Hand-offs taken in their order -/

/-- The hand-offs up to the wanted one are taken, and they are the oldest. -/
theorem takeWantedInOrder_eq {α : Type} [DecidableEq α] (sel : Handoff → Option α) (want : α → Bool)
    (take : α → State → State) (s : State) : ∃ taken rest, s.handed.filterMap sel = taken ++ rest ∧
      takeWantedInOrder sel want take s = taken.foldl (fun t a => take a t) s := by
  unfold takeWantedInOrder
  split
  case h_1 a found =>
    have parts := List.takeWhile_append_dropWhile (p := (· ≠ a)) (l := s.handed.filterMap sel)
    cases left : (s.handed.filterMap sel).dropWhile (· ≠ a) with
    | nil =>
      have other := List.dropWhile_eq_nil_iff.1 left a (List.mem_of_find?_eq_some found)
      simp at other
    | cons b rest =>
      have first := List.head_dropWhile_not (· ≠ a) (l := s.handed.filterMap sel) (by rw [left]; nofun)
      simp only [left, List.head_cons, decide_eq_false_iff_not, not_not] at first
      subst first
      refine ⟨olderHanded sel b s ++ [b], rest, ?_, ?_⟩
      · rw [← parts, left, olderHanded]
        simp
      · rw [List.foldl_append]
        rfl
  · exact ⟨[], _, rfl, rfl⟩

/-- What each hand-off taken keeps, being the oldest of its kind, all of them keep. -/
theorem takeWantedInOrder_keeps {α : Type} [DecidableEq α] {sel : Handoff → Option α} {want : α → Bool}
    {take : α → State → State} {law : State → Prop}
    (each : ∀ a rest (s : State), s.handed.filterMap sel = a :: rest → law s →
      law (take a s) ∧ (take a s).handed.filterMap sel = rest) (holds : law s) : law (takeWantedInOrder sel want take s) := by
  have all (taken : List α) : ∀ (rest : List α) (t : State), t.handed.filterMap sel = taken ++ rest → law t →
      law (taken.foldl (fun t b => take b t) t) := by
    induction taken with
    | nil => exact fun _ _ _ holds => holds
    | cons a taken ih =>
      intro rest t waiting holds
      obtain ⟨kept, left⟩ := each a _ t waiting holds
      exact ih rest _ left kept
  obtain ⟨taken, rest, waiting, same⟩ := takeWantedInOrder_eq sel want take s
  rw [same]
  exact all taken rest s waiting holds

theorem Books.attemptPlaced (law : Books full s) (h : Handle) :
    Books full (takeWantedInOrder placementHanded (fun p => p.handle == h) Machine.takeOnePlacement s) :=
  takeWantedInOrder_keeps (fun p _ _ waiting law => ⟨law.takeOnePlacement p, placementsHanded_takeOnePlacement waiting⟩) law

/-! ### Delivery notices -/

/-- Records with the same launch delays, and the same configuration. -/
theorem RecordDelays.congr {t : State} (delays : RecordDelays s) (record : ∀ g, recordAt t g = recordAt s g)
    (config : t.host.config = s.host.config) : RecordDelays t := fun g => by
  rw [record, config]
  exact delays g

theorem Books.beginAttempts (law : Books full s) (h : Handle) (delays : full → RecordDelays s) :
    Books full (beginAttempts h s) := by
  have dropped : Books full { s with handed := s.handed.filter fun x => !ofEarlierSequence h x } := law.of_view rfl
  exact dropped.askOrWait h delays

theorem Books.assignDelivered (law : Books full s) (h : Handle) (x : Identity) (delays : full → RecordDelays s) :
    Books full (assignDelivered h x s) := by
  unfold Machine.assignDelivered
  split
  case h_1 y r record =>
    refine books_ite (fun _ => ?_) fun _ => law
    have begun : Books full (Machine.setRecord h (.ranging y { r with stage := .attempting }) s) :=
      law.setRecord h (law.heard (r := r) record)
    exact begun.beginAttempts h fun whole =>
      (delays whole).setRecord (r := .ranging y { r with stage := .attempting }) (by rw [record]; rfl)
  all_goals exact law

theorem Books.setDelayDelivered (law : Books full s) (h : Handle) (x : Identity) (delay : Nat) (c : TreeCycle) :
    Books full (setDelayDelivered h x delay c s) := by
  unfold Machine.setDelayDelivered
  dsimp only
  split
  · exact books_ite (fun _ => (law.setRecord h).raise _) fun _ => law
  · exact books_ite (fun _ => law.setRecord h) fun _ => law
  · exact books_ite (fun _ => law.setRecord h) fun _ => law
  all_goals exact law

theorem Books.takeDelivery (law : Books full s) (d : Delivery) (delays : full → RecordDelays s) :
    Books full (takeDelivery d s) := by
  have dropped := law.takeEvent (.delivered d)
  cases d with
  | assign h x c => exact dropped.assignDelivered h x delays
  | setDelay h x delay c => exact dropped.setDelayDelivered h x delay c
  | retune h x c => exact dropped

theorem Books.deliveries (law : Books full s) (delays : full → DelaysWithin s) (sel : Delivery → Bool) :
    Books full (takeWantedInOrder deliveryNotice sel Machine.takeDelivery s) := by
  refine (takeWantedInOrder_keeps (law := fun t => Books full t ∧ (full → DelaysWithin t)) ?_ ⟨law, delays⟩).1
  rintro d rest t waiting ⟨law, delays⟩
  obtain ⟨goes, left⟩ := goes_takeDelivery waiting
  have within := fun whole => goes.keeps delaysWithin_act (delays whole)
  exact ⟨⟨law.takeDelivery d fun whole => (delays whole).records, within⟩, left⟩

/-! ### The strobe -/

theorem owesScheduler_owedScheduler (run : running s = true) : (owedScheduler s).time.owesScheduler = false := by
  cases owed : s.time.owesScheduler with
  | false => rw [owedScheduler_of_not_owed owed, owed]
  | true =>
    rw [owedScheduler_of_owed run owed]
    exact congrArg Timebase.owesScheduler (schedulerWork_frame s).time

/-- The slate built owes no scheduler work more. -/
theorem time_owedBuild (s : State) : (owedBuild s).time = { s.time with owesBuild := false } := by
  unfold owedBuild
  split
  case isTrue owed =>
    unfold buildSlate
    dsimp only
    split <;> rfl
  case isFalse settled =>
    rw [← Bool.eq_false_iff.2 settled]

/-- A strobe's work done: nothing is owed, and no issued grant has expired. -/
structure Finished (s : State) : Prop where
  scheduler : s.time.owesScheduler = false
  build : s.time.owesBuild = false
  unexpired : ∀ e ∈ s.classifier.issued, entryExpired s e = false

theorem Finished.of_time {t : State} (time : t.time = s.time) (scheduler : s.time.owesScheduler = false)
    (build : s.time.owesBuild = false) (unexpired : ∀ e ∈ t.classifier.issued, entryExpired s e = false) : Finished t where
  scheduler := (congrArg Timebase.owesScheduler time).trans scheduler
  build := (congrArg Timebase.owesBuild time).trans build
  unexpired := fun e mem => by
    rw [entryExpired, time]
    exact unexpired e mem

theorem Books.finishStrobe (law : Books full s) (run : running s = true) :
    Books full (finishStrobe s) ∧ Finished (finishStrobe s) := by
  have built := law.owedScheduler.owedBuild
  have time := time_owedBuild (Machine.owedScheduler s)
  have scheduler : (Machine.owedBuild (Machine.owedScheduler s)).time.owesScheduler = false :=
    (congrArg Timebase.owesScheduler time).trans (owesScheduler_owedScheduler run)
  have build : (Machine.owedBuild (Machine.owedScheduler s)).time.owesBuild = false := congrArg Timebase.owesBuild time
  have same : Machine.finishStrobe s = Machine.serveLeftovers (Machine.owedBuild (Machine.owedScheduler s)) :=
    if_pos built.window.part
  obtain ⟨kept, unexpired⟩ := serveLeftovers_unexpired scheduler
  rw [same]
  exact ⟨built.serveLeftovers, .of_time kept scheduler build unexpired⟩

theorem Books.advanceCounts (law : Books full s) (finished : Finished s) (few : directedSpans s ≤ 32) :
    Books full (advanceCounts s) where
  window := law.window.advanceCounts finished.scheduler finished.build
  grants := fun whole =>
    GrantBooks.advanceCounts ⟨law.window, fun _ => law.grants whole⟩ finished.build finished.unexpired few

theorem WithinBounds.finishStrobe (bounds : WithinBounds s) : WithinBounds (finishStrobe s) :=
  (goes_finishStrobe s).keeps (act_of_growth (fun _ _ => .of_noMore) fun _ _ => .of_grows) bounds

theorem Books.takeStrobe (law : Books full s) (run : running s = true) (bounds : WithinBounds s) (epoch : Bool)
    (part : StrobePart) : Books full (takeStrobe epoch part s) := by
  obtain ⟨books, finished⟩ := law.finishStrobe run
  have counted : Books full (strobeCounts epoch (Machine.finishStrobe s)) := by
    rw [strobeCounts_of_running books.window.part]
    exact books.advanceCounts finished bounds.finishStrobe.directed
  cases part with
  | whole => exact counted.owedScheduler.owedBuild
  | counts => exact counted
  | scheduler => exact law.owedScheduler
  | build => exact law.owedBuild

/-! ### The host commands -/

/-- A frame taken in RUNNING: it finds no scheduler work owed (R77). -/
theorem Books.command {taken : PartState → Bool} {decide : State → State} (law : Books full s) (delays : full → DelaysWithin s)
    (each : ∀ {t : State}, taken .running = true → Books full t → t.time.owesScheduler = false → (full → RecordDelays t) →
      Books full (decide t)) : Books full (command taken decide s) := by
  cases held : s.host.held with
  | true =>
    rw [command_of_held held]
    exact law
  | false =>
    rw [command_of_released held]
    have kept := law.owedScheduler
    refine books_ite (fun listed => each (kept.window.part ▸ listed) kept ?_ fun whole => ?_) fun _ => kept.respond _
    · exact owesScheduler_owedScheduler ((running_iff s).2 ⟨held, law.window.part⟩)
    · exact ((goes_owedScheduler [] s).keeps delaysWithin_act (delays whole)).records

theorem Books.bar (law : Books full s) (x : Identity) : Books full (bar x s) := by
  have added {t : State} (law : Books full t) : Books full (Machine.respondOk (addBarred x t)) :=
    law.of_view rfl
  refine books_ite (fun _ => law.respondOk) fun _ => books_ite (fun _ => law.respond _) fun _ => ?_
  split
  case h_1 h _ =>
    unfold barHeld
    split
    · exact law.respond _
    · exact law.respond _
    · exact law.respond _
    all_goals exact added (law.dropAndRelease h x _)
  · exact added law

theorem Books.deregister (law : Books full s) (hb : Byte) : Books full (deregister hb s) := by
  unfold Machine.deregister
  split
  · exact law.respond _
  case h_2 h _ =>
    unfold deregisterRecord
    split
    · exact law.respond _
    · exact law.respond _
    · exact law.respond _
    · exact law.respond _
    all_goals exact (law.dropAndRelease h _ _).respondOk

theorem Books.rerange (law : Books full s) (hb : Byte) : Books full (rerange hb s) := by
  unfold Machine.rerange
  split
  · exact law.respond _
  case h_2 h _ =>
    have reranged : Books full (Machine.respondOk (Machine.enterReranging h .host s)) :=
      (law.enterReranging h fun _ => RerangeCause.within_host).respondOk
    unfold rerangeRecord
    split
    · exact law.respond _
    · exact law.respond _
    · exact law.respond _
    · exact law.respond _
    · exact law.respond _
    all_goals exact reranged

theorem Books.handover (law : Books full s) (hb tb : Byte) : Books full (handover hb tb s) := by
  unfold Machine.handover
  split
  · exact law.respond _
  · exact law.respond _
  case h_3 h target _ _ =>
    unfold handoverRecord
    split
    · exact law.respond _
    · exact books_ite (fun _ => ((law.queueNotice _).setRecord h).respondOk) fun _ => law.respond _
    all_goals exact law.respond _

theorem Books.suspend (law : Books full s) (kind : Byte) : Books full (suspend kind s) := by
  unfold Machine.suspend
  split
  · exact law.respond _
  case h_2 k _ =>
    refine books_ite (fun _ => law.respond _) fun _ => Books.respondOk ?_
    have pushed : Books full { s with sched := { s.sched with stack := s.sched.stack ++ [k] } } := law.of_view rfl
    cases k with
    | ranging => exact books_foldl (fun _ (r : Request) law => law.withdrawRequest r.handle) _ pushed
    | discovery => exact pushed

/-- A RANGE request met writes the span list, the calendar, the queue, the reservations and the hand-offs alone. -/
theorem meetRange_eq (e : Int) (h : Handle) (x : Identity) (s : State) : ∃ spans calendar placements builder handed,
    meetRequest ⟨.range e, h, x⟩ s =
      { s with
        sched := { s.sched with spans := spans, calendar := calendar, placements := placements }
        builder := builder
        handed := handed } := by
  rcases meetRequest_cases ⟨.range e, h, x⟩ s with same | same | ⟨g, -, found, same⟩ <;> rw [same]
  · exact ⟨_, _, _, _, _, rfl⟩
  · exact ⟨_, _, _, _, _, rfl⟩
  · obtain ⟨r, o, found⟩ := searchPlacement_spec found
    have kind : g.kind = .range := by rw [(grantAt_spec found).1]; rfl
    simp only [place, handPlacement, kind]
    exact ⟨_, _, _, _, _, rfl⟩

/-- Asking for a placement leaves the records, where no scheduler work is owed. -/
theorem table_askRange (done : s.time.owesScheduler = false) (h : Handle) : (askRange h s).table = s.table := by
  unfold askRange askRangeBy
  split
  case h_1 x r _ =>
    rw [request_of_not_owed (by simpa using done)]
    obtain ⟨_, _, _, _, _, same⟩ := meetRange_eq (expectedLoop s.host.config r) h x (setSlot h (.asked x) s)
    rw [same]
    rfl
  all_goals rfl

theorem table_queueRange (h : Handle) (s : State) : (queueRange h s).table = s.table := by
  unfold queueRange askRangeBy
  split
  case h_1 x r _ =>
    rcases enqueue_cases ⟨.range (expectedLoop s.host.config r), h, x⟩ (setSlot h (.asked x) s) with e | e <;> rw [e] <;> rfl
  all_goals rfl

theorem RecordDelays.of_table {t : State} (delays : RecordDelays s) (table : t.table = s.table)
    (standing : standing t = standing s) : RecordDelays t :=
  delays.congr (fun g => by rw [recordAt, table]; rfl) (congrArg (fun f => f.1.config) standing)

theorem Books.queueRanges (hs : List Handle) : ∀ {s : State}, Books full s → (full → RecordDelays s) →
    Books full (hs.foldl (fun s h => queueRange h s) s) := by
  induction hs with
  | nil => exact fun law _ => law
  | cons h hs ih =>
    intro s law delays
    exact ih (law.askRangeBy h delays fun law => law.enqueue) fun whole =>
      (delays whole).of_table (table_queueRange h s) (standing_queueRange h s)

theorem Books.askWaiting (law : Books full s) (done : s.time.owesScheduler = false) (delays : full → RecordDelays s) :
    Books full (askWaiting s) := by
  unfold Machine.askWaiting
  split
  · exact law
  case h_2 first others _ =>
    exact Books.queueRanges others (law.askRange first delays) fun whole =>
      (delays whole).of_table (table_askRange done first) (standing_askRange first s)

theorem Books.resume (law : Books full s) (done : s.time.owesScheduler = false) (delays : full → RecordDelays s) :
    Books full (resume s) := by
  unfold Machine.resume
  split
  · exact law.respond _
  case h_2 k _ =>
    have popped : Books full { s with sched := { s.sched with stack := s.sched.stack.dropLast } } := law.of_view rfl
    cases k with
    | ranging => exact (popped.askWaiting done delays).respondOk
    | discovery => exact popped.respondOk

theorem Books.discoverNow (law : Books full s) : Books full (discoverNow s) :=
  books_ite (fun _ => law.respond _) fun _ => books_ite (fun _ => law.respondOk) fun _ => law.of_view rfl

theorem Books.readEvent (law : Books full s) : Books full (readEvent s) := by
  unfold Machine.readEvent
  split
  · exact law.respond _
  · exact law.of_view rfl

theorem Books.readCounters (law : Books full s) (clear : Byte) : Books full (readCounters clear s) := by
  unfold Machine.readCounters
  split
  · exact law.respond _
  · exact law.of_view rfl

theorem Books.clearAttention (law : Books full s) (conditions : Byte) : Books full (clearAttention conditions s) := by
  unfold Machine.clearAttention
  split
  · exact law.respond _
  · exact law.of_view rfl

theorem Books.readRecord (law : Books full s) (h : Byte) : Books full (readRecord h s) := by
  unfold Machine.readRecord
  split <;> exact law.respond _

end Sys2Proof.Machine
end

section
/-! Every command keeps the books; the laws of the window and of the grants are those of the books (R55, R56, R63 to R65, R69, R82,
R173). -/

namespace Sys2Proof.Machine

variable {full : Prop} {s : State}

/-- The books as a law of the part: in RUNNING they stand. -/
def BooksLaw (full : Prop) (s : State) : Prop :=
  s.host.part = .running → Books full s

/-! ### The strobe -/

/-- The books of a part that has just aligned are empty (R5). -/
theorem books_align (quiet : QuietOutsideRunning s) (config : ConfigWithin s.host.config) : Books full (align s) := by
  have sched : (align s).sched = { Scheduler.atReset with due := true, dueDeadline := none } := by
    rw [← quiet.sched]
    rfl
  have free (h : Handle) : recordAt (align s) h = .free := by
    show s.table.records[h] = .free
    simp [quiet.records]
  have issued : (align s).classifier.issued = [] := quiet.issued
  have reservations : (align s).builder.reservations = [] := quiet.reservations
  refine
    { window :=
        { part := rfl, agree := rfl, config := config, window := ?_, own := ?_, ownOnce := ?_, calendar := ?_
          discover := ?_, discoverOnce := ?_ }
      grants := fun _ =>
        { loops := fun h e mem => ?_, requests := ?_, calendar := ?_, issued := ?_, listed := fun x _ => ?_,
          issuedBound := ?_, ahead := ?_, reserved := fun x _ => ?_ } }
  case refine_7 => rw [free] at mem; exact nomatch mem
  all_goals simp [grantsOut, grantsIssued, sched, issued, reservations, Scheduler.atReset, directedIn]

theorem BooksLaw.owedScheduler (law : BooksLaw full s) : BooksLaw full (owedScheduler s) := fun run =>
  (law ((congrArg (fun f => f.1.part) (standing_owedScheduler s)).symm.trans run)).owedScheduler

theorem BooksLaw.owedBuild (law : BooksLaw full s) : BooksLaw full (owedBuild s) := fun run =>
  (law ((congrArg (fun f => f.1.part) (standing_owedBuild s)).symm.trans run)).owedBuild

theorem BooksLaw.takeStrobe (law : BooksLaw full s) (released : s.host.held = false) (quiet : QuietLaw s)
    (config : ConfigWithin s.host.config) (bounds : WithinBounds s) (epoch : Bool) (part : StrobePart) :
    BooksLaw full (takeStrobe epoch part s) := by
  have same : (finishStrobe s).host.part = s.host.part := (steady_finishStrobe s).part
  have counted : BooksLaw full (strobeCounts epoch (finishStrobe s)) := by
    unfold strobeCounts
    split
    case h_1 run =>
      rw [same] at run
      obtain ⟨books, finished⟩ := (law run).finishStrobe ((running_iff s).2 ⟨released, run⟩)
      exact fun _ => books.advanceCounts finished bounds.finishStrobe.directed
    case h_2 aligning =>
      split
      · have idle : (finishStrobe s).host.part ≠ .running := by rw [aligning]; nofun
        exact fun _ => books_align ((keepsLaws_finishStrobe s).quiet quiet idle) ((keepsLaws_finishStrobe s).config config)
      · exact fun run => nomatch aligning.symm.trans run
    case h_3 init => exact fun run => nomatch init.symm.trans run
  cases part with
  | whole => exact counted.owedScheduler.owedBuild
  | counts => exact counted
  | scheduler => exact law.owedScheduler
  | build => exact law.owedBuild

/-! ### Every command -/

theorem BooksLaw.row {c : Prop} [Decidable c] {t : State} (law : BooksLaw full s) (guard : c → running s = true)
    (books : Books full s → Books full t) : BooksLaw full (if c then t else s) := by
  split
  case isTrue h => exact fun _ => books (law ((running_iff s).1 (guard h)).2)
  · exact law

/-- A frame that brings no part into RUNNING keeps the books where it does in RUNNING. -/
theorem BooksLaw.command {taken : PartState → Bool} {decide : State → State} (law : BooksLaw full s)
    (delays : full → DelaysWithin s) (part : ∀ t, (decide t).host.part = .running → t.host.part = .running)
    (each : ∀ {t : State}, taken .running = true → Books full t → t.time.owesScheduler = false → (full → RecordDelays t) →
      BooksLaw full (decide t)) : BooksLaw full (Machine.command taken decide s) := by
  cases held : s.host.held with
  | true =>
    rw [command_of_held held]
    exact law
  | false =>
    rw [command_of_released held]
    have kept := congrArg (fun f => f.1.part) (standing_owedScheduler s)
    have books (run : (Machine.owedScheduler s).host.part = .running) : Books full (Machine.owedScheduler s) :=
      law.owedScheduler run
    unfold answer
    split
    case isTrue listed =>
      intro run
      have running := part _ run
      refine each (running ▸ listed) (books running) ?_ (fun whole => ?_) run
      · exact owesScheduler_owedScheduler ((running_iff s).2 ⟨held, kept.symm.trans running⟩)
      · exact ((goes_owedScheduler [] s).keeps delaysWithin_act (delays whole)).records
    · exact fun run => (books run).respond _

/-- A frame that leaves the part state. -/
theorem BooksLaw.commandStanding {taken : PartState → Bool} {decide : State → State} (law : BooksLaw full s)
    (delays : full → DelaysWithin s) (part : ∀ t, standing (decide t) = standing t)
    (each : ∀ {t : State}, Books full t → t.time.owesScheduler = false → (full → RecordDelays t) → Books full (decide t)) :
    BooksLaw full (Machine.command taken decide s) :=
  law.command delays (fun t run => (congrArg (fun f => f.1.part) (part t)).symm.trans run) fun _ books done delays _ =>
    each books done delays

theorem Books.outcomeTaken {h : Handle} {x : Identity} {o : RangingOutcome} {t : State} (law : Books full s)
    (delays : full → DelaysWithin s) (taken : Machine.takeHanded (outcomeFor h) s = some ((x, o), t)) :
    Books full (Machine.takeOutcome h x o t) := by
  obtain ⟨-, rfl⟩ := takeHanded_eq_some.1 taken
  exact (law.takeHanded taken).takeOutcome h x o fun whole => (delays whole).records.congr (fun _ => rfl) rfl

theorem part_configure (f : ConfigFrame) (s : State) : (configure f s).host.part = s.host.part := by
  unfold configure
  split <;> rfl

theorem running_of_startPart {s : State} (run : (startPart s).host.part = .running) : s.host.part = .running := by
  unfold startPart at run
  split at run
  · exact run
  · exact nomatch run

theorem booksLaw_exec {c : Instr} {t : State} (done : exec c s = .next t) (law : BooksLaw full s) (quiet : QuietLaw s)
    (config : ConfigWithin s.host.config) (bounds : WithinBounds s) (delays : full → DelaysWithin s)
    (formed : full → c.wellFormed = true) : BooksLaw full t := by
  have next {u : State} (done : (.next u : Host.Outcome State Fault Refusal) = .next t) (books : BooksLaw full u) :
      BooksLaw full t := Host.Outcome.next.inj done ▸ books
  have row {u : State} (books : Books full s → Books full u) : BooksLaw full (if running s then u else s) :=
    law.row id books
  have laneRow {u : State} {l : LaneNo} (books : Books full s → Books full u) :
      BooksLaw full (if running s && laneConfigured s.host l then u else s) :=
    law.row (fun guard => (Bool.and_eq_true_iff.1 guard).1) books
  have notice (p : Channel) (n : Notice) : BooksLaw full (noticeRow p n s) :=
    law.row (fun guard => (Bool.and_eq_true_iff.1 guard).1) fun books => books.takeInOrder (fun n _ law => law.takeNotice p n) n
  have delivery (sel : Delivery → Bool) : BooksLaw full (deliveryRow sel s) :=
    law.row id fun books => books.deliveries delays sel
  cases c with
  | resetPinEvent straps => exact next done fun run => nomatch run
  | resetHeld => exact next done fun run => (law run).of_view rfl
  | cycleStrobe epoch part =>
    refine next done ?_
    split
    · exact law
    case isFalse released => exact law.takeStrobe (by simpa using released) quiet config bounds epoch part
  | settleDeadline h => exact next done (row fun law => law.serveSettle h)
  | offerDeadline h => exact next done (row fun law => law.serveOffer h)
  | handoverDeadlineSource h => exact next done (row fun law => law.serveHandoverSource h)
  | handoverDeadlineTarget h => exact next done (row fun law => law.serveHandoverTarget h)
  | retentionDeadline h => exact next done (row fun law => law.serveRetention h)
  | discoveryDueDeadline => exact next done (row fun law => law.serveDiscoveryDue)
  | windowStartDeadline => exact next done (row fun law => law.serveWindowStart)
  | windowCloseDeadline => exact next done (row fun law => law.serveWindowClose)
  | verifyRetryDeadline h => exact next done (row fun law => law.serveVerifyRetry h)
  | contestedExpiry x => exact next done (row fun law => law.serveContestedExpiry x)
  | laneAbsenceDeadline l => exact next done (laneRow fun law => law.serveAbsence l)
  | issuedGrantExpiry k h r => exact next done (row fun law => law.serveExpiry k h r)
  | runningFlagTimeout => exact next done (row fun law => law.of_view rfl)
  | transmitWordTime => exact next done (row fun law => law.transmitWord)
  | laneWord l w => exact next done (laneRow fun law => law.takeWord l w)
  | laneSilenceTimeout l => exact next done (laneRow fun law => law.takeSilence l)
  | claim | object | release | quiet | cross | handoff | accept | decline | taken | lapsed | withdraw =>
    exact next done (notice _ _)
  | burstReport r => exact next done (row fun law => law.takeReport r)
  | endOfWindowSummary r => exact next done (row fun law => law.takeSummary r)
  | hearing e =>
    refine next done (row fun law => (law.takeEvent _).takeHearing fun whole => ?_)
    simpa [Instr.wellFormed, loopWithin] using formed whole
  | crossHeardBurst b => exact next done (row fun law => (law.takeEvent _).takeCrossHeard b)
  | rangeAttemptResult r => exact next done (row fun law => (law.takeEvent _).takeRangeResult r)
  | rangingOutcomeApplied h =>
    refine next done (row fun law => ?_)
    split
    case h_1 taken => exact law.outcomeTaken delays taken
    · exact law
  | attemptPlaced h => exact next done (row fun law => law.attemptPlaced h)
  | trackerInput i => exact next done (row fun law => law.takeInOrder (fun i _ law => law.takeOneInput i) i)
  | trackerResultApplied h => exact next done (row fun law => law.takeTrackedFor h)
  | verificationBurst v => exact next done (row fun law => law.takeInOrder (fun v _ law => law.takeOneVerification v) v)
  | assignDeliveryNotice | setDelayDeliveryNotice | retuneDeliveryNotice => exact next done (delivery _)
  | readStatus => exact next done (law.commandStanding delays standing_readStatus fun law _ _ => law.respond _)
  | configure f => exact next done (law.command delays (fun t run => (part_configure f t).symm.trans run) fun init => nomatch init)
  | start => exact next done (law.command delays (fun _ => running_of_startPart) fun init => nomatch init)
  | restart => exact next done (law.command delays (fun t run => nomatch run) fun _ _ _ _ run => nomatch run)
  | readEvent => exact next done (law.commandStanding delays standing_readEvent fun law _ _ => law.readEvent)
  | readCounters clear =>
    exact next done (law.commandStanding delays (standing_readCounters clear) fun law _ _ => law.readCounters clear)
  | clearAttention conditions =>
    exact next done (law.commandStanding delays (standing_clearAttention conditions) fun law _ _ => law.clearAttention conditions)
  | bar x => exact next done (law.commandStanding delays (standing_bar x) fun law _ _ => law.bar x)
  | unbar x => exact next done (law.commandStanding delays (standing_unbar x) fun law _ _ => law.of_view rfl)
  | readRecord h => exact next done (law.commandStanding delays (standing_readRecord h) fun law _ _ => law.readRecord h)
  | find x => exact next done (law.commandStanding delays (standing_findIdentity x) fun law _ _ => law.respond _)
  | deregister h => exact next done (law.commandStanding delays (standing_deregister h) fun law _ _ => law.deregister h)
  | rerange h => exact next done (law.commandStanding delays (standing_rerange h) fun law _ _ => law.rerange h)
  | handover h target =>
    exact next done (law.commandStanding delays (standing_handover h target) fun law _ _ => law.handover h target)
  | suspend kind => exact next done (law.commandStanding delays (standing_suspend kind) fun law _ _ => law.suspend kind)
  | resume => exact next done (law.commandStanding delays standing_resume fun law done delays => law.resume done delays)
  | discoverNow => exact next done (law.commandStanding delays standing_discoverNow fun law _ _ => law.discoverNow)
  | badFrame code length =>
    exact next done (law.commandStanding delays (standing_respond (.badParameter 0)) fun law _ _ => law.respond _)
  | frameDiscarded => exact next done fun run => (law run).of_view rfl

end Sys2Proof.Machine
end

section
/-! The laws of the window and of the grants, kept by every step. -/

namespace Sys2Proof.Machine

variable {s : State}

/-! ### The laws and the books -/

/-- A span list is as long as its kinds of spans together (R55). -/
theorem length_spans (spans : List Span) : spans.length = spans.countP Span.isDirected + spans.countP Span.isOwn +
    ((spans.countP fun x => x.kind == .peerQuiet 0) + (spans.countP fun x => x.kind == .peerQuiet 1) +
      (spans.countP fun x => x.kind == .peerQuiet 2) + (spans.countP fun x => x.kind == .peerQuiet 3)) := by
  induction spans with
  | nil => rfl
  | cons x spans ih =>
    simp only [List.length_cons, List.countP_cons, ih]
    cases kind : x.kind with
    | ownDiscovery => simp [Span.isDirected, Span.isOwn, kind]; omega
    | range h => simp [Span.isDirected, Span.isOwn, kind]; omega
    | verify h => simp [Span.isDirected, Span.isOwn, kind]; omega
    | peerQuiet p =>
      have once : ∀ p : Channel,
          (if p = 0 then 1 else 0) + (if p = 1 then 1 else 0) + (if p = 2 then 1 else 0) + (if p = 3 then 1 else 0) = 1 := by
        decide
      have once := once p
      simp [Span.isDirected, Span.isOwn, kind]
      omega

/-- 32 directed spans, the window's and two of each peer (R55). -/
theorem length_spans_le (bounds : WithinBounds s) (own : s.sched.spans.countP Span.isOwn ≤ 1)
    (none : quietSpansOf s.host.ownChannel s = 0) : s.sched.spans.length ≤ 39 := by
  have directed := bounds.directed
  have quiet := bounds.quiet
  rw [length_spans]
  have q0 := quiet 0
  have q1 := quiet 1
  have q2 := quiet 2
  have q3 := quiet 3
  generalize s.host.ownChannel = c at none
  unfold directedSpans at directed
  unfold quietSpansOf at none q0 q1 q2 q3
  have channel : ∀ c : Channel, c = 0 ∨ c = 1 ∨ c = 2 ∨ c = 3 := by decide
  rcases channel c with rfl | rfl | rfl | rfl <;> omega

/-- The reservations are listed spans: 32 directed ones and the window's at most (R173). -/
theorem reservations_le (bounds : WithinBounds s) (own : s.sched.spans.countP Span.isOwn ≤ 1)
    (reserved : ∀ x : Span, (x.isOwn || x.isDirected) = true → s.builder.reservations.count x ≤ s.sched.spans.count x) :
    s.builder.reservations.countP (fun x => x.isOwn || x.isDirected) ≤ 33 := by
  have fewer : (s.builder.reservations.filter fun x => x.isOwn || x.isDirected).Subperm
      (s.sched.spans.filter fun x => x.isOwn || x.isDirected) := by
    refine List.subperm_ext_iff.2 fun x mem => ?_
    have ours := (List.mem_filter.1 mem).2
    rw [List.count_filter (p := fun x : Span => x.isOwn || x.isDirected) ours,
      List.count_filter (p := fun x : Span => x.isOwn || x.isDirected) ours]
    exact reserved x ours
  have either (l : List Span) : l.countP (fun x => x.isOwn || x.isDirected) ≤ l.countP Span.isOwn + l.countP Span.isDirected := by
    induction l with
    | nil => exact Nat.le_refl 0
    | cons x l ih =>
      simp only [List.countP_cons]
      cases x.isOwn <;> cases x.isDirected <;> simp <;> omega
  have directed := bounds.directed
  have spans := either s.sched.spans
  have short := fewer.length_le
  rw [← List.countP_eq_length_filter, ← List.countP_eq_length_filter] at short
  unfold directedSpans at directed
  omega

theorem WindowLaws.books (law : WindowLaws s) (run : s.host.part = .running) : WindowBooks s :=
  { law with part := run, agree := law.counts run }

theorem WindowLaws.booksLaw (law : WindowLaws s) : BooksLaw False s := fun run =>
  ⟨law.books run, False.elim⟩

theorem GrantLaws.booksLaw (law : GrantLaws s) : BooksLaw True s := fun run =>
  ⟨law.window.books run, fun _ => { law with }⟩

/-- The laws of the window from the books in RUNNING, and from the quiet of the part outside. -/
theorem BooksLaw.windowLaws {full : Prop} (law : BooksLaw full s) (quiet : QuietLaw s) (counts : CountsAgree s)
    (config : ConfigWithin s.host.config) (bounds : WithinBounds s) : WindowLaws s := by
  by_cases run : s.host.part = .running
  · have books := (law run).window
    exact { books with quiet := quiet, counts := counts, bounds := bounds, spans := length_spans_le bounds books.ownOnce }
  · have sched := (quiet run).sched
    refine ⟨quiet, counts, config, bounds, ?_, ?_, ?_, ?_, ?_, ?_, ?_⟩
    all_goals simp [sched, Scheduler.atReset]

theorem BooksLaw.grantLaws (law : BooksLaw True s) (window : WindowLaws s) (delay : DelayLaw s) : GrantLaws s := by
  by_cases run : s.host.part = .running
  · have books := (law run).grants trivial
    exact
      { books with
        window := window, delay := delay
        reservations := reservations_le window.bounds window.ownOnce books.reserved }
  · have idle := window.quiet run
    have free (h : Handle) : recordAt s h = .free := by simp [recordAt, idle.records]
    refine ⟨window, delay, fun h e mem => ?_, ?_, ?_, ?_, fun x _ => ?_, ?_, ?_, fun x _ => ?_, ?_⟩
    · rw [free] at mem
      exact nomatch mem
    all_goals simp [grantsOut, grantsIssued, idle.sched, idle.issued, idle.reservations, Scheduler.atReset, directedIn]

/-! ### Every step -/

/-- A step takes a command with the queue's rest, or idles; the books are not about the queue. -/
theorem booksLaw_step {full : Prop} {t : State} (done : step s = .next t) (law : BooksLaw full s) (window : WindowLaws s)
    (delays : full → DelaysWithin s) (formed : full → ∀ c ∈ s.pending.head?, c.wellFormed = true) : BooksLaw full t := by
  unfold step at done
  split at done
  · exact Host.Outcome.next.inj done ▸ law
  case h_2 c rest pending =>
    refine booksLaw_exec done (fun run => (law run).of_view rfl) (quietLaw_of_pending window.quiet) window.config
      { window.bounds with } delays fun whole => ?_
    exact formed whole c (by rw [pending]; rfl)

theorem windowLaws_step {full : Prop} {t : State} (done : step s = .next t) (window : WindowLaws s) (law : BooksLaw full t) :
    WindowLaws t :=
  have keeps := keepsLaws_step done
  law.windowLaws (keeps.quiet window.quiet) (keeps.counts window.counts) (keeps.config window.config)
    (Proofs.everyStepKeepsTheBounds.1 s t window.bounds done)

end Sys2Proof.Machine

namespace Sys2Proof.Proofs
open Sys2Proof.Machine

/-- Settles O56: both laws are those of the books, which every command keeps (`booksLaw_exec`). -/
theorem everyStepKeepsTheWindowAndGrantLaws : Obligations.EveryStepKeepsTheWindowAndGrantLaws := by
  refine ⟨fun s t law done => ?_, fun s t formed law done => ?_⟩
  · exact windowLaws_step done law (booksLaw_step done law.booksLaw law False.elim False.elim)
  · have books := booksLaw_step done law.booksLaw law.window (fun _ => law.delay.within) fun _ => formed
    exact books.grantLaws (windowLaws_step done law.window books)
      (everyStepKeepsTheDelayAndTrackingLaws.1 s t law.delay done)

end Sys2Proof.Proofs
end

section
/-! The QUIETs of peers: what is discarded, reserved whole, or reserved for what is left of a late one (R67, R68). -/

namespace Sys2Proof.Machine

variable {s : State} {p : Channel} {first : TreeCycle} {length : BitVec 4}

theorem reserveQuiet_of_discarded (discarded : length.toNat = 0 ∨ 2 ≤ quietSpansOf p s) :
    reserveQuiet p first length s = bump .noticesDiscarded s :=
  if_pos discarded

theorem reserveQuiet_of_ahead (nonzero : length.toNat ≠ 0) (few : quietSpansOf p s < 2)
    (ahead : 2 ≤ cycleDiff first s.time.treeCycle) : reserveQuiet p first length s =
      addSpan ⟨.peerQuiet p, ⟨first, 0⟩, ⟨first + BitVec.ofNat 16 length.toNat - 1, 312499⟩⟩ s := by
  unfold reserveQuiet
  dsimp only
  rw [if_neg (not_or.2 ⟨nonzero, Nat.not_le.2 few⟩), if_pos ahead, wholeCycles_last _ _ (Nat.one_le_iff_ne_zero.2 nonzero)]

/-- The last cycle of a late QUIET is that of what is left of it. -/
theorem last_of_late {now : TreeCycle} {w n : Nat} (left : cycleDiff first now + w - 2 = n) :
    now + 2 + BitVec.ofNat 16 n - 1 = first + BitVec.ofNat 16 w - 1 := by
  rw [cycleDiff_eq] at left
  split at left <;> bv_omega

theorem reserveQuiet_of_late (nonzero : length.toNat ≠ 0) (few : quietSpansOf p s < 2)
    (late : cycleDiff first s.time.treeCycle < 2) (left : 2 ≤ cycleDiff first s.time.treeCycle + length.toNat - 1) :
    reserveQuiet p first length s =
      addSpan ⟨.peerQuiet p, ⟨s.time.treeCycle + 2, 0⟩, ⟨first + BitVec.ofNat 16 length.toNat - 1, 312499⟩⟩
        (bump .lateReports s) := by
  obtain ⟨n, rest⟩ := Int.eq_ofNat_of_zero_le (show 0 ≤ cycleDiff first s.time.treeCycle + length.toNat - 2 by omega)
  unfold reserveQuiet
  dsimp only
  rw [if_neg (not_or.2 ⟨nonzero, Nat.not_le.2 few⟩), if_neg (by omega), if_pos (by omega), rest,
    Int.toNat_natCast, wholeCycles_last _ _ (by omega), bump_time, last_of_late rest]

theorem reserveQuiet_of_passed (nonzero : length.toNat ≠ 0) (few : quietSpansOf p s < 2)
    (late : cycleDiff first s.time.treeCycle < 2) (passed : cycleDiff first s.time.treeCycle + length.toNat - 1 < 2) :
    reserveQuiet p first length s = bump .lateReports s := by
  unfold reserveQuiet
  dsimp only
  rw [if_neg (not_or.2 ⟨nonzero, Nat.not_le.2 few⟩), if_neg (by omega), if_neg (by omega)]

end Sys2Proof.Machine

namespace Sys2Proof.Proofs
open Sys2Proof.Machine

/-- Settles O29: the row takes the QUIET once the scheduler's work is done, which leaves the tree cycle; then by R67's cases. -/
theorem quietReservesSpans : Obligations.QuietReservesSpans := by
  intro p first length s run oldest s' listed lead w
  have taken : exec (.quiet p first length) s = .next (reserveQuiet p first length s') :=
    congrArg Host.Outcome.next (noticeRow_of_first run rfl oldest)
  have cycle : s'.time.treeCycle = s.time.treeCycle :=
    congrArg (fun f => f.1.treeCycle)
      (standing_owedScheduler { s with handed := s.handed.erase (.notice p (.quiet first length)) })
  have lead_eq : lead = cycleDiff first s'.time.treeCycle := by rw [cycle]
  rw [taken, lead_eq, ← cycle]
  exact ⟨fun discarded => congrArg _ (reserveQuiet_of_discarded discarded),
    fun nonzero few ahead => congrArg _ (reserveQuiet_of_ahead nonzero few ahead),
    fun nonzero few late left => congrArg _ (reserveQuiet_of_late nonzero few late left),
    fun nonzero few late passed => congrArg _ (reserveQuiet_of_passed nonzero few late passed)⟩

end Sys2Proof.Proofs
end

section
/-! SUSPEND and RESUME (R73 to R76, R101) and DISCOVER-NOW (R60). -/

namespace Sys2Proof.Machine

variable {s t u : State}

/-! ### The waiting RANGE requests withdrawn (R75, R101) -/

/-- The requests of these handles withdrawn, their slots IDLE. -/
structure Withdraws (hs : List Handle) (s t : State) : Prop where
  rest : t = { s with sched := t.sched, slots := t.slots }
  sched : t.sched =
    { s.sched with placements := s.sched.placements.filter fun r => !hs.contains r.handle }
  slot : ∀ g, slotAt t g = if g ∈ hs then .idle else slotAt s g

theorem Withdraws.refl (s : State) : Withdraws [] s s where
  rest := rfl
  sched := by simp
  slot := fun g => by simp

theorem Withdraws.cons {h : Handle} {hs : List Handle} (first : Withdraws [h] s t) (others : Withdraws hs t u) :
    Withdraws (h :: hs) s u where
  rest := others.rest.trans (by rw [first.rest])
  sched := by
    rw [others.sched, first.sched]
    simp [List.filter_filter, Bool.and_comm]
  slot := fun g => by
    rw [others.slot, first.slot]
    by_cases later : g ∈ hs <;> simp [later]

/-- The RANGE request of a record withdrawn. -/
theorem withdraws_withdrawRequest {r : Request} (waits : r ∈ s.sched.placements) (range : r.isRange = true) :
    Withdraws [r.handle] s (withdrawRequest r.handle s) := by
  have found : (s.sched.placements.any fun q => q.handle == r.handle && q.isRange) = true :=
    List.any_eq_true.2 ⟨r, waits, by simp [range]⟩
  rw [withdrawRequest, if_pos found]
  refine ⟨rfl, ?_, fun g => ?_⟩
  · have same : (fun q : Request => !([r.handle].contains q.handle)) = fun q => q.handle != r.handle := by
      funext q
      simp [bne, beq_eq_decide]
    rw [same]
    rfl
  · by_cases same : g = r.handle
    · rw [same, slotAt_setSlot_self]
      simp
    · rw [slotAt_setSlot_ne _ _ same]
      simp [same]

/-- Waiting RANGE requests withdrawn one after the other. -/
theorem withdraws_foldl (requests : List Request) : ∀ s : State, (requests.map Request.handle).Nodup →
    (∀ r ∈ requests, r ∈ s.sched.placements ∧ r.isRange = true) →
    Withdraws (requests.map Request.handle) s (requests.foldl (fun s r => withdrawRequest r.handle s) s) := by
  induction requests with
  | nil => exact fun s _ _ => .refl s
  | cons r requests ih =>
    intro s nodup wait
    obtain ⟨fresh, nodup⟩ := List.nodup_cons.1 nodup
    obtain ⟨waits, range⟩ := wait r List.mem_cons_self
    have first := withdraws_withdrawRequest waits range
    refine first.cons (ih _ nodup fun q mem => ?_)
    obtain ⟨waits, range⟩ := wait q (List.mem_cons_of_mem r mem)
    refine ⟨?_, range⟩
    have apart : q.handle ≠ r.handle := fun e => fresh (e ▸ List.mem_map_of_mem mem)
    rw [first.sched]
    exact List.mem_filter.2 ⟨waits, by simpa using apart⟩

/-- The handles whose RANGE requests wait. -/
theorem mem_rangeHandles {placements : List Request} {h : Handle} :
    h ∈ (placements.filter Request.isRange).map Request.handle ↔
      placements.any (fun r => r.handle == h && r.isRange) = true := by
  simp only [List.mem_map, List.mem_filter, List.any_eq_true, Bool.and_eq_true, beq_iff_eq]
  constructor
  · rintro ⟨r, ⟨waits, range⟩, same⟩
    exact ⟨r, waits, same, range⟩
  · rintro ⟨r, waits, same, range⟩
    exact ⟨r, ⟨waits, range⟩, same⟩

theorem withdraws_rangeRequests (alone : (s.sched.placements.map Request.handle).Nodup) :
    Withdraws ((s.sched.placements.filter Request.isRange).map Request.handle) s (withdrawRangeRequests s) :=
  withdraws_foldl _ s (alone.sublist (List.filter_sublist.map _)) fun _ mem => List.mem_filter.1 mem

/-- With one request per record, those left are the VERIFY requests. -/
theorem filter_rangeHandles {placements : List Request} (alone : (placements.map Request.handle).Nodup) :
    (placements.filter fun r => !((placements.filter Request.isRange).map Request.handle).contains r.handle) =
      placements.filter fun r => !r.isRange := by
  refine List.filter_congr fun r waits => congrArg _ ?_
  rw [Bool.eq_iff_iff, List.contains_iff_mem]
  refine ⟨fun mem => ?_, fun range => List.mem_map_of_mem (List.mem_filter.2 ⟨waits, range⟩)⟩
  obtain ⟨q, kept, same⟩ := List.mem_map.1 mem
  obtain ⟨mem, range⟩ := List.mem_filter.1 kept
  rwa [← List.inj_on_of_nodup_map alone mem waits same]

/-! ### The placements asked for again (R76) -/

/-- The slot of a handle whose placement is asked for. -/
def askedSlot (s : State) (h : Handle) : Slot :=
  match recordAt s h with
  | .ranging x _ => .asked x
  | _ => slotAt s h

/-- The placements of these handles asked for. -/
structure AsksFor (hs : List Handle) (s t : State) : Prop where
  table : t.table = s.table
  host : t.host = s.host
  link : t.link = s.link
  stack : t.sched.stack = s.sched.stack
  slot : ∀ g, slotAt t g = if g ∈ hs then askedSlot s g else slotAt s g

theorem AsksFor.refl (s : State) : AsksFor [] s s :=
  ⟨rfl, rfl, rfl, rfl, fun g => by simp⟩

theorem AsksFor.askedSlot {hs : List Handle} (asks : AsksFor hs s t) (g : Handle) : askedSlot t g = askedSlot s g := by
  have record : recordAt t g = recordAt s g := by rw [recordAt, asks.table]; rfl
  unfold Machine.askedSlot
  rw [record, asks.slot]
  cases found : recordAt s g with
  | ranging x r => rfl
  | _ => simp [Machine.askedSlot, found]

theorem AsksFor.trans {hs ks : List Handle} (a : AsksFor hs s t) (b : AsksFor ks t u) : AsksFor (hs ++ ks) s u where
  table := b.table.trans a.table
  host := b.host.trans a.host
  link := b.link.trans a.link
  stack := b.stack.trans a.stack
  slot := fun g => by
    rw [b.slot, a.askedSlot, a.slot]
    by_cases later : g ∈ ks <;> simp [later]

/-- What a request of one handle leaves, its slot written before. -/
theorem asksFor_askRangeBy {make : Request → State → State} {h : Handle}
    (each : ∀ e x, ∃ spans calendar placements builder handed, make ⟨.range e, h, x⟩ (setSlot h (.asked x) s) =
      { setSlot h (.asked x) s with
        sched := { s.sched with spans := spans, calendar := calendar, placements := placements }
        builder := builder
        handed := handed }) : AsksFor [h] s (askRangeBy make h s) := by
  unfold askRangeBy
  split
  case h_1 x r record =>
    obtain ⟨spans, calendar, placements, builder, handed, same⟩ := each (expectedLoop s.host.config r) x
    rw [same]
    refine ⟨rfl, rfl, rfl, rfl, fun g => ?_⟩
    show slotAt (setSlot h (.asked x) s) g = _
    by_cases ours : g = h
    · rw [ours, slotAt_setSlot_self]
      simp [askedSlot, record]
    · rw [slotAt_setSlot_ne _ _ ours]
      simp [ours]
  all_goals
    refine ⟨rfl, rfl, rfl, rfl, fun g => ?_⟩
    by_cases ours : g = h
    · rw [ours]
      simp [askedSlot, *]
    · simp [ours]

theorem asksFor_askRange (done : s.time.owesScheduler = false) (h : Handle) : AsksFor [h] s (askRange h s) :=
  asksFor_askRangeBy fun e x => by
    rw [request_of_not_owed (by simpa using done)]
    exact meetRange_eq e h x _

theorem asksFor_queueRange (h : Handle) (s : State) : AsksFor [h] s (queueRange h s) :=
  asksFor_askRangeBy fun e x => by
    rcases enqueue_cases ⟨.range e, h, x⟩ (setSlot h (.asked x) s) with same | same <;> rw [same]
    all_goals exact ⟨_, _, _, _, _, rfl⟩

theorem asksFor_queueRanges (hs : List Handle) : ∀ s : State, AsksFor hs s (hs.foldl (fun s h => queueRange h s) s) := by
  induction hs with
  | nil => exact .refl
  | cons h hs ih => exact fun s => (asksFor_queueRange h s).trans (ih _)

theorem asksFor_askWaiting (done : s.time.owesScheduler = false) :
    AsksFor ((List.finRange 128).filter (awaitsAttempt s)) s (askWaiting s) := by
  unfold askWaiting
  split
  case h_1 none =>
    rw [none]
    exact .refl s
  case h_2 first others waiting =>
    rw [waiting]
    exact (asksFor_askRange done first).trans (asksFor_queueRanges others _)

/-- A record that waits for its next attempt is RANGING. -/
theorem slot_of_awaits (s : State) (h : Handle) :
    (if awaitsAttempt s h = true then askedSlot s h else slotAt s h) =
      match recordAt s h with
      | .ranging x r =>
        if r.stage = .attempting ∧ r.attempts < 4 ∧ slotAt s h = .idle then .asked x else slotAt s h
      | _ => slotAt s h := by
  unfold awaitsAttempt askedSlot
  cases recordAt s h <;> simp [and_assoc]

/-! ### The queue behind the first request (R76) -/

/-- The RANGE request of a record. -/
def rangeRequest (s : State) (h : Handle) : Option Request :=
  match recordAt s h with
  | .ranging y f => some ⟨.range (expectedLoop s.host.config f), h, y⟩
  | _ => none

theorem rangeRequest_congr (table : t.table = s.table) (host : t.host = s.host) : rangeRequest t = rangeRequest s := by
  funext h
  have record : recordAt t h = recordAt s h := by rw [recordAt, table]; rfl
  rw [rangeRequest, record, host]
  rfl

theorem handle_of_rangeRequest {h : Handle} {q : Request} (made : rangeRequest s h = some q) : q.handle = h := by
  unfold rangeRequest at made
  split at made
  · rw [← Option.some.inj made]
  · exact nomatch made

/-- A request queued of a handle that has none waiting. -/
theorem sched_queueRange {h : Handle} (fresh : ∀ q ∈ s.sched.placements, q.handle ≠ h) :
    (queueRange h s).sched =
      { s.sched with placements := s.sched.placements ++ (rangeRequest s h).toList } := by
  unfold queueRange askRangeBy rangeRequest
  cases recordAt s h with
  | ranging x r =>
    have none : (s.sched.placements.any fun q => q.handle == h) = false := by simpa using fresh
    simp [enqueue, setSlot, none]
  | _ => simp

theorem sched_queueRanges (hs : List Handle) : ∀ s : State, hs.Nodup → (∀ q ∈ s.sched.placements, q.handle ∉ hs) →
    (hs.foldl (fun s h => queueRange h s) s).sched =
      { s.sched with placements := s.sched.placements ++ hs.filterMap (rangeRequest s) } := by
  induction hs with
  | nil => exact fun s _ _ => by simp
  | cons h hs ih =>
    intro s nodup fresh
    obtain ⟨alone, nodup⟩ := List.nodup_cons.1 nodup
    have first := sched_queueRange fun q mem e => fresh q mem (e ▸ List.mem_cons_self)
    have asks := asksFor_queueRange h s
    rw [List.foldl_cons, ih _ nodup, first, rangeRequest_congr asks.table asks.host]
    · cases made : rangeRequest s h <;> simp [made]
    · intro q mem
      rw [first] at mem
      rcases List.mem_append.1 mem with old | new
      · exact fun later => fresh q old (List.mem_cons_of_mem h later)
      · rw [handle_of_rangeRequest (Option.mem_toList.1 new)]
        exact alone

theorem mem_placements_askRange {h : Handle} {q : Request} (done : s.time.owesScheduler = false)
    (mem : q ∈ (askRange h s).sched.placements) : q ∈ s.sched.placements ∨ q.handle = h := by
  unfold askRange askRangeBy at mem
  split at mem
  case h_1 x r _ =>
    rw [request_of_not_owed (by simpa using done)] at mem
    rcases meetRequest_cases ⟨.range (expectedLoop s.host.config r), h, x⟩ (setSlot h (.asked x) s) with
      same | same | ⟨g, -, found, same⟩ <;> rw [same] at mem
    · exact .inl mem
    · exact (List.mem_append.1 mem).imp_right fun new => congrArg Request.handle (List.mem_singleton.1 new)
    · obtain ⟨r, o, found⟩ := searchPlacement_spec found
      have kind : g.kind = .range := by rw [(grantAt_spec found).1]; rfl
      simp only [place, handPlacement, kind] at mem
      exact .inl mem
  all_goals exact .inl mem

/-- The first request is met, and the others join the queue behind it. -/
theorem sched_askWaiting {first : Handle} {others : List Handle} (done : s.time.owesScheduler = false)
    (waiting : (List.finRange 128).filter (awaitsAttempt s) = first :: others)
    (fresh : ∀ q ∈ s.sched.placements, q.handle ∉ first :: others) : (askWaiting s).sched =
      { (askRange first s).sched with
        placements := (askRange first s).sched.placements ++ others.filterMap (rangeRequest s) } := by
  obtain ⟨alone, nodup⟩ := List.nodup_cons.1 (waiting ▸ (List.nodup_finRange 128).filter _)
  have asks := asksFor_askRange done first
  rw [askWaiting, waiting, ← rangeRequest_congr asks.table asks.host]
  refine sched_queueRanges others _ nodup fun q mem => ?_
  rcases mem_placements_askRange done mem with old | ours
  · exact fun later => fresh q old (List.mem_cons_of_mem first later)
  · exact ours ▸ alone

/-! ### The rows (R73 to R76, R60) -/

section
variable (held : s.host.held = false) (run : s.host.part = .running) (done : s.time.owesScheduler = false)
include held run done

theorem exec_suspend (b : Byte) : exec (.suspend b) s = .next (suspend b s) :=
  congrArg _ (command_of_taken held (owedScheduler_of_not_owed done) (by simp [inRunning, run]) _)

theorem exec_resume : exec .resume s = .next (resume s) :=
  congrArg _ (command_of_taken held (owedScheduler_of_not_owed done) (by simp [inRunning, run]) _)

theorem exec_discoverNow : exec .discoverNow s = .next (discoverNow s) :=
  congrArg _ (command_of_taken held (owedScheduler_of_not_owed done) (by simp [inRunning, run]) _)

end

theorem suspend_of_parameter {b : Byte} (other : 2 ≤ b.toNat) : suspend b s = respond (.badParameter 1) s := by
  have none : holdByte b = none := by
    unfold holdByte
    split
    · omega
    · omega
    · rfl
  simp [suspend, none]

theorem suspend_of_held {b : Byte} {k : Hold} (kind : holdByte b = some k) (held : k ∈ s.sched.stack) :
    suspend b s = respond .busy s := by
  simp [suspend, kind, isHeld, held]

theorem suspend_of_absent {b : Byte} {k : Hold} (kind : holdByte b = some k) (absent : k ∉ s.sched.stack) :
    suspend b s = respondOk (pushHold k s) := by
  simp [suspend, kind, isHeld, absent]

theorem resume_of_top {below : List Hold} {k : Hold} (stack : s.sched.stack = below ++ [k]) :
    resume s = respondOk (endHold k { s with sched := { s.sched with stack := below } }) := by
  simp [resume, stack]

end Sys2Proof.Machine

namespace Sys2Proof.Proofs
open Sys2Proof.Machine

/-- Settles O52: SUSPEND withdraws the waiting RANGE requests one by one (`withdraws_rangeRequests`), RESUME asks for the placements of
the records that wait (`asksFor_askWaiting`), all but the first by the queue (`sched_queueRanges`). -/
theorem suspendResumeDiscoverNow : Obligations.SuspendResumeDiscoverNow := by
  intro s held run done
  refine ⟨fun b other => ?_, fun b k kind waits => ?_, fun absent => ?_, fun absent alone => ?_, fun empty => ?_,
    fun below stack => ?_, fun below stack => ?_, fun below first others x r stack waiting fresh record => ?_,
    fun window => ?_, fun window due => ?_, fun window due => ?_⟩
  · rw [exec_suspend held run done, suspend_of_parameter other]
  · rw [exec_suspend held run done]
    rcases kind with ⟨rfl, rfl⟩ | ⟨rfl, rfl⟩ <;> rw [suspend_of_held rfl waits]
  · rw [exec_suspend held run done, suspend_of_absent rfl absent]
    rfl
  · rw [exec_suspend held run done, suspend_of_absent rfl absent]
    obtain ⟨rest, sched, slot⟩ :=
      withdraws_rangeRequests (s := { s with sched := { s.sched with stack := s.sched.stack ++ [.ranging] } }) alone
    refine ⟨_, rfl, rest, sched.trans ?_, fun h => (slot h).trans ?_⟩
    · rw [filter_rangeHandles alone]
    · simp only [mem_rangeHandles]
      rfl
  · rw [exec_resume held run done]
    simp [resume, empty]
  · rw [exec_resume held run done, resume_of_top stack]
    rfl
  · rw [exec_resume held run done, resume_of_top stack]
    have asks := asksFor_askWaiting (s := { s with sched := { s.sched with stack := below } }) done
    refine ⟨_, rfl, asks.stack, asks.table, asks.host, asks.link, fun h => (asks.slot h).trans ?_⟩
    simp only [List.mem_filter, List.mem_finRange, true_and]
    exact slot_of_awaits _ h
  · rw [exec_resume held run done, resume_of_top stack]
    have first_eq : askRange first { s with sched := { s.sched with stack := below } } =
        request ⟨.range (expectedLoop s.host.config r), first, x⟩
          (setSlot first (.asked x) { s with sched := { s.sched with stack := below } }) := by
      have same : recordAt { s with sched := { s.sched with stack := below } } first = .ranging x r := record
      simp only [askRange, askRangeBy, same]
    refine ⟨_, rfl, (sched_askWaiting (s := { s with sched := { s.sched with stack := below } }) done waiting fresh).trans ?_⟩
    rw [first_eq]
    rfl
  · rw [exec_discoverNow held run done]
    simp [discoverNow, window]
  · rw [exec_discoverNow held run done]
    simp [discoverNow, window, due]
    rfl
  · rw [exec_discoverNow held run done]
    simp [discoverNow, window, due]
    rfl

end Sys2Proof.Proofs
end

section
/-! The parts of a strobe, and the leftovers of the one before as the rows that serve them (R7, R77, R172). -/

namespace Sys2Proof.Machine

variable {s : State}

/-! ### The rows of one record -/

section
variable {h : Handle}

theorem serveSettle_of_state (other : (recordAt s h).state ≠ .pending) : serveSettle h s = s :=
  serveSettle_of_not_due fun _ _ _ found => absurd (congrArg Record.state found) other

theorem serveOffer_of_state (other : (recordAt s h).state ≠ .offering) : serveOffer h s = s :=
  serveOffer_of_not_due fun _ _ _ _ found => absurd (congrArg Record.state found) other

theorem serveRetention_of_state (other : (recordAt s h).state ≠ .lost) : serveRetention h s = s :=
  serveRetention_of_not_due fun _ _ _ _ found => absurd (congrArg Record.state found) other

theorem serveHandoverSource_of_state (other : (recordAt s h).state ≠ .leaving) : serveHandoverSource h s = s :=
  serveHandoverSource_of_not_due fun _ _ _ _ _ found => absurd (congrArg Record.state found) other

theorem serveHandoverTarget_of_state (other : (recordAt s h).state ≠ .arriving) : serveHandoverTarget h s = s :=
  serveHandoverTarget_of_not_due fun _ _ _ _ _ found => absurd (congrArg Record.state found) other

theorem serveVerifyRetry_of_state (other : (recordAt s h).state ≠ .arriving) : serveVerifyRetry h s = s :=
  serveVerifyRetry_of_not_due fun _ _ _ _ _ found => absurd (congrArg Record.state found) other

/-- A record whose deadline a row has served is in no state that a row after it serves. -/
theorem state_serveSettle (pending : (recordAt s h).state = .pending) :
    (recordAt (serveSettle h s) h).state ∉ [RecordState.offering, .lost, .leaving, .arriving] := by
  have failed (t : State) (x : Identity) (heard : HeardAt) (record : recordAt t h = .ranging x (settledFields heard)) :
      recordAt (failRanging h .notQueued t) h = .free := by
    rw [failRanging_of_fresh_awaitAssign record rfl rfl]
    exact recordAt_setRecord_self h .free _
  unfold serveSettle
  split
  case h_1 x heard d found =>
    split
    · unfold queueAssign
      dsimp only [id]
      split
      · simp [Record.state]
      · rw [failed _ x heard (by simp)]
        simp [Record.state]
    · simp [pending]
  all_goals simp [pending]

theorem state_serveOffer (offering : (recordAt s h).state = .offering) :
    (recordAt (serveOffer h s) h).state ∉ [RecordState.lost, .leaving, .arriving] := by
  unfold serveOffer
  split
  · split
    · simp [endOffer, Record.state]
    · simp [offering]
  all_goals simp [offering]

theorem state_serveRetention (lost : (recordAt s h).state = .lost) :
    (recordAt (serveRetention h s) h).state ∉ [RecordState.leaving, .arriving] := by
  have freed (t : State) : recordAt (freeRecord h t) h = .free := recordAt_setRecord_self h .free _
  unfold serveRetention
  split
  · split
    · simp [dropAndRelease, freed, Record.state]
    · simp [lost]
  all_goals simp [lost]

theorem state_serveHandoverSource (leaving : (recordAt s h).state = .leaving) :
    (recordAt (serveHandoverSource h s) h).state ≠ .arriving := by
  unfold serveHandoverSource
  split
  · split
    · simp [lapseSource, makeLost, Record.state]
    · simp [leaving]
  all_goals simp [leaving]

/-- The rows of an ARRIVING record, and the rows before them, one by one. -/
theorem arrivingRows_of_state (other : (recordAt s h).state ≠ .arriving) :
    serveVerifyRetry h (serveHandoverTarget h s) = s := by
  rw [serveHandoverTarget_of_state other, serveVerifyRetry_of_state other]

theorem leavingRows_of_state (other : (recordAt s h).state ∉ [RecordState.leaving, .arriving]) :
    serveVerifyRetry h (serveHandoverTarget h (serveHandoverSource h s)) = s := by
  obtain ⟨source, target⟩ : (recordAt s h).state ≠ .leaving ∧ (recordAt s h).state ≠ .arriving := by simpa using other
  rw [serveHandoverSource_of_state source, arrivingRows_of_state target]

theorem lostRows_of_state (other : (recordAt s h).state ∉ [RecordState.lost, .leaving, .arriving]) :
    serveVerifyRetry h (serveHandoverTarget h (serveHandoverSource h (serveRetention h s))) = s := by
  obtain ⟨lost, rest⟩ := not_or.1 (mt List.mem_cons.2 other)
  rw [serveRetention_of_state lost, leavingRows_of_state rest]

theorem offeringRows_of_state (other : (recordAt s h).state ∉ [RecordState.offering, .lost, .leaving, .arriving]) :
    serveVerifyRetry h (serveHandoverTarget h (serveHandoverSource h (serveRetention h (serveOffer h s)))) = s := by
  obtain ⟨offering, rest⟩ := not_or.1 (mt List.mem_cons.2 other)
  rw [serveOffer_of_state offering, lostRows_of_state rest]

/-- The rows of a record in their order: that of its own deadline serves it, and the others find none. -/
theorem serveRows_eq (s : State) (h : Handle) :
    serveVerifyRetry h (serveHandoverTarget h (serveHandoverSource h (serveRetention h (serveOffer h (serveSettle h s))))) =
      serveRecord s h := by
  unfold serveRecord
  split
  case h_1 found => exact offeringRows_of_state (state_serveSettle (congrArg Record.state found))
  all_goals
    rename_i found
    have state := congrArg Record.state found
    rw [serveSettle_of_state (by simp [found, Record.state])]
  case h_2 => exact lostRows_of_state (state_serveOffer state)
  all_goals rw [serveOffer_of_state (by simp [found, Record.state])]
  case h_5 => exact leavingRows_of_state (state_serveRetention state)
  all_goals rw [serveRetention_of_state (by simp [found, Record.state])]
  case h_3 => exact arrivingRows_of_state (state_serveHandoverSource state)
  all_goals rw [serveHandoverSource_of_state (by simp [found, Record.state])]
  all_goals exact arrivingRows_of_state (by simp [found, Record.state])

end

/-! ### Rows run one after the other -/

theorem runAll_append {xs ys : List Instr} {t : State} (first : runAll xs s = .next t) :
    runAll (xs ++ ys) s = runAll ys t := by
  induction xs generalizing s with
  | nil =>
    obtain rfl := Host.Outcome.next.inj first
    rfl
  | cons c xs ih =>
    rw [runAll] at first
    rw [List.cons_append, runAll]
    cases ran : exec c s with
    | next u => exact ih (by simpa [ran] using first)
    | fault r => simp [ran] at first
    | refused r => simp [ran] at first

/-- In RUNNING with no scheduler work owed: what the rows of the leftovers find. -/
def Serving (s : State) : Prop :=
  running s = true ∧ s.time.owesScheduler = false

theorem Serving.of_same {t : State} (serving : Serving s) (standing : standing t = standing s)
    (time : timedClassifier t = timedClassifier s) : Serving t :=
  ⟨(running_of_standing_eq standing).trans serving.1, time_of_timedClassifier time ▸ serving.2⟩

/-- The rows of a list's elements do what the elements' actions do. -/
theorem runAll_flatMap {α : Type} {rows : α → List Instr} {f : State → α → State}
    (each : ∀ t a, Serving t → runAll (rows a) t = .next (f t a) ∧ Serving (f t a)) (xs : List α) :
    ∀ s : State, Serving s → runAll (xs.flatMap rows) s = .next (xs.foldl f s) ∧ Serving (xs.foldl f s) := by
  induction xs with
  | nil => exact fun s serving => ⟨rfl, serving⟩
  | cons x xs ih =>
    intro s serving
    obtain ⟨ran, kept⟩ := each s x serving
    rw [List.flatMap_cons, runAll_append ran]
    exact ih _ kept

theorem runAll_map {α : Type} {row : α → Instr} {f : State → α → State}
    (each : ∀ t a, Serving t → exec (row a) t = .next (f t a) ∧ Serving (f t a)) (xs : List α) (serving : Serving s) :
    runAll (xs.map row) s = .next (xs.foldl f s) ∧ Serving (xs.foldl f s) := by
  have single : xs.map row = xs.flatMap fun a => [row a] := List.map_eq_flatMap
  rw [single]
  refine runAll_flatMap (fun t a serving => ?_) xs s serving
  obtain ⟨ran, kept⟩ := each t a serving
  exact ⟨by simp [runAll, ran], kept⟩

/-! ### The leftovers, row by row -/

theorem serving_serveContestedExpiry (x : Identity) (serving : Serving s) :
    exec (.contestedExpiry x) s = .next (serveContestedExpiry x s) ∧ Serving (serveContestedExpiry x s) :=
  ⟨exec_contestedExpiry serving.1,
    serving.of_same (standing_serveContestedExpiry x s) (timedClassifier_serveContestedExpiry x s)⟩

theorem serving_serveRecord (h : Handle) (serving : Serving s) :
    runAll [.settleDeadline h, .offerDeadline h, .retentionDeadline h, .handoverDeadlineSource h, .handoverDeadlineTarget h,
      .verifyRetryDeadline h] s = .next (serveRecord s h) ∧ Serving (serveRecord s h) := by
  have run := serving.1
  refine ⟨?_, serving.of_same (standing_serveRecord s h) (timedClassifier_serveRecord serving.2 h)⟩
  rw [← serveRows_eq]
  simp only [runAll, exec_settleDeadline run]
  have settle : running (serveSettle h s) = true := (running_of_standing_eq (standing_serveSettle h s)).trans run
  rw [exec_offerDeadline settle]
  have offer := (running_of_standing_eq (standing_serveOffer h _)).trans settle
  simp only [exec_retentionDeadline offer]
  have retention := (running_of_standing_eq (standing_serveRetention h _)).trans offer
  simp only [exec_handoverDeadlineSource retention]
  have source := (running_of_standing_eq (standing_serveHandoverSource h _)).trans retention
  simp only [exec_handoverDeadlineTarget source]
  have target := (running_of_standing_eq (standing_serveHandoverTarget h _)).trans source
  simp only [exec_verifyRetryDeadline target]

theorem serving_serveLane (l : LaneNo) (serving : Serving s) :
    exec (.laneAbsenceDeadline l) s = .next (serveLane s l) ∧ Serving (serveLane s l) := by
  obtain ⟨run, done⟩ := serving
  have kept := (steady_serveLane s l).footing
  have held : (serveLane s l).host.held = s.host.held := congrArg Footing.held kept
  have part : (serveLane s l).host.part = s.host.part := congrArg Footing.part kept
  refine ⟨?_, ?_, time_of_timedClassifier (timedClassifier_serveLane s l) ▸ done⟩
  · show Host.Outcome.next (if running s && laneConfigured s.host l then serveAbsence l s else s) = _
    rw [run, Bool.true_and]
    rfl
  · rw [running_iff, held, part]
    exact (running_iff s).1 run

theorem serving_serveEntry (e : DirectedGrant) (serving : Serving s) :
    exec (.issuedGrantExpiry e.kind e.handle e.cycle) s = .next (serveEntry s e) ∧ Serving (serveEntry s e) :=
  ⟨congrArg _ (if_pos serving.1),
    (running_of_standing_eq (standing_serveExpiry e.kind e.handle e.cycle s)).trans serving.1,
    (congrArg (fun f => f.1.owesScheduler) (timedClassifier_serveEntry s e)).trans serving.2⟩

/-- The rows of the leftovers leave what the strobe's own serving leaves. -/
theorem runAll_leftoverRows (serving : Serving s) : runAll (leftoverRows s) s = .next (serveLeftovers s) := by
  have issued := congrArg Classifier.issued (classifier_of_timedClassifier (timedClassifier_serveStanding serving.2))
  rw [serveLeftovers_eq, issued]
  unfold leftoverRows serveStanding
  obtain ⟨contested, found⟩ := runAll_map (row := fun c : Contested => .contestedExpiry c.identity)
    (f := fun s c => serveContestedExpiry c.identity s) (fun t c => serving_serveContestedExpiry c.identity) s.table.contested serving
  generalize s.table.contested.foldl (fun s c => serveContestedExpiry c.identity s) s = t at contested found ⊢
  obtain ⟨records, served⟩ := runAll_flatMap (fun t h => serving_serveRecord h) (List.finRange 128) t found
  generalize (List.finRange 128).foldl serveRecord t = u at records served ⊢
  obtain ⟨lanes, passed⟩ := runAll_map (fun t l => serving_serveLane l) (List.finRange 3) served
  generalize (List.finRange 3).foldl serveLane u = v at lanes passed ⊢
  rw [List.append_assoc, List.append_assoc, runAll_append contested, runAll_append records, runAll_append lanes]
  exact (runAll_map (fun t e => serving_serveEntry e) s.classifier.issued passed).1

/-! ### The parts of a strobe -/

/-- A part held in reset takes no part of a strobe. -/
theorem exec_cycleStrobe_of_held (held : s.host.held = true) (epoch : Bool) (part : StrobePart) :
    exec (.cycleStrobe epoch part) s = .next s :=
  congrArg _ (if_pos held)

theorem held_strobeCounts (epoch : Bool) (s : State) : (strobeCounts epoch s).host.held = s.host.held := by
  unfold strobeCounts
  split
  · rfl
  · split <;> rfl
  · rfl

/-- The whole strobe is its counts, the scheduler's work and the build. -/
theorem exec_strobe_in_parts {epoch : Bool} {t u v : State} (counts : exec (.cycleStrobe epoch .counts) s = .next t)
    (scheduler : exec (.cycleStrobe epoch .scheduler) t = .next u) (build : exec (.cycleStrobe epoch .build) u = .next v) :
    exec (.cycleStrobe epoch .whole) s = .next v := by
  cases held : s.host.held with
  | true =>
    rw [exec_cycleStrobe_of_held held] at counts ⊢
    obtain rfl := Host.Outcome.next.inj counts
    rw [exec_cycleStrobe_of_held held] at scheduler
    obtain rfl := Host.Outcome.next.inj scheduler
    rwa [exec_cycleStrobe_of_held held] at build
  | false =>
    rw [exec_cycleStrobe held] at counts ⊢
    obtain rfl := Host.Outcome.next.inj counts
    have counted : (takeStrobe epoch .counts s).host.held = false :=
      (held_strobeCounts epoch _).trans ((congrArg Footing.held (steady_finishStrobe s).footing).trans held)
    rw [exec_cycleStrobe counted] at scheduler
    obtain rfl := Host.Outcome.next.inj scheduler
    have worked : (owedScheduler (takeStrobe epoch .counts s)).host.held = false :=
      (congrArg (fun f => f.1.held) (standing_owedScheduler _)).trans counted
    rw [← build]
    exact (exec_cycleStrobe worked epoch .build).symm

/-! ### What is left of a strobe -/

theorem finishStrobe_of_done (run : running s = true) (scheduler : s.time.owesScheduler = false)
    (build : s.time.owesBuild = false) : finishStrobe s = serveLeftovers s := by
  have built : owedBuild s = s := if_neg (by simp [build])
  rw [finishStrobe, owedScheduler_of_not_owed scheduler, built]
  rw [if_pos ((running_iff s).1 run).2]

theorem owedScheduler_schedulerWork (run : running s = true) (owed : s.time.owesScheduler = true) :
    owedScheduler (schedulerWork s) = owedScheduler s := by
  have done : (schedulerWork s).time.owesScheduler = false := congrArg Timebase.owesScheduler (schedulerWork_frame s).time
  rw [owedScheduler_of_not_owed done, owedScheduler_of_owed run owed]

theorem finishStrobe_schedulerWork (run : running s = true) (owed : s.time.owesScheduler = true) :
    finishStrobe (schedulerWork s) = finishStrobe s := by
  rw [finishStrobe, owedScheduler_schedulerWork run owed]
  rfl

theorem finishStrobe_buildSlate (scheduler : s.time.owesScheduler = false) (build : s.time.owesBuild = true) :
    finishStrobe (buildSlate s) = finishStrobe s := by
  have built : owedBuild s = buildSlate s := if_pos build
  have time : (buildSlate s).time = { s.time with owesBuild := false } := built ▸ time_owedBuild s
  have settled : (buildSlate s).time.owesScheduler = false := by rw [time]; exact scheduler
  have done : owedBuild (buildSlate s) = buildSlate s := if_neg (by rw [time]; exact Bool.false_ne_true)
  rw [finishStrobe, finishStrobe, owedScheduler_of_not_owed scheduler, owedScheduler_of_not_owed settled, built, done]

/-- Outside RUNNING only the slate's build is left of a strobe (R176). -/
theorem finishStrobe_of_not_running (idle : s.host.part ≠ .running) : finishStrobe s = owedBuild s := by
  have stopped : running s = false := by simp [running, idle]
  have part : (owedBuild s).host.part = s.host.part := congrArg (fun f => f.1.part) (standing_owedBuild s)
  rw [finishStrobe, owedScheduler_of_not_running stopped]
  exact if_neg (part ▸ idle)

/-! ### What comes between strobes -/

theorem command_schedulerWork (run : running s = true) (owed : s.time.owesScheduler = true) (taken : PartState → Bool)
    (decide : State → State) : command taken decide s = command taken decide (schedulerWork s) := by
  have released := ((running_iff s).1 run).1
  have kept : (schedulerWork s).host.held = false :=
    (congrArg (fun f => f.1.held) (standing_schedulerWork s)).trans released
  rw [command_of_released released, command_of_released kept, owedScheduler_schedulerWork run owed]

theorem exec_schedulerWork {c : Instr} (run : running s = true) (owed : s.time.owesScheduler = true)
    (host : hostCommand c = true) : exec c s = exec c (schedulerWork s) := by
  have answered (taken : PartState → Bool) (decide : State → State) :
      (Host.Outcome.next (command taken decide s) : Host.Outcome State Fault Refusal) =
        .next (command taken decide (schedulerWork s)) :=
    congrArg _ (command_schedulerWork run owed taken decide)
  cases c with
  | readStatus | configure | start | restart | readEvent | readCounters | clearAttention | bar | unbar | readRecord | find
  | deregister | rerange | handover | suspend | resume | discoverNow | badFrame => exact answered _ _
  | _ => exact Bool.noConfusion host

end Sys2Proof.Machine

namespace Sys2Proof.Proofs
open Sys2Proof.Machine

/-- Settles O5: the parts by their own equations; the leftovers row by row, the rows of a record finding one deadline at most
(`serveRows_eq`). -/
theorem strobeParts : Obligations.StrobeParts := by
  refine ⟨⟨fun epoch s t u v => exec_strobe_in_parts, fun epoch s run => ?_, fun s => rfl,
    fun s run => ⟨fun scheduler build => ?_,
      fun owed => (finishStrobe_schedulerWork run owed).symm,
      fun scheduler build => (finishStrobe_buildSlate scheduler build).symm⟩, fun s => finishStrobe_of_not_running⟩,
    fun c s => exec_schedulerWork, fun q s run owed => ?_, fun p first length s run owed => ?_⟩
  · obtain ⟨released, part⟩ := (running_iff s).1 run
    refine ⟨?_, fun owed => ?_, fun done => ?_, fun owed => ?_, fun done => ?_, ?_, ?_, ?_⟩
    · have counted := strobeCounts_of_running ((steady_finishStrobe s).part.trans part) epoch
      exact (exec_cycleStrobe released epoch .counts).trans (congrArg _ counted)
    · exact (exec_cycleStrobe released epoch .scheduler).trans (congrArg _ (owedScheduler_of_owed run owed))
    · exact (exec_cycleStrobe released epoch .scheduler).trans (congrArg _ (owedScheduler_of_not_owed done))
    · exact (exec_cycleStrobe released epoch .build).trans (congrArg _ (if_pos owed))
    · exact (exec_cycleStrobe released epoch .build).trans (congrArg _ (if_neg (by simp [done])))
    all_goals exact congrArg _ (if_pos run)
  · rw [finishStrobe_of_done run scheduler build]
    exact runAll_leftoverRows ⟨run, scheduler⟩
  · rw [request, request, owedScheduler_schedulerWork run owed]
  · rw [takeQuiet, takeQuiet, owedScheduler_schedulerWork run owed]

end Sys2Proof.Proofs
end

section
/-! The announcement of a window (R61 to R63), and a strobe that announces none (R56, R61, R63, R74, R77). -/

namespace Sys2Proof.Machine

variable {s : State}

/-! ### The scheduler's work without a window in progress -/

theorem retryPlacements_of_nil (none : s.sched.placements = []) : retryPlacements s = s := by
  simp [retryPlacements, none]

/-- Without a window the work of a strobe serves the due deadline alone before the announcement. -/
theorem schedulerWork_of_no_window (window : s.sched.window = none) : schedulerWork s =
    retryPlacements (tryAnnounce (serveDiscoveryDue (removePassedSpans (schedulerDone s)))) := by
  have started : serveWindowStart (removePassedSpans (schedulerDone s)) = removePassedSpans (schedulerDone s) :=
    serveWindowStart_of_not_due fun w found => nomatch window.symm.trans found
  have closed : serveWindowClose (removePassedSpans (schedulerDone s)) = removePassedSpans (schedulerDone s) :=
    serveWindowClose_of_not_due fun w found => nomatch window.symm.trans found
  show retryPlacements (tryAnnounce (serveDiscoveryDue (serveWindowClose (serveWindowStart
    (removePassedSpans (schedulerDone s)))))) = _
  rw [started, closed]

theorem serveDiscoveryDue_of_no_deadline (none : s.sched.dueDeadline = none) : serveDiscoveryDue s = s :=
  serveDiscoveryDue_of_not_due fun _ found => nomatch none.symm.trans found

theorem schedulerWork_of_no_deadline (window : s.sched.window = none) (deadline : s.sched.dueDeadline = none) :
    schedulerWork s = retryPlacements (tryAnnounce (removePassedSpans (schedulerDone s))) := by
  rw [schedulerWork_of_no_window window,
    serveDiscoveryDue_of_no_deadline (s := removePassedSpans (schedulerDone s)) deadline]

/-- With no passed span listed either, the announcement and the placements are all there is to do. -/
theorem schedulerWork_of_unpassed (window : s.sched.window = none) (deadline : s.sched.dueDeadline = none)
    (clear : Unpassed s) : schedulerWork s = retryPlacements (tryAnnounce (schedulerDone s)) := by
  rw [schedulerWork_of_no_deadline window deadline, removePassedSpans_of_unpassed (s := schedulerDone s) clear]

/-- The scheduler's part of a strobe in RUNNING. -/
theorem exec_schedulerPart (run : running s = true) (owed : s.time.owesScheduler = true) (epoch : Bool) :
    exec (.cycleStrobe epoch .scheduler) s = .next (schedulerWork s) :=
  (exec_cycleStrobe ((running_iff s).1 run).1 epoch .scheduler).trans (congrArg _ (owedScheduler_of_owed run owed))

/-! ### The gate and the start -/

/-- The gate of R61. -/
theorem gateHolds_iff (run : running s = true) : gateHolds s = true ↔ Hold.discovery ∉ s.sched.stack ∧
    (∀ l : LaneNo, laneConfigured s.host l = true → s.link.lanes[l].state = .up ∨ s.link.lanes[l].state = .absent) ∧
    s.link.outbound.length < 120 := by
  simp only [gateHolds, run, isHeld, Bool.true_and, Bool.and_eq_true, Bool.not_eq_true', List.all_eq_true,
    List.mem_finRange, true_imp_iff, Bool.or_eq_true, beq_iff_eq, decide_eq_true_eq, and_assoc]
  refine and_congr (by simp) (and_congr (forall_congr' fun l => ?_) Iff.rfl)
  cases laneConfigured s.host l <;> simp

theorem tryAnnounce_of_closed (closed : gateHolds s = false) : tryAnnounce s = s := by
  simp [tryAnnounce, closed]

theorem tryAnnounce_of_not_due (due : s.sched.due = false) : tryAnnounce s = s := by
  simp [tryAnnounce, due]

/-- The span of a window that starts `o` cycles ahead. -/
theorem ownSpan_eq (c : Configuration) (now : TreeCycle) (o : Nat) :
    wholeCycles .ownDiscovery (now + BitVec.ofNat 16 o) (windowLength c) =
      ⟨.ownDiscovery, ⟨now + BitVec.ofNat 16 o, 0⟩,
        ⟨now + BitVec.ofNat 16 o + BitVec.ofNat 16 (windowLength c) - 1, 312499⟩⟩ :=
  wholeCycles_last _ _ (Nat.succ_le_succ (Nat.zero_le _))

theorem clearOfDirected_iff (s : State) (o : Nat) : clearOfDirected s o = true ↔
    ∀ x ∈ s.sched.spans, x.isDirected = true → x.overlaps
      ⟨.ownDiscovery, ⟨s.time.treeCycle + BitVec.ofNat 16 o, 0⟩,
        ⟨s.time.treeCycle + BitVec.ofNat 16 o + BitVec.ofNat 16 (windowLength s.host.config) - 1, 312499⟩⟩ = false := by
  simp only [clearOfDirected, ownSpan_eq, Bool.not_eq_true', List.any_eq_false, Bool.and_eq_true, not_and,
    Bool.not_eq_true]

/-- The first start at or after now + lead that is clear of directed spans (R63). -/
theorem startAhead_eq {o : Nat} (least : s.host.config.lead ≤ o) (most : o < s.host.config.lead + 40)
    (clear : clearOfDirected s o = true) (first : ∀ j, s.host.config.lead ≤ j → j < o → ¬ clearOfDirected s j = true) :
    startAhead s = some o :=
  List.find?_range'_eq_some.2 ⟨clear, by simp [least, most], fun j low high => by simpa using first j low high⟩

theorem tryAnnounce_of_start {o : Nat} (due : s.sched.due = true) (window : s.sched.window = none) (gate : gateHolds s = true)
    (start : startAhead s = some o) (most : o ≤ 16 + grantLead s.host.config) : tryAnnounce s = announceAt o s := by
  simp [tryAnnounce, due, window, gate, start, most]

/-- No start clear of directed spans gives a grant cycle up to now + 16 (R63). -/
theorem tryAnnounce_of_late
    (late : ∀ o, s.host.config.lead ≤ o → o ≤ 16 + grantLead s.host.config → clearOfDirected s o = false) :
    tryAnnounce s = s := by
  rcases tryAnnounce_cases s with same | ⟨o, -, start, least, most, -⟩
  · exact same
  · have clear := List.find?_some start
    rw [late o least most] at clear
    exact Bool.noConfusion clear

/-- An announcement with room for its QUIET (R63, R129). -/
theorem announceAt_of_room (o : Nat) (room : s.link.outbound.length < 128) : announceAt o s =
    bump .discoveryWindows
      { announced o s with
        link :=
          { s.link with
            outbound := s.link.outbound ++ [announcedQuiet o s] } } := by
  rw [announceAt_eq, queueNotice, if_pos room]
  rfl

/-- A window announced at a strobe, no request waiting. -/
theorem schedulerWork_of_start {o : Nat} (window : s.sched.window = none) (deadline : s.sched.dueDeadline = none)
    (unpassed : Unpassed s) (due : s.sched.due = true) (gate : gateHolds s = true) (start : startAhead s = some o)
    (most : o ≤ 16 + grantLead s.host.config) (none : s.sched.placements = []) :
    schedulerWork s = announceAt o (schedulerDone s) := by
  have announces : tryAnnounce (schedulerDone s) = announceAt o (schedulerDone s) :=
    tryAnnounce_of_start (s := schedulerDone s) due window gate start most
  rw [schedulerWork_of_unpassed window deadline unpassed, announces, announceAt_eq]
  exact retryPlacements_of_nil none

/-- Discovery due stays due when its deadline is served. -/
theorem serveDiscoveryDue_of_already (clear : Unpassed s) (due : s.sched.due = true) :
    ∃ deadline, serveDiscoveryDue s = { s with sched := { s.sched with due := true, dueDeadline := deadline } } := by
  rcases serveDiscoveryDue_cases s with ⟨d, -, -, same⟩ | ⟨-, same⟩ <;> rw [same]
  · rw [firstRemoval_of_unpassed clear]
    exact ⟨_, rfl⟩
  · exact ⟨s.sched.dueDeadline, by rw [← due]⟩

/-- With the gate closed nothing is announced, and discovery stays due (R61, R74). -/
theorem schedulerWork_of_closed (window : s.sched.window = none) (due : s.sched.due = true)
    (none : s.sched.placements = []) (closed : gateHolds s = false) : ∃ deadline, schedulerWork s =
      { removePassedSpans (schedulerDone s) with
        sched := { (removePassedSpans (schedulerDone s)).sched with due := true, dueDeadline := deadline } } := by
  obtain ⟨deadline, same⟩ :=
    serveDiscoveryDue_of_already (s := removePassedSpans (schedulerDone s)) (unpassed_removePassedSpans _) due
  have shut : tryAnnounce (serveDiscoveryDue (removePassedSpans (schedulerDone s))) =
      serveDiscoveryDue (removePassedSpans (schedulerDone s)) :=
    tryAnnounce_of_closed (by rw [same]; exact closed)
  refine ⟨deadline, ?_⟩
  rw [schedulerWork_of_no_window window, shut, same]
  exact retryPlacements_of_nil none

/-- With every start blocked that gives a grant cycle up to now + 16, the work is done without an announcement (R63). -/
theorem schedulerWork_of_late (window : s.sched.window = none) (deadline : s.sched.dueDeadline = none)
    (unpassed : Unpassed s) (none : s.sched.placements = [])
    (late : ∀ o, s.host.config.lead ≤ o → o ≤ 16 + grantLead s.host.config → clearOfDirected s o = false) :
    schedulerWork s = schedulerDone s := by
  rw [schedulerWork_of_unpassed window deadline unpassed, tryAnnounce_of_late (s := schedulerDone s) late]
  exact retryPlacements_of_nil none

/-- With nothing due the work removes the passed spans alone (R56, R77). -/
theorem schedulerWork_of_not_due (window : s.sched.window = none) (deadline : s.sched.dueDeadline = none)
    (due : s.sched.due = false) (none : s.sched.placements = []) :
    schedulerWork s = removePassedSpans (schedulerDone s) := by
  rw [schedulerWork_of_no_deadline window deadline, tryAnnounce_of_not_due (s := removePassedSpans (schedulerDone s)) due]
  exact retryPlacements_of_nil none

end Sys2Proof.Machine

namespace Sys2Proof.Proofs
open Sys2Proof.Machine

/-- Settles O9: the start is found by the search (`startAhead_eq`), and the announcement writes the window down (`announceAt_of_room`);
with the gate closed, or every start blocked, the strobe's work leaves no window. -/
theorem windowAnnouncement : Obligations.WindowAnnouncement := by
  refine ⟨fun epoch o s run config owed window due deadline none unpassed free lanes room => ?_,
    fun epoch s run owed window due none closed => ?_,
    fun epoch s run owed window due deadline none free lanes room unpassed => ?_,
    fun epoch s run owed window due deadline none => ?_⟩
  · intro c m k w span clear least isClear first most start own g
    have isFirst : startAhead s = some o :=
      startAhead_eq least (by have := (grantLead_le config).2; have : k ≤ 6 := this; omega)
        ((clearOfDirected_iff s o).2 isClear) fun j low high clear => first j low high ((clearOfDirected_iff s j).1 clear)
    have work := schedulerWork_of_start window deadline unpassed due ((gateHolds_iff run).2 ⟨free, lanes, room⟩) isFirst most none
    rw [announceAt_of_room (s := schedulerDone s) o (by show s.link.outbound.length < 128; omega)] at work
    have span_eq := ownSpan_eq s.host.config s.time.treeCycle o
    refine ⟨_, (exec_schedulerPart run owed epoch).trans (congrArg _ work), rfl, ?_, ?_, rfl, ?_, rfl, rfl, rfl⟩
    · exact congrArg (insertSpan · s.sched.spans) span_eq
    · exact congrArg (fun x => s.builder.reservations ++ [x]) span_eq
    · refine congrArg (fun last => some (Window.mk .announced g start last 0 false (ahead s o) (ahead s (o + w + 1)))) ?_
      exact congrArg (fun x : Span => x.last.cycle) span_eq
  · have shut : gateHolds s = false := by
      rw [Bool.eq_false_iff, ne_eq, gateHolds_iff run]
      rintro ⟨free, lanes, room⟩
      rcases closed with held | ⟨l, configured, notUp, notAbsent⟩ | full
      · exact free held
      · exact (lanes l configured).elim notUp notAbsent
      · omega
    obtain ⟨deadline, work⟩ := schedulerWork_of_closed window due none shut
    exact ⟨_, (exec_schedulerPart run owed epoch).trans (congrArg _ work), window, rfl, rfl, rfl, rfl⟩
  · intro c m w span blocked
    refine (exec_schedulerPart run owed epoch).trans (congrArg _ (schedulerWork_of_late window deadline unpassed none ?_))
    intro o least most
    obtain ⟨x, mem, directed, overlaps⟩ := blocked o least most
    rw [Bool.eq_false_iff, ne_eq, clearOfDirected_iff]
    intro clear
    exact Bool.noConfusion (overlaps.symm.trans (clear x mem directed))
  · exact (exec_schedulerPart run owed epoch).trans (congrArg _ (schedulerWork_of_not_due window deadline due none))

end Sys2Proof.Proofs
end

section
/-! Directed placement: the search, a request met between strobes, and the waiting requests tried at a strobe (R70 to R72). -/

namespace Sys2Proof.Machine

variable {s : State} {q : Request}

/-! ### Positions (R1, R57) -/

theorem le_iff (p q : Pos) :
    p.le q = true ↔ (p.cycle - q.cycle).toInt * 312500 + ((p.offset : Int) - q.offset) ≤ 0 :=
  decide_eq_true_iff

theorem isDirected_iff (x : Span) : x.isDirected = true ↔ ∃ h, x.kind = .range h ∨ x.kind = .verify h := by
  unfold Span.isDirected
  cases x.kind <;> simp

/-! ### The search (R71) -/

/-- The three conditions of R71, for a request in cycle `r` at offset `o`. -/
structure Fits (s : State) (q : Request) (r : TreeCycle) (o : Nat) : Prop where
  grants : (directedIn r s.sched.calendar).length < 8
  spans : directedSpans s < 32
  clear : ∀ x ∈ s.sched.spans, (directedSpan s.host.config q r o).overlaps x = false

/-- The grant of a request placed in cycle `r` at offset `o`. -/
def grantOf (s : State) (q : Request) (r : TreeCycle) (o : Nat) : DirectedGrant :=
  ⟨q.wanted.kind, q.handle, q.identity, r, o, directedSpan s.host.config q r o⟩

theorem grantAt_of_fits {r : TreeCycle} {o : Nat} (fits : Fits s q r o) : grantAt s q r o = some (grantOf s q r o) := by
  have clear : (s.sched.spans.any (directedSpan s.host.config q r o).overlaps) = false := by
    simpa using fits.clear
  simp [grantAt, fits.grants, fits.spans, clear, grantOf]

theorem grantAt_of_not_fits {r : TreeCycle} {o : Nat} (not : ¬ Fits s q r o) : grantAt s q r o = none := by
  refine Option.eq_none_iff_forall_ne_some.2 fun g found => not ?_
  obtain ⟨rfl, grants, spans, clear⟩ := grantAt_spec found
  exact ⟨grants, spans, clear⟩

/-- The first index of a range at which a function answers. -/
theorem findSome?_range_eq {α : Type} {f : Nat → Option α} {a : α} {i n : Nat} (low : i < n) (found : f i = some a)
    (first : ∀ j < i, f j = none) : (List.range n).findSome? f = some a := by
  have parts : List.range n = List.range i ++ i :: (List.range (n - i - 1)).map fun k => i + 1 + k := by
    obtain ⟨k, rfl⟩ := Nat.exists_eq_add_of_le (Nat.succ_le_of_lt low)
    rw [List.range_add, List.range_succ, List.append_assoc]
    rw [show i.succ + k - i - 1 = k by omega]
    rfl
  refine List.findSome?_eq_some_iff.2 ⟨_, i, _, parts, found, fun j mem => first j (List.mem_range.1 mem)⟩

/-- The cycle that the search tries in its turn `i`. -/
def searchCycle (s : State) (i : Nat) : TreeCycle :=
  s.time.treeCycle + BitVec.ofNat 16 (2 + i)

theorem searchPlacement_eq (s : State) (q : Request) : searchPlacement s q =
    (List.range 15).findSome? fun i => (List.range 306).findSome? fun j => grantAt s q (searchCycle s i) (1024 * j) := by
  have cycle (i : Nat) : s.time.treeCycle + 2 + BitVec.ofNat 16 i = searchCycle s i := by
    unfold searchCycle
    bv_omega
  simp only [searchPlacement, cycle, offsetStep]

theorem searchPlacement_of_first {i j : Nat} (low : i < 15) (step : j < 306) (fits : Fits s q (searchCycle s i) (1024 * j))
    (first : ∀ a b, a < 15 → b < 306 → (a < i ∨ (a = i ∧ b < j)) → ¬ Fits s q (searchCycle s a) (1024 * b)) :
    searchPlacement s q = some (grantOf s q (searchCycle s i) (1024 * j)) := by
  rw [searchPlacement_eq]
  refine findSome?_range_eq low (findSome?_range_eq step (grantAt_of_fits fits) fun b earlier => ?_) fun a earlier => ?_
  · exact grantAt_of_not_fits (first i b low (earlier.trans step) (.inr ⟨rfl, earlier⟩))
  · exact List.findSome?_eq_none_iff.2 fun b mem =>
      grantAt_of_not_fits (first a b (earlier.trans low) (List.mem_range.1 mem) (.inl earlier))

theorem searchPlacement_of_unfit (unfit : ∀ i j, i < 15 → j < 306 → ¬ Fits s q (searchCycle s i) (1024 * j)) :
    searchPlacement s q = none := by
  rw [searchPlacement_eq]
  exact List.findSome?_eq_none_iff.2 fun i low => List.findSome?_eq_none_iff.2 fun j step =>
    grantAt_of_not_fits (unfit i j (List.mem_range.1 low) (List.mem_range.1 step))

/-! ### A request met (R70) -/

theorem meetRequest_of_waiting (waits : ∃ r ∈ s.sched.placements, r.handle = q.handle) : meetRequest q s = s := by
  have found : (s.sched.placements.any fun r => r.handle == q.handle) = true := by simpa using waits
  simp [meetRequest, found]

theorem meetRequest_of_queue (alone : ∀ r ∈ s.sched.placements, r.handle ≠ q.handle) (queue : s.sched.placements ≠ []) :
    meetRequest q s = { s with sched := { s.sched with placements := s.sched.placements ++ [q] } } := by
  have none : (s.sched.placements.any fun r => r.handle == q.handle) = false := by simpa using alone
  simp [meetRequest, none, queue]

theorem meetRequest_of_unplaced (empty : s.sched.placements = []) (none : searchPlacement s q = none) :
    meetRequest q s = { s with sched := { s.sched with placements := s.sched.placements ++ [q] } } := by
  simp [meetRequest, empty, none]

theorem meetRequest_of_placed {g : DirectedGrant} (empty : s.sched.placements = []) (found : searchPlacement s q = some g) :
    meetRequest q s = place g s := by
  simp [meetRequest, empty, found]

/-- With an empty queue, a request that leaves it empty has been placed. -/
theorem placed_of_meetRequest (empty : s.sched.placements = []) (left : (meetRequest q s).sched.placements = []) :
    ∃ g, searchPlacement s q = some g ∧ meetRequest q s = place g s := by
  cases found : searchPlacement s q with
  | some g => exact ⟨g, rfl, meetRequest_of_placed empty found⟩
  | none =>
    rw [meetRequest_of_unplaced empty found] at left
    simp at left

theorem place_of_range {g : DirectedGrant} (range : g.kind = .range) :
    place g s = hand (.placed g.handle g.identity g.cycle g.offset) (reserveGrant g s) := by
  simp only [place, handPlacement, range]
  rfl

theorem place_of_verify {g : DirectedGrant} (verify : g.kind = .verify) :
    place g s = takeVerifyPlacement g.handle g.identity (takeAllPlacements (reserveGrant g s)) := by
  simp only [place, handPlacement, verify]
  rfl

theorem takeVerifyPlacement_of_arriving {h : Handle} {x : Identity} {delay : Nat} {peer : Channel} {d : LocalCount}
    {retry : Option LocalCount} (record : recordAt s h = .arriving x delay peer d retry) :
    takeVerifyPlacement h x s = setRecord h (.arriving x delay peer d (some (ahead s 4))) s := by
  simp [takeVerifyPlacement, record]

theorem takeVerifyPlacement_of_other {h : Handle} {x : Identity}
    (other : ∀ delay peer d retry, recordAt s h ≠ .arriving x delay peer d retry) : takeVerifyPlacement h x s = s := by
  unfold takeVerifyPlacement
  split
  case h_1 y delay peer d retry record =>
    refine if_neg ?_
    rintro rfl
    exact other _ _ _ _ record
  all_goals rfl

/-! ### The scheduler's lists and the reservations play no part in taking placements -/

/-- Another scheduler state and another slate builder state. -/
def withPlans (v : Scheduler) (b : SlateBuilder) (s : State) : State :=
  { s with sched := v, builder := b }

section
variable (v : Scheduler) (b : SlateBuilder)

theorem placedSlot_withPlans (h : Handle) (x : Identity) (cycle : TreeCycle) (offset : Nat) (s : State) :
    placedSlot h x cycle offset (withPlans v b s) = withPlans v b (placedSlot h x cycle offset s) :=
  (apply_ite (withPlans v b) (slotAt s h = .asked x) (setSlot h (.out x cycle offset) s) s).symm

theorem takePlacement_withPlans (h : Handle) (x : Identity) (cycle : TreeCycle) (offset : Nat) (s : State) :
    takePlacement h x cycle offset (withPlans v b s) = withPlans v b (takePlacement h x cycle offset s) := by
  by_cases sequence : ∃ r, recordAt s h = .ranging x r ∧ r.stage = .attempting
  · obtain ⟨r, found, attempting⟩ := sequence
    rw [takePlacement_of_attempting found attempting,
      takePlacement_of_attempting (s := withPlans v b s) found attempting, placedSlot_withPlans]
    rfl
  · have idle : ∀ r, recordAt s h = .ranging x r → r.stage ≠ .attempting := fun r found attempting =>
      sequence ⟨r, found, attempting⟩
    rw [takePlacement_of_not_attempting idle, takePlacement_of_not_attempting (s := withPlans v b s) idle,
      placedSlot_withPlans]

theorem takeOnePlacement_withPlans (p : RangePlacement) (s : State) :
    takeOnePlacement p (withPlans v b s) = withPlans v b (takeOnePlacement p s) :=
  takePlacement_withPlans v b p.handle p.identity p.cycle p.offset (takeEvent p.handoff s)

theorem takeAllPlacements_withPlans (s : State) :
    takeAllPlacements (withPlans v b s) = withPlans v b (takeAllPlacements s) := by
  have all (taken : List RangePlacement) : ∀ t : State, taken.foldl (fun t p => takeOnePlacement p t) (withPlans v b t) =
      withPlans v b (taken.foldl (fun t p => takeOnePlacement p t) t) := by
    induction taken with
    | nil => exact fun t => rfl
    | cons p taken ih =>
      intro t
      rw [List.foldl_cons, takeOnePlacement_withPlans, ih]
      rfl
  exact all _ s

theorem takeVerifyPlacement_withPlans (h : Handle) (x : Identity) (s : State) :
    takeVerifyPlacement h x (withPlans v b s) = withPlans v b (takeVerifyPlacement h x s) := by
  by_cases arriving : ∃ delay peer d retry, recordAt s h = .arriving x delay peer d retry
  · obtain ⟨delay, peer, d, retry, found⟩ := arriving
    rw [takeVerifyPlacement_of_arriving found, takeVerifyPlacement_of_arriving (s := withPlans v b s) found]
    rfl
  · have other : ∀ delay peer d retry, recordAt s h ≠ .arriving x delay peer d retry := fun delay peer d retry found =>
      arriving ⟨delay, peer, d, retry, found⟩
    rw [takeVerifyPlacement_of_other other, takeVerifyPlacement_of_other (s := withPlans v b s) other]

theorem handPlacement_withPlans (g : DirectedGrant) (s : State) :
    handPlacement g (withPlans v b s) = withPlans v b (handPlacement g s) := by
  unfold handPlacement
  split
  · rfl
  · rw [takeAllPlacements_withPlans, takeVerifyPlacement_withPlans]

/-- A placement in another scheduler state tells the requester the same. -/
theorem place_withPlans (g : DirectedGrant) (s : State) : place g (withPlans v b s) =
    withPlans (reserveGrant g (withPlans v b s)).sched (reserveGrant g (withPlans v b s)).builder (handPlacement g s) :=
  handPlacement_withPlans (reserveGrant g (withPlans v b s)).sched (reserveGrant g (withPlans v b s)).builder g s

end

/-! ### The oldest RANGE placement taken before a VERIFY one (R72) -/

theorem takeAllPlacements_takeOnePlacement {p : RangePlacement} {rest : List RangePlacement}
    (oldest : placementsHanded s = p :: rest) : takeAllPlacements (takeOnePlacement p s) = takeAllPlacements s := by
  have left := placementsHanded_takeOnePlacement oldest
  unfold placementsHanded at oldest left
  rw [takeAllPlacements, takeAllPlacements, oldest, left, List.foldl_cons]

theorem takeOnePlacement_plans (p : RangePlacement) (s : State) :
    (takeOnePlacement p s).sched = s.sched ∧ (takeOnePlacement p s).builder = s.builder := by
  have same := takeOnePlacement_withPlans s.sched s.builder p s
  have sched := congrArg State.sched same
  have builder := congrArg State.builder same
  exact ⟨sched, builder⟩

theorem takeOnePlacement_time (p : RangePlacement) (s : State) : (takeOnePlacement p s).time = s.time :=
  (frame_takePlacement p.handle p.identity p.cycle p.offset (takeEvent p.handoff s)).time

/-- The search reads the tree cycle, the configuration, the calendar and the span list. -/
theorem searchPlacement_congr {t : State} (cycle : t.time.treeCycle = s.time.treeCycle) (config : t.host.config = s.host.config)
    (sched : t.sched = s.sched) : searchPlacement t q = searchPlacement s q := by
  have each (r : TreeCycle) (o : Nat) : grantAt t q r o = grantAt s q r o := by
    unfold grantAt directedSpans
    rw [config, sched]
  simp only [searchPlacement_eq, searchCycle, cycle, each]

theorem place_takeOnePlacement {p : RangePlacement} {rest : List RangePlacement} {g : DirectedGrant}
    (oldest : placementsHanded s = p :: rest) (verify : g.kind = .verify) :
    place g (takeOnePlacement p s) = place g s := by
  obtain ⟨sched, builder⟩ := takeOnePlacement_plans p s
  obtain ⟨v, b, reserved⟩ : ∃ v b, ∀ t : State, t.sched = s.sched → t.builder = s.builder →
      reserveGrant g t = withPlans v b t := by
    refine ⟨(reserveGrant g s).sched, (reserveGrant g s).builder, fun t sched builder => ?_⟩
    unfold reserveGrant addSpan
    dsimp only
    rw [sched, builder]
    rfl
  rw [place_of_verify verify, place_of_verify verify, reserved _ sched builder, reserved s rfl rfl,
    takeAllPlacements_withPlans, takeAllPlacements_withPlans, takeAllPlacements_takeOnePlacement oldest]

/-- A VERIFY request met at once takes the RANGE placements that wait, so one of them may be taken before (R72). -/
theorem meetRequest_takeOnePlacement {p : RangePlacement} {rest : List RangePlacement} (oldest : placementsHanded s = p :: rest)
    (verify : q.wanted = .verify) (empty : s.sched.placements = []) (left : (meetRequest q s).sched.placements = []) :
    meetRequest q s = meetRequest q (takeOnePlacement p s) := by
  obtain ⟨g, found, placed⟩ := placed_of_meetRequest empty left
  obtain ⟨r, o, at_⟩ := searchPlacement_spec found
  have kind : g.kind = .verify := by
    rw [(grantAt_spec at_).1, verify]
    rfl
  obtain ⟨sched, -⟩ := takeOnePlacement_plans p s
  have same : searchPlacement (takeOnePlacement p s) q = some g := by
    have standing := standing_takeOnePlacement p s
    rw [searchPlacement_congr (congrArg (fun f => f.1.treeCycle) standing) (congrArg (fun f => f.1.config) standing) sched, found]
  rw [placed, meetRequest_of_placed (by rw [sched]; exact empty) same, place_takeOnePlacement oldest kind]

/-! ### A waiting request tried in its turn (R72) -/

/-- The scheduler's state with another queue. -/
def withQueue (placements : List Request) (s : State) : State :=
  { s with sched := { s.sched with placements := placements } }

/-- A grant placed with another queue writes the same beside the queue. -/
theorem place_withQueue (g : DirectedGrant) (l k : List Request) (s : State) :
    place g (withQueue l s) = withQueue l (place g (withQueue k s)) := by
  have plans (m : List Request) : withQueue m s = withPlans { s.sched with placements := m } s.builder s := rfl
  rw [plans l, plans k, place_withPlans, place_withPlans]
  rfl

theorem retryRequest_of_unplaced (none : searchPlacement s q = none) : retryRequest s q = s := by
  simp [retryRequest, none]

theorem retryRequest_of_placed {g : DirectedGrant} (found : searchPlacement s q = some g) :
    retryRequest s q = place g (dropRequest q.handle s) := by
  simp [retryRequest, found]

theorem meetRequest_withQueue_nil (q : Request) (s : State) :
    (searchPlacement s q = none ∧ meetRequest q (withQueue [] s) = withQueue [q] s) ∨
      ∃ g, searchPlacement s q = some g ∧ meetRequest q (withQueue [] s) = place g (withQueue [] s) := by
  cases found : searchPlacement s q with
  | none => exact .inl ⟨rfl, meetRequest_of_unplaced (s := withQueue [] s) rfl found⟩
  | some g => exact .inr ⟨g, rfl, meetRequest_of_placed (s := withQueue [] s) rfl found⟩

/-- A placement leaves the queue. -/
theorem placements_place (g : DirectedGrant) (s : State) : (place g s).sched.placements = s.sched.placements := by
  have same := place_withPlans s.sched s.builder g s
  exact congrArg (fun t => t.sched.placements) same

theorem retryRequest_of_queued (queued : (meetRequest q (withQueue [] s)).sched.placements = [q]) : retryRequest s q = s := by
  rcases meetRequest_withQueue_nil q s with ⟨none, -⟩ | ⟨g, -, placed⟩
  · exact retryRequest_of_unplaced none
  · rw [placed, placements_place] at queued
    exact nomatch queued

theorem retryRequest_of_met (met : (meetRequest q (withQueue [] s)).sched.placements = []) : retryRequest s q =
    withQueue (s.sched.placements.filter fun r => r.handle != q.handle) (meetRequest q (withQueue [] s)) := by
  rcases meetRequest_withQueue_nil q s with ⟨-, queued⟩ | ⟨g, found, placed⟩
  · rw [queued] at met
    exact nomatch met
  · rw [retryRequest_of_placed found, placed, ← place_withQueue]
    rfl

end Sys2Proof.Machine

namespace Sys2Proof.Proofs
open Sys2Proof.Machine

/-- Settles O10: the search finds the first place that fits (`searchPlacement_of_first`); taking placements reads neither the
scheduler's lists nor the reservations (`takeAllPlacements_withPlans`), so the oldest RANGE placement may be taken before a VERIFY one,
and a request tried in its turn is met as with an empty queue. -/
theorem placement : Obligations.Placement := by
  refine ⟨fun c offset p q a b => ?_, fun q s done => ?_, ?_, ?_, ?_⟩
  · exact ⟨rfl, le_iff p q, Bool.and_eq_true_iff, Bool.and_eq_true_iff, isDirected_iff a⟩
  · intro queued span cycle fits
    have span_eq (r : TreeCycle) (o : Nat) : span r o = directedSpan s.host.config q r o := by
      unfold directedSpan expectedOffset
      simp only [span]
      cases q.wanted <;> rfl
    have fits_iff (i j : Nat) : fits i j ↔ Fits s q (searchCycle s i) (1024 * j) := by
      simp only [fits, span_eq, ← List.countP_eq_length_filter]
      exact ⟨fun ⟨grants, spans, clear⟩ => ⟨grants, spans, clear⟩, fun ⟨grants, spans, clear⟩ => ⟨grants, spans, clear⟩⟩
    rw [request_of_not_owed done]
    refine ⟨meetRequest_of_waiting, meetRequest_of_queue, fun empty unfit => ?_,
      fun i j empty low step isFit first => ?_⟩
    · exact meetRequest_of_unplaced empty
        (searchPlacement_of_unfit fun i j low step isFit => unfit i j low step ((fits_iff i j).2 isFit))
    · intro placed
      have found := searchPlacement_of_first low step ((fits_iff i j).1 isFit) fun a b low step earlier isFit =>
        first a b low step earlier ((fits_iff a b).2 isFit)
      rw [meetRequest_of_placed empty found]
      have reserved (kind : DirectedKind) (wanted : q.wanted.kind = kind) :
          reserveGrant (grantOf s q (searchCycle s i) (1024 * j)) s = placed kind := by
        simp only [placed, span_eq, ← wanted]
        rfl
      refine ⟨fun e wanted => ?_, fun wanted none => ?_⟩
      · have kind : q.wanted.kind = .range := by rw [wanted]; rfl
        rw [place_of_range (g := grantOf s q (searchCycle s i) (1024 * j)) kind, reserved .range kind]
        rfl
      · have kind : q.wanted.kind = .verify := by rw [wanted]; rfl
        rw [place_of_verify (g := grantOf s q (searchCycle s i) (1024 * j)) kind, reserved .verify kind,
          takeAllPlacements_of_none (s := placed .verify) none]
        exact ⟨fun delay peer d retry record => takeVerifyPlacement_of_arriving (s := placed .verify) record,
          fun other => takeVerifyPlacement_of_other (s := placed .verify) other⟩
  · intro q h x c o before after s t run done verify empty left split oldest taken
    have unread : ∀ y ∈ before, placementHanded y = none := fun y mem =>
      placementHanded_eq_none fun g y d a e => oldest g y d a (e ▸ mem)
    have read : placementHanded (.placed h x c o) = some ⟨h, x, c, o⟩ := rfl
    rw [exec_attemptPlaced run, takeWantedInOrder_of_oldest split read unread (beq_self_eq_true h)] at taken
    obtain rfl := Host.Outcome.next.inj taken
    rw [request_of_not_owed done] at left ⊢
    rw [request_of_not_owed (by rw [takeOnePlacement_time]; exact done)]
    exact meetRequest_takeOnePlacement (filterMap_of_split split read unread) verify empty left
  · intro epoch s run owed window due deadline unpassed
    rw [exec_schedulerPart run owed, schedulerWork_of_unpassed window deadline unpassed,
      tryAnnounce_of_not_due (s := schedulerDone s) due]
    rfl
  · intro q s done alone others
    have met : request q alone = meetRequest q (withQueue [] s) := request_of_not_owed done
    rw [met]
    exact ⟨retryRequest_of_queued, retryRequest_of_met⟩

end Sys2Proof.Proofs
end

section
/-! Burst reports: which fields make a report of each kind (R80, R81, R191), and what comes of the reports the part can do nothing with
(R64, R65, R81, R83). -/

namespace Sys2Proof.Machine

variable {s : State} {r : RawReport} {m : RawSummary} {ref : TreeCycle} {w : Window}

/-! ### Which fields make a report -/

/-- The outcome field of a register burst's report is `o`, with the fields GOOD requires (R80, R191). -/
def OutcomeIs (r : RawReport) (o : BurstOutcome) : Prop :=
  (r.outcome = some 0 ∧ ∃ q b, r.arrival = some q ∧ r.header = some b ∧ o = .good q b) ∨
    (r.outcome = some 1 ∧ o = .noBurst) ∨ (r.outcome = some 2 ∧ o = .undecoded)

/-- The outcome field of a DATA report gives the arrival `a`, none for a missing burst (R80, R93). -/
def DataOutcomeIs (r : RawReport) (a : Option (BitVec 28)) : Prop :=
  (r.outcome = some 0 ∧ ∃ q, r.arrival = some q ∧ a = some q) ∨ ((r.outcome = some 1 ∨ r.outcome = some 2) ∧ a = none)

/-- The handle field is there and names `h` (R191). -/
def NamesHandle (r : RawReport) (h : Handle) : Prop :=
  ∃ b, r.handle = some b ∧ h.val = b.toNat

/-- The fields of `r` that make it the report `p`: R191's table. -/
def FieldsOf (r : RawReport) : Report → Prop
  | .discover ref o => r.refCycle = some ref ∧ r.kind = some 0 ∧ OutcomeIs r o
  | .directed .range ref h o => r.refCycle = some ref ∧ r.kind = some 1 ∧ NamesHandle r h ∧ OutcomeIs r o
  | .directed .verify ref h o => r.refCycle = some ref ∧ r.kind = some 2 ∧ NamesHandle r h ∧ OutcomeIs r o
  | .data ref h g a => r.refCycle = some ref ∧ r.kind = some 3 ∧ NamesHandle r h ∧ r.offset = some g ∧ DataOutcomeIs r a
  | .ungranted ref n o => r.refCycle = some ref ∧ r.kind = some 4 ∧ r.span = some n ∧ OutcomeIs r o

/-- A code field read as a number. -/
theorem map_toNat_eq_some_iff {width n : Nat} (small : n < 2 ^ width) (f : Option (BitVec width)) :
    f.map BitVec.toNat = some n ↔ f = some (BitVec.ofNat width n) := by
  cases f with
  | none => simp
  | some v => simp [← BitVec.toNat_inj, Nat.mod_eq_of_lt small]

theorem burstOutcome_eq_some_iff (r : RawReport) (o : BurstOutcome) : burstOutcome r = some o ↔ OutcomeIs r o := by
  unfold burstOutcome OutcomeIs
  split
  case h_1 code =>
    rw [map_toNat_eq_some_iff (by decide)] at code
    split
    case h_1 arrival header => simp [code, arrival, header, eq_comm]
    case h_2 missing => simpa [code] using fun q arrival b header _ => missing q b arrival header
  case h_2 code | h_3 code =>
    rw [map_toNat_eq_some_iff (by decide)] at code
    simp [code, eq_comm]
  case h_4 not0 not1 not2 =>
    simp (disch := decide) only [map_toNat_eq_some_iff, imp_false] at not0 not1 not2
    simp [not0, not1, not2]

theorem dataOutcome_eq_some_iff (r : RawReport) (a : Option (BitVec 28)) : dataOutcome r = some a ↔ DataOutcomeIs r a := by
  unfold dataOutcome DataOutcomeIs
  split
  case h_1 code | h_2 code | h_3 code =>
    rw [map_toNat_eq_some_iff (by decide)] at code
    simp [code, eq_comm]
  case h_4 not0 not1 not2 =>
    simp (disch := decide) only [map_toNat_eq_some_iff, imp_false] at not0 not1 not2
    simp [not0, not1, not2]

theorem handleOf_eq_iff (b : BitVec 7) (h : Handle) : handleOf b = h ↔ h.val = b.toNat := by
  have small : b.toNat % 128 = b.toNat := Nat.mod_eq_of_lt b.isLt
  simp [handleOf, Fin.ext_iff, small, eq_comm]

theorem parseReport_of_fields {p : Report} (fields : FieldsOf r p) : parseReport r = some p := by
  match p, fields with
  | .discover ref o, ⟨cycle, kind, out⟩ =>
    simp [parseReport, cycle, kind, (burstOutcome_eq_some_iff r o).2 out]
  | .directed .range ref h o, ⟨cycle, kind, ⟨b, handle, names⟩, out⟩
  | .directed .verify ref h o, ⟨cycle, kind, ⟨b, handle, names⟩, out⟩ =>
    simp [parseReport, cycle, kind, handle, (handleOf_eq_iff b h).2 names, (burstOutcome_eq_some_iff r o).2 out]
  | .data ref h g a, ⟨cycle, kind, ⟨b, handle, names⟩, offset, out⟩ =>
    simp [parseReport, cycle, kind, handle, (handleOf_eq_iff b h).2 names, offset, (dataOutcome_eq_some_iff r a).2 out]
  | .ungranted ref n o, ⟨cycle, kind, span, out⟩ =>
    simp [parseReport, cycle, kind, span, (burstOutcome_eq_some_iff r o).2 out]

theorem fields_of_parseReport {p : Report} (parsed : parseReport r = some p) : FieldsOf r p := by
  unfold parseReport at parsed
  split at parsed
  case h_1 cycle kind =>
    obtain ⟨o, out, rfl⟩ := Option.map_eq_some_iff.1 parsed
    exact ⟨cycle, (map_toNat_eq_some_iff (by decide) _).1 kind, (burstOutcome_eq_some_iff r o).1 out⟩
  case h_2 cycle kind | h_3 cycle kind =>
    obtain ⟨b, handle, parsed⟩ := Option.bind_eq_some_iff.1 parsed
    obtain ⟨o, out, rfl⟩ := Option.map_eq_some_iff.1 parsed
    exact ⟨cycle, (map_toNat_eq_some_iff (by decide) _).1 kind, ⟨b, handle, (handleOf_eq_iff b _).1 rfl⟩,
      (burstOutcome_eq_some_iff r o).1 out⟩
  case h_4 cycle kind =>
    obtain ⟨b, handle, parsed⟩ := Option.bind_eq_some_iff.1 parsed
    obtain ⟨g, offset, parsed⟩ := Option.bind_eq_some_iff.1 parsed
    obtain ⟨a, out, rfl⟩ := Option.map_eq_some_iff.1 parsed
    exact ⟨cycle, (map_toNat_eq_some_iff (by decide) _).1 kind, ⟨b, handle, (handleOf_eq_iff b _).1 rfl⟩, offset,
      (dataOutcome_eq_some_iff r a).1 out⟩
  case h_5 cycle kind =>
    obtain ⟨n, span, parsed⟩ := Option.bind_eq_some_iff.1 parsed
    obtain ⟨o, out, rfl⟩ := Option.map_eq_some_iff.1 parsed
    exact ⟨cycle, (map_toNat_eq_some_iff (by decide) _).1 kind, span, (burstOutcome_eq_some_iff r o).1 out⟩
  case h_6 => exact nomatch parsed

/-- A report is parsed exactly when its fields make it one. -/
theorem parseReport_eq_some_iff (r : RawReport) (p : Report) : parseReport r = some p ↔ FieldsOf r p :=
  ⟨fields_of_parseReport, parseReport_of_fields⟩

/-! ### A report that is none -/

/-- A required field is missing, or the kind or outcome code names nothing (R81). -/
def Unusable (r : RawReport) : Prop :=
  r.refCycle = none ∨ r.kind = none ∨ (∃ k, r.kind = some k ∧ 4 < k.toNat) ∨ r.outcome = none ∨ r.outcome = some 3 ∨
    (r.outcome = some 0 ∧ r.arrival = none) ∨ (r.outcome = some 0 ∧ r.kind ≠ some 3 ∧ r.header = none) ∨
    ((r.kind = some 1 ∨ r.kind = some 2 ∨ r.kind = some 3) ∧ r.handle = none) ∨ (r.kind = some 3 ∧ r.offset = none) ∨
    (r.kind = some 4 ∧ r.span = none)

/-- The outcome of a burst has a code that names one, and a GOOD one has its arrival and header. -/
theorem OutcomeIs.complete {o : BurstOutcome} (out : OutcomeIs r o) : r.outcome ≠ none ∧ r.outcome ≠ some 3 ∧
    ¬ (r.outcome = some 0 ∧ r.arrival = none) ∧ ¬ (r.outcome = some 0 ∧ r.header = none) := by
  rcases out with ⟨code, q, b, arrival, header, -⟩ | ⟨code, -⟩ | ⟨code, -⟩
  · simp [code, arrival, header]
  · simp [code]
  · simp [code]

theorem DataOutcomeIs.complete {a : Option (BitVec 28)} (out : DataOutcomeIs r a) : r.outcome ≠ none ∧ r.outcome ≠ some 3 ∧
    ¬ (r.outcome = some 0 ∧ r.arrival = none) := by
  rcases out with ⟨code, q, arrival, -⟩ | ⟨code | code, -⟩
  · simp [code, arrival]
  · simp [code]
  · simp [code]

theorem not_unusable_of_fields {p : Report} (fields : FieldsOf r p) : ¬ Unusable r := by
  match p, fields with
  | .discover ref o, ⟨cycle, kind, out⟩ =>
    simpa [Unusable, cycle, kind] using out.complete
  | .directed .range ref h o, ⟨cycle, kind, ⟨b, handle, _⟩, out⟩
  | .directed .verify ref h o, ⟨cycle, kind, ⟨b, handle, _⟩, out⟩ =>
    simpa [Unusable, cycle, kind, handle] using out.complete
  | .data ref h g a, ⟨cycle, kind, ⟨b, handle, _⟩, offset, out⟩ =>
    simpa [Unusable, cycle, kind, handle, offset] using out.complete
  | .ungranted ref n o, ⟨cycle, kind, span, out⟩ =>
    simpa [Unusable, cycle, kind, span] using out.complete

theorem parseReport_eq_none (unusable : Unusable r) : parseReport r = none :=
  Option.eq_none_iff_forall_ne_some.2 fun _ parsed => not_unusable_of_fields (fields_of_parseReport parsed) unusable

/-! ### What comes of a report -/

theorem exec_burstReport (run : running s = true) (r : RawReport) : exec (.burstReport r) s = .next (takeReport r s) :=
  congrArg Host.Outcome.next (if_pos run)

theorem exec_burstReport_of_not_running (idle : running s = false) (r : RawReport) : exec (.burstReport r) s = .next s :=
  congrArg Host.Outcome.next (if_neg (by simp [idle]))

theorem exec_endOfWindowSummary (run : running s = true) (m : RawSummary) :
    exec (.endOfWindowSummary m) s = .next (takeSummary m s) :=
  congrArg Host.Outcome.next (if_pos run)

theorem exec_endOfWindowSummary_of_not_running (idle : running s = false) (m : RawSummary) :
    exec (.endOfWindowSummary m) s = .next s :=
  congrArg Host.Outcome.next (if_neg (by simp [idle]))

theorem takeReport_of_none (none : parseReport r = none) (s : State) : takeReport r s = bump .strayReports s := by
  simp [takeReport, none]

theorem takeReport_of_discover {o : BurstOutcome} (parsed : parseReport r = some (.discover ref o)) (s : State) :
    takeReport r s = discoverReport ref o s := by
  simp [takeReport, parsed]

theorem takeReport_of_directed {k : DirectedKind} {h : Handle} {o : BurstOutcome}
    (parsed : parseReport r = some (.directed k ref h o)) (s : State) : takeReport r s = directedReport k ref h o s := by
  simp [takeReport, parsed]

theorem takeReport_of_data {h : Handle} {g : BitVec 19} {a : Option (BitVec 28)}
    (parsed : parseReport r = some (.data ref h g a)) (s : State) : takeReport r s = dataReport ref h g.toNat a s := by
  simp [takeReport, parsed]

theorem takeReport_of_ungranted {n : SpanName} {o : BurstOutcome} (parsed : parseReport r = some (.ungranted ref n o))
    (s : State) : takeReport r s = ungrantedReport ref n o s := by
  simp [takeReport, parsed]

theorem takeSummary_of_incomplete (missing : m.refCycle = none ∨ m.light = none) (s : State) :
    takeSummary m s = bump .strayReports s := by
  unfold takeSummary
  split
  case h_1 cycle light => simp [cycle, light] at missing
  all_goals rfl

theorem takeSummary_of_complete {light : Bool} (cycle : m.refCycle = some ref) (flag : m.light = some light) (s : State) :
    takeSummary m s = windowSummary ref light s := by
  simp [takeSummary, cycle, flag]

theorem isEntry_iff (k : DirectedKind) (h : Handle) (ref : TreeCycle) (e : DirectedGrant) :
    isEntry k h ref e = true ↔ e.kind = k ∧ e.handle = h ∧ e.cycle = ref := by
  simp [isEntry, and_assoc]

/-- A directed report of no issued grant is stray (R83). -/
theorem directedReport_of_unissued {k : DirectedKind} {h : Handle}
    (unissued : ∀ e ∈ s.classifier.issued, ¬ (e.kind = k ∧ e.handle = h ∧ e.cycle = ref)) (o : BurstOutcome) :
    directedReport k ref h o s = bump .strayReports s := by
  have unfound : s.classifier.issued.find? (isEntry k h ref) = none :=
    List.find?_eq_none.2 fun e mem => mt (isEntry_iff k h ref e).1 (unissued e mem)
  simp [directedReport, unfound]

/-! ### A grant cycle and the windows (R64, R65) -/

theorem matchWindow_of_opened (window : s.sched.window = some w) (opened : w.stage = .opened) :
    matchWindow s w.grantCycle = .opened w := by
  simp [matchWindow, window, opened]

theorem matchWindow_of_announced (window : s.sched.window = some w) (announced : w.stage = .announced) :
    matchWindow s w.grantCycle = .announced := by
  simp [matchWindow, window, announced]

theorem matchWindow_of_other (other : ∀ w, s.sched.window = some w → w.grantCycle ≠ ref) :
    matchWindow s ref = if s.sched.lastClosed = some ref then .closed else .unknown := by
  unfold matchWindow
  split
  case h_1 w window => exact if_neg (other w window)
  case h_2 => rfl

/-- The command is a DISCOVER report or a summary that names the grant cycle `ref`. -/
def NamesWindow (r : RawReport) (m : RawSummary) (ref : TreeCycle) (c : Instr) : Prop :=
  (∃ o, parseReport r = some (.discover ref o) ∧ c = .burstReport r) ∨
    (∃ light, m.refCycle = some ref ∧ m.light = some light ∧ c = .endOfWindowSummary m)

/-- What counts a report or summary that names no OPEN window: late after the last closed one, else stray (R64, R65). -/
def unopenedCounter : WindowMatch → Counter
  | .closed => .lateReports
  | .opened _ | .announced | .unknown => .strayReports

theorem exec_of_unopened {c : Instr} {found : WindowMatch} (run : running s = true) (names : NamesWindow r m ref c)
    (matched : matchWindow s ref = found) (unopened : ∀ w, found ≠ .opened w) :
    exec c s = .next (bump (unopenedCounter found) s) := by
  rcases names with ⟨o, parsed, rfl⟩ | ⟨light, cycle, flag, rfl⟩
  · rw [exec_burstReport run, takeReport_of_discover parsed, discoverReport, matched]
    cases found with
    | opened w => exact absurd rfl (unopened w)
    | _ => rfl
  · rw [exec_endOfWindowSummary run, takeSummary_of_complete cycle flag, windowSummary, matched]
    cases found with
    | opened w => exact absurd rfl (unopened w)
    | _ => rfl

end Sys2Proof.Machine

namespace Sys2Proof.Proofs
open Sys2Proof.Machine

/-- Settles O35: a report is parsed exactly when it has R191's fields (`parseReport_eq_some_iff`), one with a field or code missing is
none, and a grant cycle of no OPEN window is counted by what it matches. -/
theorem unusableReports : Obligations.UnusableReports := by
  refine ⟨fun r => ?_, fun r m s => ⟨fun idle => ?_, fun run => ⟨fun unusable => ?_, fun missing => ?_, ?_, ?_⟩⟩⟩
  · exact ⟨fun ref o => parseReport_eq_some_iff r (.discover ref o),
      fun ref h o => parseReport_eq_some_iff r (.directed .range ref h o),
      fun ref h o => parseReport_eq_some_iff r (.directed .verify ref h o),
      fun ref h g a => parseReport_eq_some_iff r (.data ref h g a),
      fun ref n o => parseReport_eq_some_iff r (.ungranted ref n o)⟩
  · exact ⟨exec_burstReport_of_not_running idle r, exec_endOfWindowSummary_of_not_running idle m⟩
  · rw [exec_burstReport run, takeReport_of_none (parseReport_eq_none unusable)]
  · rw [exec_endOfWindowSummary run, takeSummary_of_incomplete missing]
  · intro k ref h o parsed unissued
    rw [exec_burstReport run, takeReport_of_directed parsed, directedReport_of_unissued unissued]
  · refine fun ref c names => ⟨?_, fun other => ⟨fun closed => ?_, fun unknown => ?_⟩⟩
    · rintro ⟨w, window, rfl, announced⟩
      exact exec_of_unopened run names (matchWindow_of_announced window announced) (by simp)
    · exact exec_of_unopened run names ((matchWindow_of_other other).trans (if_pos closed)) (by simp)
    · exact exec_of_unopened run names ((matchWindow_of_other other).trans (if_neg unknown)) (by simp)

end Sys2Proof.Proofs
end

section
/-! The header check of a burst (R85, R86), the bursts of the OPEN window (R59, R64, R87 to R89), and DATA and ungranted reports (R93,
R94). -/

namespace Sys2Proof.Machine

variable {s : State} {r : RawReport} {ref g : TreeCycle} {w : Window} {n : SpanName} {o : BurstOutcome} {h : Handle}
  {b c : HeaderBlock} {q : BitVec 28} {kind : ReportKind} {f : HeaderFields} {counted : State → State}

/-! ### The header check -/

/-- The check finds the block `c` in `b`, clean or corrected, and counts it by `counted` (R85). -/
def HeaderRead (b c : HeaderBlock) (counted : State → State) : Prop :=
  (checkHeader b = .clean c ∧ counted = id) ∨ (checkHeader b = .corrected c ∧ counted = bump .headersCorrected)

theorem takeHeader_of_read (read : HeaderRead b c counted) (ref : TreeCycle) (kind : ReportKind) (q : BitVec 28) (s : State) :
    takeHeader ref kind q b s = (some (headerFields c), counted s) := by
  rcases read with ⟨check, rfl⟩ | ⟨check, rfl⟩ <;> simp [takeHeader, check]

theorem takeHeader_of_uncorrectable (check : checkHeader b = .uncorrectable) (ref : TreeCycle) (kind : ReportKind)
    (q : BitVec 28) (s : State) :
    takeHeader ref kind q b s = (none, offerCapture ref kind q (bump .headersUncorrectable s)) := by
  simp [takeHeader, check]

theorem HeaderRead.host_ownChannel (read : HeaderRead b c counted) (s : State) :
    (counted s).host.ownChannel = s.host.ownChannel := by
  rcases read with ⟨-, rfl⟩ | ⟨-, rfl⟩ <;> rfl

theorem HeaderRead.host_config (read : HeaderRead b c counted) (s : State) : (counted s).host.config = s.host.config := by
  rcases read with ⟨-, rfl⟩ | ⟨-, rfl⟩ <;> rfl

theorem HeaderRead.markActivity (read : HeaderRead b c counted) (s : State) :
    markActivity (counted s) = counted (markActivity s) := by
  rcases read with ⟨-, rfl⟩ | ⟨-, rfl⟩ <;> rfl

theorem offerCapture_of_armed (armed : s.classifier.capture = none) (ref : TreeCycle) (kind : ReportKind) (q : BitVec 28) :
    offerCapture ref kind q s =
      attend .header { s with classifier := { s.classifier with capture := some ⟨ref, kind, q⟩ } } := by
  simp [offerCapture, armed]

theorem offerCapture_of_taken (taken : s.classifier.capture ≠ none) (ref : TreeCycle) (kind : ReportKind) (q : BitVec 28) :
    offerCapture ref kind q s = s := by
  obtain ⟨v, capture⟩ := Option.ne_none_iff_exists'.1 taken
  simp [offerCapture, capture]

/-- The capture does not read the window. -/
theorem markActivity_offerCapture (ref : TreeCycle) (kind : ReportKind) (q : BitVec 28) (s : State) :
    markActivity (offerCapture ref kind q s) = offerCapture ref kind q (markActivity s) := by
  by_cases armed : s.classifier.capture = none
  · rw [offerCapture_of_armed armed, offerCapture_of_armed (s := markActivity s) armed]
    rfl
  · rw [offerCapture_of_taken armed, offerCapture_of_taken (s := markActivity s) armed]

/-! ### The window in progress -/

/-- The window in progress becomes `w`. -/
def withWindow (w : Window) (s : State) : State :=
  { s with sched := { s.sched with window := some w } }

theorem markActivity_of_window (window : s.sched.window = some w) :
    markActivity s = withWindow { w with activity := true } s := by
  simp [markActivity, withWindow, window]

theorem countBurst_of_window (window : s.sched.window = some w) :
    countBurst s = withWindow { w with bursts := w.bursts + 1 } s := by
  simp [countBurst, withWindow, window]

theorem markActivity_countBurst_of_window (window : s.sched.window = some w) :
    markActivity (countBurst s) = withWindow { w with bursts := w.bursts + 1, activity := true } s := by
  rw [countBurst_of_window window]
  rfl

theorem windowSummary_of_opened (window : s.sched.window = some w) (opened : w.stage = .opened) (light : Bool) :
    windowSummary w.grantCycle light s = if light then markActivity s else s := by
  simp [windowSummary, matchWindow_of_opened window opened]

/-! ### An identity burst -/

theorem badScatter_iff (f : HeaderFields) : badScatter f = true ↔ 48 ≤ f.scatter := by
  simp [badScatter]

theorem inBand_iff (v : Configuration) (coarse : Int) :
    inBand v coarse = true ↔ (v.minLoopDelay : Int) - 64 ≤ coarse ∧ coarse ≤ (v.maxLoopDelay : Int) + 64 := by
  simp only [inBand, Bool.and_eq_true, decide_eq_true_eq]
  rfl

theorem crossHeard_of_badScatter (bad : 48 ≤ f.scatter) (s : State) : crossHeard f s = bump .strayReports s :=
  if_pos ((badScatter_iff f).2 bad)

theorem crossHeard_of_scatter (good : f.scatter < 48) (s : State) :
    crossHeard f s = hand (.crossHeard ⟨f.identity, f.downChannel, f.attemptCount⟩) s :=
  if_neg (mt (badScatter_iff f).1 (Nat.not_le.2 good))

theorem ownBurst_of_badScatter (bad : 48 ≤ f.scatter) (g : TreeCycle) (q : Int) (s : State) :
    ownBurst g q f s = bump .strayReports s :=
  if_pos ((badScatter_iff f).2 bad)

theorem ownBurst_of_inBand {q : Int} (good : f.scatter < 48)
    (near : inBand s.host.config (coarseDelay q f.scatter) = true) : ownBurst g q f s =
      hand (.hearing ⟨f.identity, f.attemptCount, coarseDelay q f.scatter, (arrivalPos g q).cycle⟩)
        (bump .identitiesHeard s) :=
  (if_neg (mt (badScatter_iff f).1 (Nat.not_le.2 good))).trans (if_pos near)

theorem ownBurst_of_outOfBand {q : Int} (good : f.scatter < 48)
    (far : ¬ inBand s.host.config (coarseDelay q f.scatter) = true) :
    ownBurst g q f s = raise (.outOfBand f.identity (coarseDelay q f.scatter)) (bump .outOfBand s) :=
  (if_neg (mt (badScatter_iff f).1 (Nat.not_le.2 good))).trans (if_neg far)

theorem identityBurst_of_uncorrectable (check : checkHeader b = .uncorrectable) (g : TreeCycle) (quarters : Int)
    (ref : TreeCycle) (kind : ReportKind) (q : BitVec 28) (s : State) : identityBurst g quarters ref kind q b s =
      offerCapture ref kind q (bump .headersUncorrectable (markActivity s)) := by
  rw [identityBurst, takeHeader_of_uncorrectable check]
  exact markActivity_offerCapture ref kind q _

theorem identityBurst_of_own (read : HeaderRead b c counted) (own : (headerFields c).downChannel = s.host.ownChannel)
    (g : TreeCycle) (quarters : Int) (ref : TreeCycle) (kind : ReportKind) (q : BitVec 28) :
    identityBurst g quarters ref kind q b s = ownBurst g quarters (headerFields c) (counted (markActivity s)) := by
  simp [identityBurst, takeHeader_of_read read, read.host_ownChannel, own, read.markActivity]

theorem identityBurst_of_other (read : HeaderRead b c counted) (other : (headerFields c).downChannel ≠ s.host.ownChannel)
    (g : TreeCycle) (quarters : Int) (ref : TreeCycle) (kind : ReportKind) (q : BitVec 28) :
    identityBurst g quarters ref kind q b s = crossHeard (headerFields c) (counted s) := by
  simp [identityBurst, takeHeader_of_read read, read.host_ownChannel, other]

theorem admitBurst_of_full (full : 16 ≤ w.bursts) (quarters : Int) (ref : TreeCycle) (kind : ReportKind) (q : BitVec 28)
    (b : HeaderBlock) (s : State) : admitBurst w quarters ref kind q b s = markActivity (bump .windowOverflow s) :=
  if_neg (Nat.not_lt.2 full)

theorem admitBurst_of_room (room : w.bursts < 16) (quarters : Int) (ref : TreeCycle) (kind : ReportKind) (q : BitVec 28)
    (b : HeaderBlock) (s : State) : admitBurst w quarters ref kind q b s =
      identityBurst w.grantCycle quarters ref kind q b (countBurst s) :=
  if_pos room

/-! ### The report of the OPEN window -/

/-- An ungranted report belongs to a window's span: it names the span, or it is GOOD with its position inside (R94, first row). -/
def BelongsTo (w : Window) (n : SpanName) (o : BurstOutcome) : Prop :=
  n = ⟨0, w.first, 0⟩ ∨ ∃ q b, o = .good q b ∧ (windowSpan w).contains (arrivalPos n.cycle q.toNat) = true

theorem named_windowSpan_iff (w : Window) (n : SpanName) : (windowSpan w).named n = true ↔ n = ⟨0, w.first, 0⟩ := by
  obtain ⟨code, cycle, offset⟩ := n
  simp only [Span.named, windowSpan, SpanKind.code, Bool.and_eq_true, beq_iff_eq, SpanName.mk.injEq, and_assoc,
    eq_comm (a := 0), eq_comm (a := w.first), BitVec.toNat_eq (y := 0)]
  rfl

theorem windowForUngranted_eq_some_iff (s : State) (n : SpanName) (o : BurstOutcome) (w : Window) :
    windowForUngranted s n o = some w ↔ s.sched.window = some w ∧ w.stage = .opened ∧ BelongsTo w n o := by
  rw [windowForUngranted, Option.filter_eq_some_iff, Bool.and_eq_true, Bool.or_eq_true, named_windowSpan_iff, beq_iff_eq]
  refine and_congr_right fun _ => and_congr_right fun _ => or_congr_right ?_
  cases o <;> simp

theorem windowForUngranted_eq_none (none : ∀ w, s.sched.window = some w → w.stage = .opened → ¬ BelongsTo w n o) :
    windowForUngranted s n o = .none :=
  Option.eq_none_iff_forall_ne_some.2 fun w found =>
    have ⟨window, opened, belongs⟩ := (windowForUngranted_eq_some_iff s n o w).1 found
    none w window opened belongs

/-- The report `r` tells of the outcome `o` in the window `w`, its arrival measured from `origin`: as the window's DISCOVER report, or
ungranted. -/
def ReportedIn (w : Window) (r : RawReport) (o : BurstOutcome) (origin ref : TreeCycle) (kind : ReportKind) : Prop :=
  (parseReport r = some (.discover w.grantCycle o) ∧ origin = w.grantCycle ∧ ref = w.grantCycle ∧ kind = .discover) ∨
    (∃ n, parseReport r = some (.ungranted ref n o) ∧ origin = n.cycle ∧ kind = .ungranted ∧ BelongsTo w n o)

theorem takeReport_of_reportedIn {origin : TreeCycle} (window : s.sched.window = some w) (opened : w.stage = .opened)
    (reported : ReportedIn w r o origin ref kind) : takeReport r s = windowReport w origin ref kind o s := by
  rcases reported with ⟨parsed, rfl, rfl, rfl⟩ | ⟨n, parsed, rfl, rfl, belongs⟩
  · simp [takeReport_of_discover parsed, discoverReport, matchWindow_of_opened window opened]
  · have found := (windowForUngranted_eq_some_iff s n o w).2 ⟨window, opened, belongs⟩
    simp [takeReport_of_ungranted parsed, ungrantedReport, found]

/-! ### DATA reports -/

/-- What a DATA report tells the delay tracker (R93). -/
def dataInput (ref : TreeCycle) (offset : Nat) : Option (BitVec 28) → TrackerInputKind
  | some q => .burst ref offset q.toNat
  | none => .missing ref

theorem handData_eq (ref : TreeCycle) (h : Handle) (offset : Nat) (a : Option (BitVec 28)) (x : Identity)
    (found : TrackedState) (s : State) :
    handData ref h offset a x found s = hand (.trackerInput ⟨h, x, found, dataInput ref offset a⟩) s := by
  cases a <;> rfl

theorem dataReport_of_active {x : Identity} {t : Tracking} (record : recordAt s h = .active x t) (ref : TreeCycle)
    (offset : Nat) (a : Option (BitVec 28)) :
    dataReport ref h offset a s = hand (.trackerInput ⟨h, x, .active, dataInput ref offset a⟩) s := by
  simp [dataReport, record, handData_eq]

theorem dataReport_of_offering {x : Identity} {t : Tracking} {p : Channel} {d : LocalCount}
    (record : recordAt s h = .offering x t p d) (ref : TreeCycle) (offset : Nat) (a : Option (BitVec 28)) :
    dataReport ref h offset a s = hand (.trackerInput ⟨h, x, .offering, dataInput ref offset a⟩) s := by
  simp [dataReport, record, handData_eq]

theorem dataReport_of_untracked (inactive : (recordAt s h).state ≠ .active) (unoffered : (recordAt s h).state ≠ .offering)
    (ref : TreeCycle) (offset : Nat) (a : Option (BitVec 28)) : dataReport ref h offset a s = s := by
  unfold dataReport
  cases record : recordAt s h with
  | active => simp [record, Record.state] at inactive
  | offering => simp [record, Record.state] at unoffered
  | _ => rfl

/-! ### Ungranted reports of no OPEN window -/

/-- The span named is a listed PEER-QUIET span (R94). -/
def ListedQuiet (s : State) (n : SpanName) : Prop :=
  n.kind = 1 ∧ ∃ x ∈ s.sched.spans, (∃ p, x.kind = .peerQuiet p) ∧ x.first = ⟨n.cycle, n.offset.toNat⟩

theorem code_eq_one_iff (k : SpanKind) : k.code = 1 ↔ ∃ p, k = .peerQuiet p := by
  cases k <;> simp [SpanKind.code]

theorem namesQuiet_iff (s : State) (n : SpanName) : namesQuiet s n = true ↔ ListedQuiet s n := by
  simp only [namesQuiet, ListedQuiet, Bool.and_eq_true, beq_iff_eq, List.any_eq_true]
  refine and_congr_right fun kind => exists_congr fun x => and_congr_right fun _ => ?_
  have code : n.kind.toNat = 1 := by rw [kind]; rfl
  obtain ⟨k, ⟨cycle, offset⟩, last⟩ := x
  simp [Span.named, code, code_eq_one_iff, and_assoc]

theorem ungrantedReport_of_unlisted (none : windowForUngranted s n o = none) (unlisted : ¬ ListedQuiet s n)
    (ref : TreeCycle) : ungrantedReport ref n o s = bump .strayReports s := by
  simp [ungrantedReport, none, mt (namesQuiet_iff s n).1 unlisted]

theorem ungrantedReport_of_listed (none : windowForUngranted s n o = none) (listed : ListedQuiet s n)
    (ref : TreeCycle) : ungrantedReport ref n o s = quietReport ref o s := by
  simp [ungrantedReport, none, (namesQuiet_iff s n).2 listed]

theorem quietReport_of_uncorrectable (check : checkHeader b = .uncorrectable) (ref : TreeCycle) (q : BitVec 28) (s : State) :
    quietReport ref (.good q b) s = offerCapture ref .ungranted q (bump .headersUncorrectable s) := by
  simp [quietReport, takeHeader_of_uncorrectable check]

theorem quietReport_of_stray (read : HeaderRead b c counted)
    (stray : (headerFields c).downChannel = s.host.ownChannel ∨ 48 ≤ (headerFields c).scatter) (ref : TreeCycle)
    (q : BitVec 28) : quietReport ref (.good q b) s = bump .strayReports (counted s) := by
  simp only [quietReport, takeHeader_of_read read, read.host_ownChannel]
  split
  case isTrue => rfl
  case isFalse other => exact crossHeard_of_badScatter (stray.resolve_left other) _

theorem quietReport_of_other (read : HeaderRead b c counted) (other : (headerFields c).downChannel ≠ s.host.ownChannel)
    (good : (headerFields c).scatter < 48) (ref : TreeCycle) (q : BitVec 28) : quietReport ref (.good q b) s =
      hand (.crossHeard ⟨(headerFields c).identity, (headerFields c).downChannel, (headerFields c).attemptCount⟩)
        (counted s) := by
  simp [quietReport, takeHeader_of_read read, read.host_ownChannel, other, crossHeard_of_scatter good]

end Sys2Proof.Machine

namespace Sys2Proof.Proofs
open Sys2Proof.Machine

/-- Settles O36: a DISCOVER report and an ungranted one of the OPEN window are both its `windowReport` (`takeReport_of_reportedIn`); a
burst counted is then read by its header (`identityBurst`). -/
theorem burstsInTheOpenWindow : Obligations.BurstsInTheOpenWindow := by
  intro w s run window opened put
  refine ⟨⟨?_, ?_⟩, ?_⟩
  · rw [exec_endOfWindowSummary run, takeSummary_of_complete rfl rfl, windowSummary_of_opened window opened, if_pos rfl,
      markActivity_of_window window]
    rfl
  · rw [exec_endOfWindowSummary run, takeSummary_of_complete rfl rfl, windowSummary_of_opened window opened]
    rfl
  intro r o origin ref kind reported answers
  have taken {t : State} (same : windowReport w origin ref kind o s = t) : answers t := by
    rw [← same, ← takeReport_of_reportedIn window opened reported]
    exact exec_burstReport run r
  refine ⟨?_, ?_, ?_, ?_⟩
  · rintro rfl
    exact taken rfl
  · rintro rfl
    exact taken (markActivity_of_window window)
  · rintro q b rfl full
    exact taken ((admitBurst_of_full full _ _ _ _ _ _).trans (markActivity_of_window (s := bump .windowOverflow s) window))
  rintro q b rfl room own other quarters
  have counts {t : State} (same : identityBurst w.grantCycle quarters ref kind q b (countBurst s) = t) : answers t :=
    taken ((admitBurst_of_room room _ _ _ _ _ _).trans same)
  have marked : markActivity (countBurst s) = own := markActivity_countBurst_of_window window
  have unmarked : countBurst s = other := countBurst_of_window window
  refine ⟨fun check => ?_, ?_⟩
  · rw [← marked]
    exact counts (identityBurst_of_uncorrectable check _ _ _ _ _ _)
  intro c counted read f coarse near
  have heard (ours : f.downChannel = s.host.ownChannel) {t : State} (same : ownBurst w.grantCycle quarters f (counted own) = t) :
      answers t := by
    rw [← same, ← marked]
    exact counts (identityBurst_of_own (s := countBurst s) read ours _ _ _ _ _)
  have crossed (theirs : f.downChannel ≠ s.host.ownChannel) {t : State} (same : crossHeard f (counted other) = t) :
      answers t := by
    rw [← same, ← unmarked]
    exact counts (identityBurst_of_other (s := countBurst s) read theirs _ _ _ _ _)
  have near_iff : inBand (counted own).host.config coarse = true ↔ near := by
    rw [HeaderRead.host_config read]
    exact inBand_iff s.host.config coarse
  exact ⟨fun ours bad => heard ours (ownBurst_of_badScatter bad _ _ _),
    fun ours good inside => heard ours (ownBurst_of_inBand good (near_iff.2 inside)),
    fun ours good outside => heard ours (ownBurst_of_outOfBand good (mt near_iff.1 outside)),
    fun theirs bad => crossed theirs (crossHeard_of_badScatter bad _),
    fun theirs good => crossed theirs (crossHeard_of_scatter good _)⟩

/-- Settles O38: a DATA report by its record, and an ungranted report by the window it belongs to (`windowForUngranted_eq_some_iff`) and
the PEER-QUIET span it names (`namesQuiet_iff`). -/
theorem dataAndUngrantedReports : Obligations.DataAndUngrantedReports := by
  intro r s run answers
  have taken {t : State} (same : takeReport r s = t) : answers t :=
    (exec_burstReport run r).trans (congrArg Host.Outcome.next same)
  refine ⟨?_, ?_⟩
  · intro ref h g a parsed kind
    have data {t : State} (same : dataReport ref h g.toNat a s = t) : answers t :=
      taken ((takeReport_of_data parsed s).trans same)
    have input : dataInput ref g.toNat a = kind := by cases a <;> rfl
    refine ⟨fun x f record => ?_, fun x f p d record => ?_, fun inactive unoffered => ?_⟩
    · exact data (input ▸ dataReport_of_active record _ _ _)
    · exact data (input ▸ dataReport_of_offering record _ _ _)
    · exact data (dataReport_of_untracked inactive unoffered _ _ _)
  · intro ref n o parsed outside listed
    have none : windowForUngranted s n o = none := by
      refine windowForUngranted_eq_none fun w window opened belongs => ?_
      obtain ⟨unnamed, beyond⟩ := outside w window opened
      rcases belongs with named | ⟨q, b, good, inside⟩
      · exact unnamed named
      · exact Bool.false_ne_true ((beyond q b good).symm.trans inside)
    have quiet (isListed : listed) {t : State} (same : quietReport ref o s = t) : answers t :=
      taken ((takeReport_of_ungranted parsed s).trans ((ungrantedReport_of_listed none isListed ref).trans same))
    refine ⟨fun unlisted => ?_, ?_, ?_, ?_⟩
    · exact taken ((takeReport_of_ungranted parsed s).trans (ungrantedReport_of_unlisted none unlisted ref))
    · rintro isListed rfl
      exact quiet isListed rfl
    · rintro isListed rfl
      exact quiet isListed rfl
    · rintro isListed q b rfl
      refine ⟨fun check => quiet isListed (quietReport_of_uncorrectable check ref q s), ?_⟩
      intro c counted read f
      exact ⟨fun stray => quiet isListed (quietReport_of_stray read stray ref q),
        fun other good => quiet isListed (quietReport_of_other read other good ref q)⟩

end Sys2Proof.Proofs
end

section
/-! Reports of issued grants and their expiry (R82, R83, R90, R91, R92). -/

namespace Sys2Proof.Machine

variable {s : State} {e : DirectedGrant} {k : DirectedKind} {h : Handle} {ref : TreeCycle} {o : BurstOutcome}
  {sel : DirectedGrant → Bool} {b c : HeaderBlock} {q : BitVec 28} {counted : State → State} {taker : VerifyTaker}

/-! ### The entry answered -/

theorem directedReport_of_issued (issued : s.classifier.issued.find? (isEntry k h ref) = some e) (o : BurstOutcome) :
    directedReport k ref h o s = answerEntry e o (dropEntry (isEntry k h ref) s) := by
  simp [directedReport, issued]

/-- The entries of a grant whose span's removal has come (R82, R56). -/
def expiredEntry (k : DirectedKind) (h : Handle) (ref : TreeCycle) (s : State) (e : DirectedGrant) : Bool :=
  isEntry k h ref e && entryExpired s e

theorem exec_issuedGrantExpiry (run : running s = true) (k : DirectedKind) (h : Handle) (ref : TreeCycle) :
    exec (.issuedGrantExpiry k h ref) s = .next (serveExpiry k h ref s) :=
  congrArg Host.Outcome.next (if_pos run)

theorem serveExpiry_of_expired (expired : s.classifier.issued.find? (expiredEntry k h ref s) = some e) :
    serveExpiry k h ref s = answerEntry e .noBurst (dropEntry (expiredEntry k h ref s) s) := by
  unfold expiredEntry at expired ⊢
  simp [serveExpiry, expired]

theorem serveExpiry_of_unexpired (unexpired : s.classifier.issued.find? (expiredEntry k h ref s) = none) :
    serveExpiry k h ref s = s := by
  unfold expiredEntry at unexpired
  simp [serveExpiry, unexpired]

/-- The entry found is of the grant asked for. -/
theorem isEntry_of_find {l : List DirectedGrant} (found : l.find? (isEntry k h ref) = some e) :
    e.kind = k ∧ e.handle = h ∧ e.cycle = ref :=
  (isEntry_iff k h ref e).1 (List.find?_some found)

theorem isEntry_of_find_expired {l : List DirectedGrant} (found : l.find? (expiredEntry k h ref s) = some e) :
    e.kind = k ∧ e.handle = h ∧ e.cycle = ref :=
  (isEntry_iff k h ref e).1 (Bool.and_elim_left (List.find?_some (p := expiredEntry k h ref s) found))

theorem answerEntry_of_range (kind : e.kind = .range) (o : BurstOutcome) (s : State) :
    answerEntry e o s = rangeReport e o s := by
  simp [answerEntry, kind]

theorem answerEntry_of_verify (kind : e.kind = .verify) (o : BurstOutcome) (s : State) :
    answerEntry e o s = verifyReport e o s := by
  simp [answerEntry, kind]

/-! ### RANGE (R90) -/

theorem rangeReport_of_uncorrectable (check : checkHeader b = .uncorrectable) (e : DirectedGrant) (q : BitVec 28)
    (s : State) : rangeReport e (.good q b) s =
      handRange e (.noSample .header) (offerCapture e.cycle .range q (bump .headersUncorrectable s)) := by
  simp [rangeReport, takeHeader_of_uncorrectable check]

theorem rangeReport_of_other (read : HeaderRead b c counted) (other : (headerFields c).identity ≠ e.identity) (q : BitVec 28)
    (s : State) : rangeReport e (.good q b) s =
      handRange e (.noSample .wrongTerminal) (bump .wrongTerminal (counted s)) := by
  simp [rangeReport, takeHeader_of_read read, other]

theorem rangeReport_of_inside (read : HeaderRead b c counted) (same : (headerFields c).identity = e.identity)
    (inside : insideSpan e q = true) (s : State) :
    rangeReport e (.good q b) s = handRange e (.arrival q.toNat) (counted s) := by
  simp [rangeReport, takeHeader_of_read read, same, inside]

theorem rangeReport_of_outside (read : HeaderRead b c counted) (same : (headerFields c).identity = e.identity)
    (outside : insideSpan e q = false) (s : State) : rangeReport e (.good q b) s =
      handRange e (.noSample .offSpan) (bump .strayReports (counted s)) := by
  simp [rangeReport, takeHeader_of_read read, same, outside]

/-! ### VERIFY (R92) -/

theorem verifyTaker_of_arriving {delay : Nat} {p : Channel} {d : LocalCount} {retry : Option LocalCount}
    (record : recordAt s e.handle = .arriving e.identity delay p d retry) : verifyTaker s e = some .handover := by
  simp [verifyTaker, record]

theorem verifyTaker_of_active {t : Tracking} (record : recordAt s e.handle = .active e.identity t) :
    verifyTaker s e = some (.tracker .active) := by
  simp [verifyTaker, record]

theorem verifyTaker_of_offering {t : Tracking} {p : Channel} {d : LocalCount}
    (record : recordAt s e.handle = .offering e.identity t p d) : verifyTaker s e = some (.tracker .offering) := by
  simp [verifyTaker, record]

/-- A record that neither tracks the grant's terminal nor awaits it takes no VERIFY report. -/
theorem verifyTaker_eq_none
    (notArriving : ∀ delay p d retry, recordAt s e.handle ≠ .arriving e.identity delay p d retry)
    (notActive : ∀ t, recordAt s e.handle ≠ .active e.identity t)
    (notOffering : ∀ t p d, recordAt s e.handle ≠ .offering e.identity t p d) : verifyTaker s e = none := by
  unfold verifyTaker
  cases record : recordAt s e.handle with
  | arriving x delay p d retry =>
    exact if_neg fun (same : x = e.identity) => notArriving delay p d retry (same ▸ record)
  | active x t => exact if_neg fun (same : x = e.identity) => notActive t (same ▸ record)
  | offering x t p d => exact if_neg fun (same : x = e.identity) => notOffering t p d (same ▸ record)
  | _ => rfl

theorem verifyReport_of_no_taker (none : verifyTaker s e = none) (o : BurstOutcome) : verifyReport e o s = s := by
  simp [verifyReport, none]

theorem verifyReport_of_missing (takes : verifyTaker s e = some taker) (missing : o = .noBurst ∨ o = .undecoded) :
    verifyReport e o s = handMissing e taker s := by
  rcases missing with rfl | rfl <;> simp [verifyReport, takes]

/-- Without a burst an ARRIVING record, as one not concerned, leaves nothing to do (R92). -/
theorem verifyReport_of_untracked (notActive : ∀ t, recordAt s e.handle ≠ .active e.identity t)
    (notOffering : ∀ t p d, recordAt s e.handle ≠ .offering e.identity t p d) : verifyReport e .noBurst s = s := by
  by_cases arriving : ∃ delay p d retry, recordAt s e.handle = .arriving e.identity delay p d retry
  · obtain ⟨delay, p, d, retry, record⟩ := arriving
    exact verifyReport_of_missing (verifyTaker_of_arriving record) (.inl rfl)
  · simp only [not_exists] at arriving
    exact verifyReport_of_no_taker (verifyTaker_eq_none arriving notActive notOffering) .noBurst

theorem verifyReport_of_uncorrectable (takes : verifyTaker s e = some taker) (check : checkHeader b = .uncorrectable)
    (q : BitVec 28) : verifyReport e (.good q b) s =
      offerCapture e.cycle .verify q (bump .headersUncorrectable s) := by
  simp [verifyReport, takes, takeHeader_of_uncorrectable check]

theorem verifyReport_of_other (takes : verifyTaker s e = some taker) (read : HeaderRead b c counted)
    (other : (headerFields c).identity ≠ e.identity) (q : BitVec 28) :
    verifyReport e (.good q b) s = bump .wrongTerminal (counted s) := by
  simp [verifyReport, takes, takeHeader_of_read read, other]

theorem verifyReport_of_inside (takes : verifyTaker s e = some taker) (read : HeaderRead b c counted)
    (same : (headerFields c).identity = e.identity) (inside : insideSpan e q = true) :
    verifyReport e (.good q b) s = handVerify e q.toNat taker (counted s) := by
  simp [verifyReport, takes, takeHeader_of_read read, same, inside]

theorem verifyReport_of_outside (takes : verifyTaker s e = some taker) (read : HeaderRead b c counted)
    (same : (headerFields c).identity = e.identity) (outside : insideSpan e q = false) :
    verifyReport e (.good q b) s = handVerify e q.toNat taker (bump .strayReports (counted s)) := by
  simp [verifyReport, takes, takeHeader_of_read read, same, outside]

end Sys2Proof.Machine

namespace Sys2Proof.Proofs
open Sys2Proof.Machine

/-- Settles O37: the entry found leaves the table and is answered by its kind; a VERIFY report by the taker that the record makes
(`verifyTaker`). -/
theorem directedReports : Obligations.DirectedReports := by
  refine ⟨fun ref kind q s => ⟨fun armed => offerCapture_of_armed armed ref kind q,
    fun taken => offerCapture_of_taken taken ref kind q⟩, ?_⟩
  intro k ref h o r e s run parsed isOne found t answers inSpan
  obtain ⟨rfl, rfl, rfl⟩ := isEntry_of_find found
  have answered {u : State} (same : answerEntry e o t = u) : answers u := by
    rw [← same]
    exact (exec_burstReport run r).trans
      (congrArg Host.Outcome.next ((takeReport_of_directed parsed s).trans (directedReport_of_issued found o)))
  refine ⟨?_, ?_, ?_⟩
  · intro kind result
    have ranged {u : State} (same : rangeReport e o t = u) : answers u :=
      answered ((answerEntry_of_range kind o t).trans same)
    refine ⟨?_, ?_, ?_⟩
    · rintro rfl
      exact ranged rfl
    · rintro rfl
      exact ranged rfl
    rintro q b rfl
    exact ⟨fun check => ranged (rangeReport_of_uncorrectable check e q t), fun c counted read =>
      ⟨fun other => ranged (rangeReport_of_other read other q t),
        fun same inside => ranged (rangeReport_of_inside read same inside t),
        fun same outside => ranged (rangeReport_of_outside read same outside t)⟩⟩
  · intro kind missing burst takers
    have verified {u : State} (same : verifyReport e o t = u) : answers u :=
      answered ((answerEntry_of_verify kind o t).trans same)
    obtain ⟨taker, takes, rfl, bursts⟩ : ∃ taker, verifyTaker t e = some taker ∧ missing = handMissing e taker ∧
        ∀ q b, o = .good q b → burst = handVerify e q.toNat taker := by
      rcases takers with ⟨⟨delay, p, d, retry, record⟩, rfl, bursts⟩ |
        ⟨found, ⟨rfl, f, record⟩ | ⟨rfl, f, p, d, record⟩, rfl, bursts⟩
      · exact ⟨.handover, verifyTaker_of_arriving (s := t) record, rfl, bursts⟩
      · exact ⟨.tracker .active, verifyTaker_of_active (s := t) record, rfl, bursts⟩
      · exact ⟨.tracker .offering, verifyTaker_of_offering (s := t) record, rfl, bursts⟩
    refine ⟨fun none => verified (verifyReport_of_missing takes none), ?_⟩
    rintro q b rfl
    obtain rfl := bursts q b rfl
    exact ⟨fun check => verified (verifyReport_of_uncorrectable takes check q), fun c counted read =>
      ⟨fun other => verified (verifyReport_of_other takes read other q),
        fun same inside => verified (verifyReport_of_inside takes read same inside),
        fun same outside => verified (verifyReport_of_outside takes read same outside)⟩⟩
  · intro kind notArriving notActive notOffering
    exact answered ((answerEntry_of_verify kind o t).trans
      (verifyReport_of_no_taker (verifyTaker_eq_none (s := t) notArriving notActive notOffering) o))

/-- Settles O17: an entry whose span's removal has come leaves the table and is answered as by a NO-BURST report. -/
theorem issuedGrantExpiries : Obligations.IssuedGrantExpiries := by
  intro k h ref s run sel gone
  refine ⟨fun e found => ?_, fun unexpired => ?_⟩
  · obtain ⟨rfl, rfl, rfl⟩ := isEntry_of_find_expired (s := s) found
    have answered {u : State} (same : answerEntry e .noBurst gone = u) :
        exec (.issuedGrantExpiry e.kind e.handle e.cycle) s = .next u := by
      rw [exec_issuedGrantExpiry run, serveExpiry_of_expired found]
      exact congrArg Host.Outcome.next same
    have verified {u : State} (kind : e.kind = .verify) (same : verifyReport e .noBurst gone = u) :=
      answered ((answerEntry_of_verify kind .noBurst gone).trans same)
    refine ⟨fun kind => ?_, ?_, ?_, ?_⟩
    · exact answered (answerEntry_of_range kind .noBurst gone)
    · rintro kind ⟨f, record⟩
      exact verified kind (verifyReport_of_missing (verifyTaker_of_active (s := gone) record) (.inl rfl))
    · rintro kind ⟨f, p, d, record⟩
      exact verified kind (verifyReport_of_missing (verifyTaker_of_offering (s := gone) record) (.inl rfl))
    · intro kind notActive notOffering
      exact verified kind (verifyReport_of_untracked (s := gone) notActive notOffering)
  · rw [exec_issuedGrantExpiry run, serveExpiry_of_unexpired unexpired]

end Sys2Proof.Proofs
end

section
/-! RANGE results: the slot's answer and the outcome handed (R102 to R107). -/

namespace Sys2Proof.Machine

variable {s : State} {r : RangeResult} {y : Identity} {f : RangingFields} {c : Configuration} {attempts : Nat}
  {old samples : List Int} {q1 q2 : Int}

/-! ### The result taken -/

theorem exec_rangeAttemptResult (run : running s = true) (r : RangeResult) :
    exec (.rangeAttemptResult r) s = .next (takeRangeResult r (takeEvent (.rangeResult r) s)) :=
  congrArg Host.Outcome.next (if_pos run)

theorem takeRangeResult_of_not_awaited (dropped : slotAt s r.handle ≠ .out r.identity r.cycle r.offset) :
    takeRangeResult r s = s :=
  if_neg dropped

theorem takeRangeResult_of_awaited (awaited : slotAt s r.handle = .out r.identity r.cycle r.offset) :
    takeRangeResult r s =
      hand (.outcome r.handle r.identity (rangingOutcome s.host.config (attemptFields (recordAt s r.handle)).2
        (attemptFields (recordAt s r.handle)).1 (sampleOfAnswer r.offset r.answer)))
        (setSlot r.handle (.answered r.identity) s) :=
  if_pos awaited

/-- The outcome is decided by the attempts and the samples that the record holds as the result is taken (R104, R107). -/
theorem takeRangeResult_of_ranging (awaited : slotAt s r.handle = .out r.identity r.cycle r.offset)
    (found : recordAt s r.handle = .ranging y f) :
    takeRangeResult r s =
      hand (.outcome r.handle r.identity
        (rangingOutcome s.host.config f.attempts f.samples (sampleOfAnswer r.offset r.answer)))
        (setSlot r.handle (.answered r.identity) s) := by
  rw [takeRangeResult_of_awaited awaited, found, attemptFields]

/-! ### The outcome decided -/

theorem outcomeWithoutAgreement_of_attempt_left (left : attempts < 4) :
    outcomeWithoutAgreement attempts samples = .proceed samples attempts :=
  if_pos left

theorem outcomeWithoutAgreement_of_no_sample (last : 4 ≤ attempts) (empty : samples = []) :
    outcomeWithoutAgreement attempts samples = .failure .noResponse := by
  simp [outcomeWithoutAgreement, last.not_gt, empty]

theorem outcomeWithoutAgreement_of_samples (last : 4 ≤ attempts) (nonempty : samples ≠ []) :
    outcomeWithoutAgreement attempts samples = .failure .noAgreement := by
  simp [outcomeWithoutAgreement, last.not_gt, nonempty]

/-- The difference, taken as a magnitude, is within the tolerance (R105). -/
theorem agrees_iff (c : Configuration) (q1 q2 : Int) :
    agrees c q1 q2 = true ↔ q2 - q1 ≤ 4 * c.rangingTolerance ∧ q1 - q2 ≤ 4 * c.rangingTolerance := by
  rw [agrees, decide_eq_true_iff]
  omega

theorem rangingOutcome_of_noSample : rangingOutcome c attempts old none = outcomeWithoutAgreement attempts old := rfl

/-- A first sample, or one that disagrees with the one before it, joins the list without agreement (R105, R107). -/
theorem rangingOutcome_of_no_agreement (differs : ∀ q1, old.getLast? = some q1 → ¬ agrees c q1 q2 = true) :
    rangingOutcome c attempts old (some q2) = outcomeWithoutAgreement attempts (old ++ [q2]) := by
  cases before : old.getLast? with
  | none => simp only [rangingOutcome, before]
  | some q1 => simp only [rangingOutcome, before, if_neg (differs q1 before)]

/-- Agreement is tested before the count: the launch delay alone decides (R106, R107). -/
theorem rangingOutcome_of_agreement (before : old.getLast? = some q1) (agree : agrees c q1 q2 = true) :
    rangingOutcome c attempts old (some q2) =
      if 0 ≤ launchDelayOf c q1 q2 then .agreement (old ++ [q2]) (launchDelayOf c q1 q2).toNat
      else .failure .beyondReach := by
  simp only [rangingOutcome, before, if_pos agree]

end Sys2Proof.Machine

namespace Sys2Proof.Proofs
open Sys2Proof.Machine

/-- Settles O41: the slot's test of `takeRangeResult`, then the rows of R107 (`rangingOutcome`): a cause of no sample, a sample that
agrees with none before it, and one that agrees with the last. -/
theorem rangeResultOutcomes : Obligations.RangeResultOutcomes := by
  intro r s run s'
  have taken {u : State} (same : takeRangeResult r s' = u) : exec (.rangeAttemptResult r) s = .next u :=
    (exec_rangeAttemptResult run r).trans (congrArg Host.Outcome.next same)
  refine ⟨fun dropped => taken (takeRangeResult_of_not_awaited (s := s') dropped),
    fun awaited => ⟨_, taken (takeRangeResult_of_awaited (s := s') awaited)⟩, fun awaited y f found => ?_⟩
  intro gives
  have decided {o : RangingOutcome}
      (same : rangingOutcome s.host.config f.attempts f.samples (sampleOfAnswer r.offset r.answer) = o) : gives o := by
    subst same
    exact taken (takeRangeResult_of_ranging (s := s') awaited found)
  refine ⟨fun cause answer => ?_, fun q answer => ?_⟩ <;> rw [answer, sampleOfAnswer] at decided
  · rw [rangingOutcome_of_noSample] at decided
    exact ⟨fun left => decided (outcomeWithoutAgreement_of_attempt_left left),
      fun last empty => decided (outcomeWithoutAgreement_of_no_sample last empty),
      fun last nonempty => decided (outcomeWithoutAgreement_of_samples last nonempty)⟩
  intro q2 agree
  refine ⟨fun differs => ?_, fun q1 before agreed => ?_⟩
  · have alone := rangingOutcome_of_no_agreement (attempts := f.attempts) fun q1 before =>
      (agrees_iff s.host.config q1 q2).not.2 (differs q1 before)
    exact ⟨fun left => decided (alone.trans (outcomeWithoutAgreement_of_attempt_left left)),
      fun last => decided (alone.trans (outcomeWithoutAgreement_of_samples last (by simp)))⟩
  · intro loop delay
    have pair := rangingOutcome_of_agreement (attempts := f.attempts) before ((agrees_iff s.host.config q1 q2).2 agreed)
    exact ⟨fun reached => decided (pair.trans (if_pos reached)),
      fun beyond => decided (pair.trans (if_neg beyond.not_ge))⟩

end Sys2Proof.Proofs
end

section
/-! The delay tracker's inputs: taken in the order they reach it, each with the result before it applied (R111), discarded (R113), or
answered by a result (R112, R115 to R118). -/

namespace Sys2Proof.Machine

variable {s : State} {h : Handle} {x : Identity} {i j : TrackerInput} {f : Tracking} {c : Configuration} {time : Timebase}
  {grant : TreeCycle} {m q : Nat} {e drift : Int}

/-! ### The hand-offs play no part in applying a result -/

/-- The state with other hand-offs waiting. -/
def withHanded (handed : List Handoff) (s : State) : State :=
  { s with handed := handed }

section
variable (l : List Handoff)

@[simp] theorem recordAt_withHanded (s : State) (g : Handle) : recordAt (withHanded l s) g = recordAt s g := rfl

@[simp] theorem now_withHanded (s : State) : now (withHanded l s) = now s := rfl

@[simp] theorem backlogRoom_withHanded (s : State) : backlogRoom (withHanded l s) = backlogRoom s := rfl

@[simp] theorem setRecord_withHanded (h : Handle) (r : Record) (s : State) :
    setRecord h r (withHanded l s) = withHanded l (setRecord h r s) := rfl

@[simp] theorem raise_withHanded (e : Event) (s : State) : raise e (withHanded l s) = withHanded l (raise e s) := rfl

@[simp] theorem setTracking_withHanded (h : Handle) (f : Tracking) (s : State) :
    setTracking h f (withHanded l s) = withHanded l (setTracking h f s) := rfl

@[simp] theorem makeLost_withHanded (h : Handle) (x : Identity) (delay : Nat) (good : LocalCount) (s : State) :
    makeLost h x delay good (withHanded l s) = withHanded l (makeLost h x delay good s) := rfl

@[simp] theorem queueNotice_withHanded (n : Notice) (s : State) :
    queueNotice n (withHanded l s) = withHanded l (queueNotice n s) := by
  simp only [queueNotice, apply_ite (withHanded l)]
  rfl

@[simp] theorem queueMessage_withHanded (m : Message) (tag : Option Identity) (s : State) :
    queueMessage m tag (withHanded l s) = withHanded l (queueMessage m tag s) := by
  simp only [queueMessage, apply_ite (withHanded l)]
  rfl

@[simp] theorem withdrawRequest_withHanded (h : Handle) (s : State) :
    withdrawRequest h (withHanded l s) = withHanded l (withdrawRequest h s) := by
  simp only [withdrawRequest, apply_ite (withHanded l)]
  rfl

@[simp] theorem declareLost_withHanded (h : Handle) (s : State) :
    declareLost h (withHanded l s) = withHanded l (declareLost h s) := by
  unfold declareLost
  cases found : recordAt s h <;> simp [found]

@[simp] theorem failRanging_withHanded (h : Handle) (reason : RangingFailure) (s : State) :
    failRanging h reason (withHanded l s) = withHanded l (failRanging h reason s) := by
  unfold failRanging
  cases found : recordAt s h with
  | ranging y r => cases origin : r.origin <;> simp [found, origin, dropAndRelease, queueDrop, freeRecord]
  | _ => simp [found]

theorem queueAssign_withHanded {event : State → State} (along : ∀ t, event (withHanded l t) = withHanded l (event t))
    (h : Handle) (x : Identity) (s : State) :
    queueAssign h x event (withHanded l s) = withHanded l (queueAssign h x event s) := by
  simp only [queueAssign, queueMessage_withHanded, along, failRanging_withHanded, backlogRoom_withHanded,
    apply_ite (withHanded l)]

@[simp] theorem enterReranging_withHanded (h : Handle) (cause : RerangeCause) (s : State) :
    enterReranging h cause (withHanded l s) = withHanded l (enterReranging h cause s) := by
  have assigned (y : Identity) := queueAssign_withHanded l (event := raise (.rerange h y cause.detail)) (fun _ => rfl) h y
  unfold enterReranging
  cases found : recordAt s h <;> simp [found, rerangeWith, assigned]

theorem applyCorrection_withHanded (h : Handle) (x : Identity) (f : Tracking) (k : Correction) (s : State) :
    applyCorrection h x f k (withHanded l s) = withHanded l (applyCorrection h x f k s) := by
  simp only [applyCorrection, setTracking_withHanded, queueMessage_withHanded, backlogRoom_withHanded, apply_ite (withHanded l)]

theorem raiseLimit_withHanded (h : Handle) (x : Identity) (was : Bool) (k : Correction) (s : State) :
    raiseLimit h x was k (withHanded l s) = withHanded l (raiseLimit h x was k s) := by
  unfold raiseLimit
  split
  · rw [raise_withHanded, apply_ite (withHanded l)]
  · rfl

theorem applyTracked_withHanded (h : Handle) (x : Identity) (f : Tracking) (r : TrackerResult) (s : State) :
    applyTracked h x f r (withHanded l s) = withHanded l (applyTracked h x f r s) := by
  cases r with
  | missing run => rfl
  | lost => exact declareLost_withHanded l h s
  | misaligned => rfl
  | rerange => exact enterReranging_withHanded l h _ s
  | aligned drift good correction =>
    cases correction with
    | none => rfl
    | some k => rw [applyTracked, applyTracked, applyCorrection_withHanded, raiseLimit_withHanded]

theorem takeTracked_withHanded (h : Handle) (x : Identity) (found : TrackedState) (r : TrackerResult) (s : State) :
    takeTracked h x found r (withHanded l s) = withHanded l (takeTracked h x found r s) := by
  unfold takeTracked
  rw [recordAt_withHanded]
  split
  case h_1 y f record => rw [applyTracked_withHanded, apply_ite (withHanded l)]
  case h_2 y f p d record => rw [applyTracked_withHanded, apply_ite (withHanded l)]
  case h_3 => rfl

theorem takeTracked_handed (h : Handle) (x : Identity) (found : TrackedState) (r : TrackerResult) (s : State) :
    (takeTracked h x found r s).handed = s.handed := by
  have same : takeTracked h x found r s = withHanded s.handed (takeTracked h x found r s) :=
    takeTracked_withHanded s.handed h x found r s
  have kept := congrArg State.handed same
  exact kept
end

/-! ### The waiting result, and the inputs that wait beside it -/

theorem inputFor_eq_some {y : Handoff} : inputFor h y = some i ↔ y = .trackerInput i ∧ i.handle = h := by
  cases y with
  | trackerInput k =>
    simp only [inputFor, Option.ite_none_right_eq_some, Option.some.injEq, Handoff.trackerInput.injEq]
    exact ⟨fun ⟨own, same⟩ => ⟨same, same ▸ own⟩, fun ⟨same, own⟩ => ⟨same ▸ own, same⟩⟩
  | _ => simp [inputFor]

/-- A hand-off that `sel` does not select plays no part in what `sel` takes. -/
theorem takeHanded_takeEvent {α : Type} {sel : Handoff → Option α} {y : Handoff} (unread : sel y = none) (s : State) :
    takeHanded sel (takeEvent y s) = (takeHanded sel s).map (Prod.map id (takeEvent y)) := by
  have first : (s.handed.erase y).findSome? sel = s.handed.findSome? sel := by
    rw [← List.head?_filterMap, ← List.head?_filterMap, filterMap_erase_of_none unread]
  have left : (s.handed.erase y).eraseP (fun z => (sel z).isSome) = (s.handed.eraseP fun z => (sel z).isSome).erase y := by
    rw [List.erase_eq_eraseP', List.erase_eq_eraseP']
    refine List.eraseP_comm fun z _ => ?_
    by_cases same : z = y
    · exact .inr (by simp [same, unread])
    · exact .inl (by simpa using same)
  simp only [takeHanded, takeEvent_handed, first, left, Option.map_map]
  rfl

/-- A result taken, and an input that waits beside it taken, in either order. -/
theorem takeTrackedFor_takeEvent (h : Handle) (i : TrackerInput) (s : State) :
    takeTrackedFor h (takeEvent (.trackerInput i) s) = takeEvent (.trackerInput i) (takeTrackedFor h s) := by
  unfold takeTrackedFor
  rw [takeHanded_takeEvent rfl]
  cases takeHanded (trackedFor h) s with
  | none => rfl
  | some taken =>
    obtain ⟨⟨x, found, r⟩, t⟩ := taken
    refine (takeTracked_withHanded _ h x found r t).trans ?_
    rw [takeEvent, takeTracked_handed]
    rfl

theorem takeTrackedFor_of_none (none : ∀ x found r, Handoff.tracked h x found r ∉ s.handed) : takeTrackedFor h s = s := by
  rw [takeTrackedFor, takeHanded_eq_none fun y mem => trackedFor_eq_none fun x found r e => none x found r (e ▸ mem)]

theorem inputFor_of_trackedFor {g : Handle} {y : Handoff} (result : (trackedFor h y).isSome = true) : inputFor g y = none := by
  cases y with
  | trackerInput => exact Bool.noConfusion result
  | _ => rfl

/-- Taking a result leaves the inputs that wait. -/
theorem inputs_takeTrackedFor (g h : Handle) (s : State) :
    (takeTrackedFor h s).handed.filterMap (inputFor g) = s.handed.filterMap (inputFor g) := by
  unfold takeTrackedFor
  split
  case h_1 x found r t taken =>
    obtain ⟨-, rfl⟩ := takeHanded_eq_some.1 taken
    rw [takeTracked_handed]
    exact filterMap_eraseP_of_apart (fun _ => inputFor_of_trackedFor) _
  case h_2 => rfl

/-- An input gives a result or nothing; nothing else changes (R111). -/
theorem takeInput_cases (i : TrackerInput) (s : State) :
    takeInput i s = s ∨ ∃ x found r, takeInput i s = hand (.tracked i.handle x found r) s := by
  have handed (found : TrackedState) (x : Identity) (f : Tracking) : handResult i found x f s = s ∨
      ∃ y g r, handResult i found x f s = hand (.tracked i.handle y g r) s := by
    unfold handResult
    split
    · split
      · exact .inr ⟨_, _, _, rfl⟩
      · exact .inl rfl
    · exact .inl rfl
  unfold takeInput
  split
  case h_1 x f record => exact handed _ _ _
  case h_2 x f p d record => exact handed _ _ _
  all_goals exact .inl rfl

theorem inputs_takeInput (g : Handle) (i : TrackerInput) (s : State) :
    (takeInput i s).handed.filterMap (inputFor g) = s.handed.filterMap (inputFor g) := by
  rcases takeInput_cases i s with same | ⟨x, found, r, same⟩ <;> rw [same]
  simp [inputFor]

theorem handle_of_input_waits {xs : List Handoff} (waits : j ∈ xs.filterMap (inputFor h)) : j.handle = h := by
  obtain ⟨y, -, read⟩ := List.mem_filterMap.1 waits
  exact (inputFor_eq_some.1 read).2

/-- The oldest input taken: it alone waits no longer. -/
theorem inputs_takeOneInput {rest : List TrackerInput} (oldest : s.handed.filterMap (inputFor h) = j :: rest) :
    (takeOneInput j s).handed.filterMap (inputFor h) = rest := by
  have own : j.handle = h := handle_of_input_waits (oldest ▸ List.mem_cons_self : j ∈ s.handed.filterMap (inputFor h))
  rw [takeOneInput, inputs_takeInput, inputs_takeTrackedFor]
  refine filterMap_erase_of_oldest (fun y => ?_) oldest
  rw [inputFor_eq_some, and_iff_left own]

/-- The oldest of the older inputs is the oldest of all that wait for the handle. -/
theorem inputs_of_older {rest : List TrackerInput} (older : olderInputs i s = j :: rest) :
    ∃ later, s.handed.filterMap (inputFor i.handle) = j :: later ∧ later.takeWhile (· ≠ i) = rest := by
  unfold olderInputs olderHanded at older
  cases waiting : s.handed.filterMap (inputFor i.handle) with
  | nil => exact nomatch waiting ▸ older
  | cons k later =>
    rw [waiting, List.takeWhile_cons] at older
    split at older
    · obtain ⟨rfl, left⟩ := List.cons.inj older
      exact ⟨later, rfl, left⟩
    · exact nomatch older

/-! ### The row -/

theorem exec_trackerInput (run : running s = true) (i : TrackerInput) :
    exec (.trackerInput i) s = .next (takeInOrder (inputFor i.handle) takeOneInput i s) :=
  congrArg Host.Outcome.next (if_pos run)

theorem exec_trackerInput_of_first (run : running s = true) (first : olderInputs i s = []) :
    exec (.trackerInput i) s = .next (takeOneInput i s) :=
  (exec_trackerInput run i).trans (congrArg Host.Outcome.next (takeInOrder_of_first first))

/-- Where older inputs of the handle wait, the oldest of them is taken first (R111). -/
theorem exec_trackerInput_of_older {rest : List TrackerInput} (run : running s = true) (older : olderInputs i s = j :: rest) :
    exec (.trackerInput j) s = .next (takeOneInput j s) ∧ olderInputs i (takeOneInput j s) = rest ∧
      exec (.trackerInput i) s = exec (.trackerInput i) (takeOneInput j s) := by
  obtain ⟨later, waiting, before⟩ := inputs_of_older older
  have own : j.handle = i.handle :=
    handle_of_input_waits (waiting ▸ List.mem_cons_self : j ∈ s.handed.filterMap (inputFor i.handle))
  have first : olderInputs j s = [] := by
    simp [olderInputs, olderHanded, own, waiting]
  have left : olderInputs i (takeOneInput j s) = rest := by
    rw [olderInputs, olderHanded, inputs_takeOneInput waiting, before]
  have still : running (takeOneInput j s) = true := (running_of_standing_eq (standing_takeOneInput j s)).trans run
  refine ⟨exec_trackerInput_of_first run first, left, ?_⟩
  rw [exec_trackerInput run, exec_trackerInput still, takeInOrder_of_older older left]

/-- A result that waits for the handle is applied before the input is computed (R111, log entry 8). -/
theorem exec_trackerInput_of_applied {t : State} (run : running s = true) (first : olderInputs i s = [])
    (applied : exec (.trackerResultApplied i.handle) s = .next t)
    (none : ∀ x found r, Handoff.tracked i.handle x found r ∉ t.handed) :
    exec (.trackerInput i) s = exec (.trackerInput i) t := by
  obtain rfl : takeTrackedFor i.handle s = t :=
    Host.Outcome.next.inj ((congrArg Host.Outcome.next (if_pos run)).symm.trans applied)
  have still : running (takeTrackedFor i.handle s) = true :=
    (running_of_standing_eq (standing_takeTrackedFor i.handle s)).trans run
  have first' : olderInputs i (takeTrackedFor i.handle s) = [] := by
    rw [olderInputs, olderHanded, inputs_takeTrackedFor]
    exact first
  rw [exec_trackerInput_of_first run first, exec_trackerInput_of_first still first', takeOneInput, takeOneInput,
    takeTrackedFor_takeEvent, takeTrackedFor_takeEvent, takeTrackedFor_of_none none]

/-- With no result waiting, the input is computed against the record as it stands. -/
theorem exec_trackerInput_of_alone (run : running s = true) (first : olderInputs i s = [])
    (none : ∀ x found r, Handoff.tracked i.handle x found r ∉ s.handed) :
    exec (.trackerInput i) s = .next (takeInput i (takeEvent (.trackerInput i) s)) := by
  rw [exec_trackerInput_of_first run first, takeOneInput, takeTrackedFor_takeEvent, takeTrackedFor_of_none none]

theorem takeInput_of_untracked (active : (recordAt s i.handle).state ≠ .active)
    (offering : (recordAt s i.handle).state ≠ .offering) : takeInput i s = s := by
  unfold takeInput
  split
  case h_1 x f record => exact absurd (congrArg Record.state record) active
  case h_2 x f p d record => exact absurd (congrArg Record.state record) offering
  all_goals rfl

theorem Tracks.takeInput {found : TrackedState} {put : Tracking → Record} {withdrawn : State → State}
    (tracks : Tracks x found put withdrawn) (record : recordAt s i.handle = put f) :
    takeInput i s = handResult i found x f s := by
  unfold Machine.takeInput
  rw [record]
  cases tracks <;> rfl

theorem handResult_of_other {found : TrackedState} (other : x ≠ i.identity) : handResult i found x f s = s :=
  if_neg other

theorem handResult_of_none {found : TrackedState} (discarded : trackerResult s.host.config s.time f i.kind = none) :
    handResult i found x f s = s := by
  simp [handResult, discarded]

theorem handResult_of_some {found : TrackedState} {r : TrackerResult} (same : x = i.identity)
    (computed : trackerResult s.host.config s.time f i.kind = some r) :
    handResult i found x f s = hand (.tracked i.handle x found r) s := by
  simp [handResult, same, computed]

/-! ### The result of an input -/

/-- Half the range of the local count decides (R7, R113, log entry 33). -/
theorem beforeEffective_iff (time : Timebase) (grant : TreeCycle) (effective : LocalCount) :
    beforeEffective time grant effective = true ↔
      2 ^ 31 ≤ (time.localCount + BitVec.ofInt 32 (grant - time.treeCycle).toInt - effective).toNat := by
  simp [beforeEffective, reached, localOf, cycleDiff]

theorem isMisaligned_iff (e : Int) : isMisaligned e = true ↔ e < -256 ∨ 256 < e := by
  rw [isMisaligned, decide_eq_true_iff]
  omega

theorem trackerResult_of_pending (pending : f.correctionPending = true) (kind : TrackerInputKind) :
    trackerResult c time f kind = none := by
  cases kind <;> simp [trackerResult, pending]

/-- A grant made before the effective cycle says nothing of the delay the record holds now (R113). -/
theorem trackerResult_missing_of_early (early : beforeEffective time grant f.effective = true) :
    trackerResult c time f (.missing grant) = none := by
  simp [trackerResult, early]

theorem trackerResult_missing_of_below (settled : f.correctionPending = false)
    (valid : beforeEffective time grant f.effective = false) (below : f.missingRun + 1 < c.missingLimit) :
    trackerResult c time f (.missing grant) = some (.missing (f.missingRun + 1)) := by
  simp [trackerResult, settled, valid, below]

theorem trackerResult_missing_of_limit (settled : f.correctionPending = false)
    (valid : beforeEffective time grant f.effective = false) (limit : c.missingLimit ≤ f.missingRun + 1) :
    trackerResult c time f (.missing grant) = some .lost := by
  simp [trackerResult, settled, valid, limit.not_gt]

theorem trackerResult_burst_of_early (early : beforeEffective time grant f.effective = true) :
    trackerResult c time f (.burst grant m q) = none := by
  simp [trackerResult, early]

theorem trackerResult_burst_of_misaligned (settled : f.correctionPending = false)
    (valid : beforeEffective time grant f.effective = false) (far : isMisaligned (trackingError c q m) = true) :
    trackerResult c time f (.burst grant m q) = some (if f.misalignedRun = 0 then .misaligned else .rerange) := by
  simp [trackerResult, settled, valid, far]

theorem trackerResult_burst_of_aligned (settled : f.correctionPending = false)
    (valid : beforeEffective time grant f.effective = false) (near : isMisaligned (trackingError c q m) = false) :
    trackerResult c time f (.burst grant m q) = some (alignedResult c time.localCount f (trackingError c q m)) := by
  simp [trackerResult, settled, valid, near]

theorem trackerResult_entrySample_of_aligned (settled : f.correctionPending = false) (near : isMisaligned e = false) :
    trackerResult c time f (.entrySample e) = some (alignedResult c time.localCount f e) := by
  simp [trackerResult, settled, near]

/-! ### The correction (R118) -/

theorem alignedResult_of_below {count : LocalCount} (sum : f.drift - f.drift / 8 + e = drift)
    (below : drift.natAbs < 32 * c.driftThreshold) : alignedResult c count f e = .aligned drift count none := by
  subst sum
  exact congrArg (TrackerResult.aligned _ count) (if_pos below)

theorem launchBound_eq_toNat (c : Configuration) : launchBound c = ((c.treeLoopTime : Int) - 40000).toNat :=
  (Int.toNat_sub c.treeLoopTime 40000).symm

theorem alignedResult_of_reached {count : LocalCount} {k : Correction} (sum : f.drift - f.drift / 8 + e = drift)
    (reached : 32 * c.driftThreshold ≤ drift.natAbs)
    (clamped : clampDelay ((c.treeLoopTime : Int) - 40000).toNat (f.launchDelay - driftDelta drift) = k) :
    alignedResult c count f e = .aligned drift count (some k) := by
  subst sum clamped
  rw [← launchBound_eq_toNat]
  exact congrArg (TrackerResult.aligned _ count) (if_neg reached.not_gt)

theorem clampDelay_of_negative {bound : Nat} {proposed : Int} (low : proposed < 0) :
    clampDelay bound proposed = ⟨0, some .low⟩ :=
  if_pos low

theorem clampDelay_of_beyond {bound proposed : Int} (real : 0 ≤ bound) (high : bound < proposed) :
    clampDelay bound.toNat proposed = ⟨bound.toNat, some .high⟩ :=
  (if_neg (real.trans_lt high).le.not_gt).trans (if_pos (by omega))

theorem clampDelay_of_within {bound proposed : Int} (positive : 0 ≤ proposed) (within : proposed ≤ bound) :
    clampDelay bound.toNat proposed = ⟨proposed.toNat, none⟩ :=
  (if_neg positive.not_gt).trans (if_neg (by omega))

end Sys2Proof.Machine

namespace Sys2Proof.Proofs
open Sys2Proof.Machine

/-- Settles O43: the inputs of a handle are taken in their order (`exec_trackerInput_of_older`), each with the result before it
applied (`exec_trackerInput_of_applied`); one input alone is discarded or answered by `trackerResult`, for an ACTIVE and an OFFERING
record alike (`Tracks`). -/
theorem trackerInputs : Obligations.TrackerInputs := by
  refine ⟨fun i before after s split first => ?_, fun i s absent => ?_, fun h i y => inputFor_eq_some,
    fun i j rest s run older => ⟨_, exec_trackerInput_of_older run older⟩,
    fun i s t run first applied none => exec_trackerInput_of_applied run first applied none, fun i s run first none => ?_⟩
  · refine olderHanded_of_split split (inputFor_eq_some.2 ⟨rfl, rfl⟩) fun y mem read => ?_
    exact first ((inputFor_eq_some.1 read).1 ▸ mem)
  · refine olderHanded_of_absent fun y mem read => ?_
    exact absent ((inputFor_eq_some.1 read).1 ▸ mem)
  intro s' c
  have taken {u : State} (same : takeInput i s' = u) : exec (.trackerInput i) s = .next u :=
    (exec_trackerInput_of_alone run first none).trans (congrArg Host.Outcome.next same)
  refine ⟨fun active offering => taken (takeInput_of_untracked (s := s') active offering), fun x f found record => ?_⟩
  intro gives early aligned
  have answered : takeInput i s' = handResult i found x f s' := by
    rcases record with ⟨rfl, held⟩ | ⟨rfl, p, d, held⟩
    · exact Tracks.active.takeInput (s := s') held
    · exact (Tracks.offering p d).takeInput (s := s') held
  have discarded (no : trackerResult c s.time f i.kind = .none) : exec (.trackerInput i) s = .next s' :=
    taken (answered.trans (handResult_of_none (s := s') no))
  refine ⟨?_, fun same settled => ?_⟩
  · rintro (other | pending)
    · exact taken (answered.trans (handResult_of_other other))
    · exact discarded (trackerResult_of_pending pending _)
  have computed {r : TrackerResult} (some : trackerResult c s.time f i.kind = .some r) : gives r :=
    taken (answered.trans (handResult_of_some (s := s') same some))
  have before {g : TreeCycle} : early g → beforeEffective s.time g f.effective = true := (beforeEffective_iff ..).2
  have valid {g : TreeCycle} (late : ¬ early g) : beforeEffective s.time g f.effective = false :=
    Bool.eq_false_iff.2 fun b => late ((beforeEffective_iff ..).1 b)
  have near {e : Int} (low : -256 ≤ e) (high : e ≤ 256) : isMisaligned e = false :=
    Bool.eq_false_iff.2 fun far => ((isMisaligned_iff e).1 far).elim low.not_gt high.not_gt
  have corrected {e : Int} (some : trackerResult c s.time f i.kind = .some (alignedResult c s.time.localCount f e)) :
      aligned e := by
    have clamped {k : Correction} (reached) (clamp) :=
      computed (some.trans (congrArg Option.some (alignedResult_of_reached (k := k) rfl reached clamp)))
    exact ⟨fun below => computed (some.trans (congrArg _ (alignedResult_of_below rfl below))),
      fun reached => ⟨fun low => clamped reached (clampDelay_of_negative low),
        fun _ high real => clamped reached (clampDelay_of_beyond real high),
        fun positive within => clamped reached (clampDelay_of_within positive within)⟩⟩
  refine ⟨fun g kind => ?_, fun g m q kind => ?_, fun e kind low high => ?_⟩ <;> rw [kind] at discarded computed corrected
  · exact ⟨fun b => discarded (trackerResult_missing_of_early (before b)),
      fun late below => computed (trackerResult_missing_of_below settled (valid late) below),
      fun late limit => computed (trackerResult_missing_of_limit settled (valid late) limit)⟩
  · intro e
    refine ⟨fun b => discarded (trackerResult_burst_of_early (before b)), fun late far => ?_, fun late low high =>
      corrected (trackerResult_burst_of_aligned settled (valid late) (near low high))⟩
    have misaligned := trackerResult_burst_of_misaligned settled (valid late) ((isMisaligned_iff e).2 far)
    exact ⟨fun first => computed (misaligned.trans (congrArg _ (if_pos first))),
      fun again => computed (misaligned.trans (congrArg _ (if_neg again)))⟩
  · exact corrected (trackerResult_entrySample_of_aligned settled (near low high))

end Sys2Proof.Proofs
end

section
/-! What the operations of a lane receiver write: the receiver, the host port and the hand-offs (R126 to R141). -/

namespace Sys2Proof.Machine

variable {l : LaneNo} {w : LaneWord} {s : State} {v : Lane} {f : FillInfo} {fill : Option FillInfo}

/-! ### The receivers stand -/

@[simp] theorem laneAt_bump (c : Counter) (s : State) (k : LaneNo) : laneAt (bump c s) k = laneAt s k := rfl

@[simp] theorem laneAt_raise (e : Event) (s : State) (k : LaneNo) : laneAt (raise e s) k = laneAt s k := rfl

@[simp] theorem laneAt_attend (c : Condition) (s : State) (k : LaneNo) : laneAt (attend c s) k = laneAt s k := rfl

@[simp] theorem laneAt_hand (x : Handoff) (s : State) (k : LaneNo) : laneAt (hand x s) k = laneAt s k := rfl

@[simp] theorem setLane_setLane (l : LaneNo) (v u : Lane) (s : State) : setLane l v (setLane l u s) = setLane l v s := by
  simp [setLane]

@[simp] theorem setLane_laneAt (l : LaneNo) (s : State) : setLane l (laneAt s l) s = s := by
  simp [setLane, laneAt]

/-! ### A notice in assembly discarded (R140) -/

/-- The host port once a notice in assembly, where there is one, is discarded and counted. -/
def HostPort.discard (assembly : Option Assembly) (hp : HostPort) : HostPort :=
  if assembly.isSome then hp.bump .noticesDiscarded else hp

theorem discardAssembly_eq (l : LaneNo) (s : State) :
    discardAssembly l s = setLane l { laneAt s l with assembly := none }
      (if (laneAt s l).assembly.isSome then bump .noticesDiscarded s else s) := by
  unfold discardAssembly
  split
  case h_1 a held => rw [held]; rfl
  case h_2 empty =>
    rw [if_neg (by simp [empty]), ← empty]
    exact (setLane_laneAt l s).symm

@[simp] theorem discardAssembly_host (l : LaneNo) (s : State) :
    (discardAssembly l s).host = s.host.discard (laneAt s l).assembly := by
  rw [discardAssembly_eq, setLane_host, apply_ite State.host]
  rfl

@[simp] theorem discardAssembly_handed (l : LaneNo) (s : State) : (discardAssembly l s).handed = s.handed := by
  simp [discardAssembly_eq, apply_ite State.handed]

@[simp] theorem discardAssembly_time (l : LaneNo) (s : State) : (discardAssembly l s).time = s.time := by
  simp [discardAssembly_eq, apply_ite State.time]

theorem laneAt_discardAssembly_ne {k : LaneNo} (s : State) (ne : k ≠ l) : laneAt (discardAssembly l s) k = laneAt s k := by
  rw [discardAssembly_eq, laneAt_setLane_ne _ _ ne]
  split <;> rfl

theorem discard_cases (a : Option Assembly) (hp : HostPort) :
    hp.discard a = hp ∨ hp.discard a = hp.bump .noticesDiscarded := by
  cases a with
  | none => exact .inl rfl
  | some a => exact .inr rfl

@[simp] theorem discard_none (hp : HostPort) : hp.discard none = hp := rfl

@[simp] theorem discard_ownChannel (a : Option Assembly) (hp : HostPort) : (hp.discard a).ownChannel = hp.ownChannel := by
  unfold HostPort.discard; split <;> rfl

@[simp] theorem discard_config (a : Option Assembly) (hp : HostPort) : (hp.discard a).config = hp.config := by
  unfold HostPort.discard; split <;> rfl

@[simp] theorem discard_events (a : Option Assembly) (hp : HostPort) : (hp.discard a).events = hp.events := by
  unfold HostPort.discard; split <;> rfl

/-! ### A change of lane state (R139) -/

section
variable (entered : LaneState) (next : Lane → Lane)

@[simp] theorem laneAt_changeLane (l : LaneNo) (s : State) :
    laneAt (changeLane l entered next s) l = next { laneAt s l with state := entered, assembly := none } := by
  simp [changeLane, laneAt_discardAssembly]

@[simp] theorem changeLane_host (l : LaneNo) (s : State) :
    (changeLane l entered next s).host = (s.host.discard (laneAt s l).assembly).raise s.time.treeCycle
      (.laneChange (laneChannel s.host.ownChannel l) (laneAt s l).state entered) := by
  simp [changeLane, laneAt_discardAssembly]

@[simp] theorem changeLane_handed (l : LaneNo) (s : State) : (changeLane l entered next s).handed = s.handed := by
  simp [changeLane]

@[simp] theorem changeLane_time (l : LaneNo) (s : State) : (changeLane l entered next s).time = s.time := by
  simp [changeLane]

theorem changeLane_eq (l : LaneNo) (s : State) :
    changeLane l entered next s = raise (.laneChange (laneChannel s.host.ownChannel l) (laneAt s l).state entered)
      (setLane l (next { laneAt s l with state := entered, assembly := none })
        (if (laneAt s l).assembly.isSome then bump .noticesDiscarded s else s)) := by
  simp only [changeLane, laneAt_discardAssembly]
  rw [discardAssembly_eq, setLane_setLane]
  split <;> rfl

end

end Sys2Proof.Machine
end

section
/-! What the lane state machine makes of a word, one equation for each row of R134 to R138, and what each of its steps leaves. -/

namespace Sys2Proof.Machine

variable {l : LaneNo} {w : LaneWord} {s t u : State} {v : Lane} {f : FillInfo} {fill : Option FillInfo}

/-! ### Good words (R134 to R137) -/

theorem goodStep_of_silent_or_absent (out : (laneAt s l).state = .silent ∨ (laneAt s l).state = .absent) :
    goodStep l fill s = changeLane l .seeking seekingFields s := by
  rcases out with state | state <;> simp [goodStep, state]

theorem goodStep_of_hold_below (hold : (laneAt s l).state = .hold) (below : (laneAt s l).goodCount < 127) :
    goodStep l fill s = setLane l { laneAt s l with goodCount := (laneAt s l).goodCount + 1 } s := by
  simp [goodStep, hold, holdGood, below]

theorem goodStep_of_hold_full (hold : (laneAt s l).state = .hold) (full : 127 ≤ (laneAt s l).goodCount) :
    goodStep l fill s = changeLane l .seeking seekingFields s := by
  have last : ¬ (laneAt s l).goodCount + 1 < 128 := by omega
  simp [goodStep, hold, holdGood, last]

/-- A HEAD or BODY does not move a lane in SEEKING, HEARD or UP. -/
theorem goodStep_of_no_fill
    (hears : (laneAt s l).state = .seeking ∨ (laneAt s l).state = .heard ∨ (laneAt s l).state = .up) :
    goodStep l none s = s := by
  rcases hears with state | state | state <;> simp [goodStep, state]

theorem goodStep_of_seeking_first (seeking : (laneAt s l).state = .seeking) (first : (laneAt s l).fillRun = 0) :
    goodStep l (some f) s = setLane l { laneAt s l with fillRun := 1 } s := by
  simp [goodStep, seeking, seekingFill, first]

theorem goodStep_of_seeking_second (seeking : (laneAt s l).state = .seeking) (second : (laneAt s l).fillRun ≠ 0) :
    goodStep l (some f) s = changeLane l .heard heardFields s := by
  simp [goodStep, seeking, seekingFill, second]

section
variable (up : (laneAt s l).state = .up)
include up

theorem goodStep_of_up_passes (passes : upTest s.host.ownChannel (digest s.host.config) f = true) :
    goodStep l (some f) s = setLane l { laneAt s l with fillRun := 0 } s := by
  simp [goodStep, up, upFill, passes]

theorem goodStep_of_up_fails_first (fails : upTest s.host.ownChannel (digest s.host.config) f = false)
    (first : (laneAt s l).fillRun = 0) : goodStep l (some f) s = setLane l { laneAt s l with fillRun := 1 } s := by
  simp [goodStep, up, upFill, fails, first]

theorem goodStep_of_up_fails_second (fails : upTest s.host.ownChannel (digest s.host.config) f = false)
    (second : (laneAt s l).fillRun ≠ 0) : goodStep l (some f) s = changeLane l .heard heardFields s := by
  simp [goodStep, up, upFill, fails, second]

end

/-! ### FILLs in HEARD (R135) -/

theorem upTest_of_digest_ne {own : Channel} {d : BitVec 4} (differs : f.digest ≠ d) : upTest own d f = false := by
  simp [upTest, differs]

theorem digest_eq_of_upTest {own : Channel} {d : BitVec 4} (passes : upTest own d f = true) : f.digest = d := by
  by_contra differs
  exact Bool.false_ne_true ((upTest_of_digest_ne differs).symm.trans passes)

theorem heardMismatch_of_equal (equal : f.digest = digest s.host.config) :
    heardMismatch l f s = setLane l { laneAt s l with mismatchCount := 0 } s := by
  simp [heardMismatch, equal]

/-- What a FILL of differing digest writes in HEARD: the count, stopping at 2, and the flag at 2. -/
def mismatchFields (v : Lane) : Lane :=
  { v with
    mismatchCount := min 2 (v.mismatchCount + 1)
    mismatchRaised := v.mismatchRaised || min 2 (v.mismatchCount + 1) == 2 }

theorem heardMismatch_of_differs (differs : f.digest ≠ digest s.host.config) :
    heardMismatch l f s =
      if min 2 ((laneAt s l).mismatchCount + 1) = 2 ∧ (laneAt s l).mismatchRaised = false then
        attend .lane (raise (.configMismatch (laneChannel s.host.ownChannel l) (digest s.host.config) f.digest)
          (setLane l (mismatchFields (laneAt s l)) s))
      else setLane l (mismatchFields (laneAt s l)) s :=
  if_neg differs

theorem laneAt_heardMismatch (l : LaneNo) (f : FillInfo) (s : State) :
    laneAt (heardMismatch l f s) l =
      if f.digest = digest s.host.config then { laneAt s l with mismatchCount := 0 } else mismatchFields (laneAt s l) := by
  split
  case isTrue equal => rw [heardMismatch_of_equal equal, laneAt_setLane_self]
  case isFalse differs =>
    rw [heardMismatch_of_differs differs]
    split <;> simp

@[simp] theorem heardMismatch_ownChannel (l : LaneNo) (f : FillInfo) (s : State) :
    (heardMismatch l f s).host.ownChannel = s.host.ownChannel :=
  congrArg Footing.ownChannel (steady_heardMismatch l f s).footing

@[simp] theorem heardMismatch_config (l : LaneNo) (f : FillInfo) (s : State) :
    (heardMismatch l f s).host.config = s.host.config :=
  congrArg Footing.config (steady_heardMismatch l f s).footing

section
variable (heard : (laneAt s l).state = .heard)
include heard

theorem goodStep_of_heard : goodStep l (some f) s = heardUpTest l f (heardMismatch l f s) := by
  simp [goodStep, heard]

theorem goodStep_of_heard_fails (fails : upTest s.host.ownChannel (digest s.host.config) f = false) :
    goodStep l (some f) s =
      setLane l { laneAt (heardMismatch l f s) l with fillRun := 0 } (heardMismatch l f s) := by
  rw [goodStep_of_heard heard]
  unfold heardUpTest
  rw [heardMismatch_ownChannel, heardMismatch_config, fails]
  rfl

/-- A FILL that passes has the digest of this part, so it sets the mismatch count back. -/
theorem goodStep_of_heard_passes_first (passes : upTest s.host.ownChannel (digest s.host.config) f = true)
    (first : (laneAt s l).fillRun = 0) :
    goodStep l (some f) s = setLane l { laneAt s l with mismatchCount := 0, fillRun := 1 } s := by
  rw [goodStep_of_heard heard, heardMismatch_of_equal (digest_eq_of_upTest passes)]
  simp [heardUpTest, passes, first]

theorem goodStep_of_heard_passes_second (passes : upTest s.host.ownChannel (digest s.host.config) f = true)
    (second : (laneAt s l).fillRun ≠ 0) :
    goodStep l (some f) s = changeLane l .up upFields (setLane l { laneAt s l with mismatchCount := 0 } s) := by
  rw [goodStep_of_heard heard, heardMismatch_of_equal (digest_eq_of_upTest passes)]
  simp [heardUpTest, passes, second]

end

/-! ### Bad words, and silence (R134 to R138) -/

theorem badStep_of_silent_or_absent (out : (laneAt s l).state = .silent ∨ (laneAt s l).state = .absent) :
    badStep l s = s := by
  rcases out with state | state <;> simp [badStep, state]

theorem badStep_of_hold (hold : (laneAt s l).state = .hold) : badStep l s = setLane l { laneAt s l with goodCount := 0 } s := by
  simp [badStep, hold]

section
variable (hears : (laneAt s l).state = .seeking ∨ (laneAt s l).state = .heard ∨ (laneAt s l).state = .up)
include hears

theorem badStep_of_first (first : (laneAt s l).badRun = false) :
    badStep l s = setLane l { laneAt s l with badRun := true, fillRun := 0, mismatchCount := 0 } s := by
  rcases hears with state | state | state <;> simp [badStep, state, badRunStep, first]

theorem badStep_of_second (second : (laneAt s l).badRun = true) :
    badStep l s = attend .lane (changeLane l .hold holdFields s) := by
  rcases hears with state | state | state <;> simp [badStep, state, badRunStep, second]

end

theorem countSilence_of_silent_or_absent (out : (laneAt s l).state = .silent ∨ (laneAt s l).state = .absent) :
    countSilence l s = s := by
  rcases out with state | state <;> simp [countSilence, state]

theorem takeSilence_of_silent_or_absent (out : (laneAt s l).state = .silent ∨ (laneAt s l).state = .absent) :
    takeSilence l s = s := by
  rcases out with state | state <;> simp [takeSilence, state]

section
variable (silent : (laneAt s l).state ≠ .silent) (absent : (laneAt s l).state ≠ .absent)
include silent absent

theorem countSilence_of_below (below : (laneAt s l).silence + 1 < 64) :
    countSilence l s = setLane l { laneAt s l with silence := (laneAt s l).silence + 1 } s := by
  cases state : (laneAt s l).state <;> simp_all [countSilence]

/-- The 64th word time without a good word (R138). -/
theorem countSilence_of_reached (reached : 64 ≤ (laneAt s l).silence + 1) : countSilence l s = goSilent l s := by
  cases state : (laneAt s l).state <;> simp_all [countSilence, reached.not_gt]

theorem takeSilence_of_awake : takeSilence l s = goSilent l s := by
  cases state : (laneAt s l).state <;> simp_all [takeSilence]

end

/-! ### The absence deadline (R134) -/

theorem serveAbsence_of_due {d : LocalCount} (silent : (laneAt s l).state = .silent) (set : (laneAt s l).absence = some d)
    (reached : due s d = true) : serveAbsence l s = changeLane l .absent (fun v => { v with absence := none }) s := by
  simp [serveAbsence, silent, set, reached]

theorem serveAbsence_of_not_due
    (idle : (laneAt s l).state = .silent → ∀ d, (laneAt s l).absence = some d → due s d = false) :
    serveAbsence l s = s := by
  unfold serveAbsence
  split
  case h_1 d silent set => simp [idle silent d set]
  all_goals rfl

/-! ### The counters of the host port (R186) -/

theorem counters_bump_self (c : Counter) (hp : HostPort) :
    (hp.bump c).counters[c.index] = countUp hp.counters[c.index] := by
  simp [HostPort.bump]

theorem counters_bump_ne {c : Counter} {i : Fin 18} (other : i ≠ c.index) (hp : HostPort) :
    (hp.bump c).counters[i] = hp.counters[i] := by
  simp only [HostPort.bump, Fin.getElem_fin]
  exact Vector.getElem_set_ne _ _ fun same => other (Fin.ext same.symm)

/-- An event raised moves no counter but that of the events lost (R184). -/
theorem counters_raise {i : Fin 18} (other : i ≠ Counter.eventsLost.index) (cycle : TreeCycle) (e : Event) (hp : HostPort) :
    (hp.raise cycle e).counters[i] = hp.counters[i] := by
  unfold HostPort.raise
  split
  · rfl
  · split
    · rfl
    · exact counters_bump_ne other hp

theorem counters_discard_ne {i : Fin 18} (other : i ≠ Counter.noticesDiscarded.index) (a : Option Assembly) (hp : HostPort) :
    (hp.discard a).counters[i] = hp.counters[i] := by
  unfold HostPort.discard
  split
  · exact counters_bump_ne other hp
  · rfl

theorem counters_discard_self (a : Option Assembly) (hp : HostPort) :
    (hp.discard a).counters[Counter.noticesDiscarded.index] =
      if a.isSome then countUp hp.counters[Counter.noticesDiscarded.index]
      else hp.counters[Counter.noticesDiscarded.index] := by
  unfold HostPort.discard
  split
  · exact counters_bump_self _ hp
  · rfl

theorem badWords_index_ne (l : LaneNo) :
    (Counter.badWords l).index ≠ Counter.noticesDiscarded.index ∧ (Counter.badWords l).index ≠ Counter.eventsLost.index := by
  revert l
  decide

/-! ### What every step of the state machine leaves -/

/-- What a word itself writes in a receiver, before the lane state machine takes it (R126, R127, R138). -/
def Lane.marks (v : Lane) : Option Bool × Nat × Option FillInfo :=
  (v.expected, v.silence, v.lastFill)

/-- What the state machine of a lane leaves: the counters but those of the lost events and of a notice it breaks, the hand-offs, the
other receivers, and of its own receiver what `kept` reads; and it begins no notice. -/
structure Receives {α : Type} (kept : Lane → α) (l : LaneNo) (s t : State) : Prop where
  counters : ∀ i : Fin 18, i ≠ Counter.eventsLost.index →
    (i = Counter.noticesDiscarded.index → (laneAt s l).assembly = none) → t.host.counters[i] = s.host.counters[i]
  assembly : (laneAt s l).assembly = none → (laneAt t l).assembly = none
  handed : t.handed = s.handed
  others : ∀ k, k ≠ l → laneAt t k = laneAt s k
  kept : kept (laneAt t l) = kept (laneAt s l)

section
variable {α : Type} {kept : Lane → α}

theorem Receives.refl (kept : Lane → α) (l : LaneNo) (s : State) : Receives kept l s s :=
  ⟨fun _ _ _ => rfl, id, rfl, fun _ _ => rfl, rfl⟩

theorem Receives.trans (a : Receives kept l s t) (b : Receives kept l t u) : Receives kept l s u where
  counters := fun i lost broken =>
    (b.counters i lost fun same => a.assembly (broken same)).trans (a.counters i lost broken)
  assembly := fun empty => b.assembly (a.assembly empty)
  handed := b.handed.trans a.handed
  others := fun k ne => (b.others k ne).trans (a.others k ne)
  kept := b.kept.trans a.kept

theorem Receives.map {β : Type} (g : α → β) (a : Receives kept l s t) : Receives (g ∘ kept) l s t :=
  { a with kept := congrArg g a.kept }

/-- A receiver written with its notice in assembly as it stood. -/
theorem Receives.setLane (a : Receives kept l s t) (assembly : v.assembly = (laneAt t l).assembly := by rfl)
    (same : kept v = kept (laneAt t l) := by rfl) : Receives kept l s (setLane l v t) :=
  a.trans
    { counters := fun _ _ _ => rfl
      assembly := fun empty => by rw [laneAt_setLane_self, assembly, empty]
      handed := rfl
      others := fun k ne => laneAt_setLane_ne v t ne
      kept := by rw [laneAt_setLane_self, same] }

theorem Receives.raise (a : Receives kept l s t) (e : Event) : Receives kept l s (raise e t) :=
  a.trans ⟨fun _ lost _ => counters_raise lost _ e t.host, id, rfl, fun _ _ => rfl, rfl⟩

theorem Receives.attend (a : Receives kept l s t) (c : Condition) : Receives kept l s (attend c t) :=
  a.trans ⟨fun _ _ _ => rfl, id, rfl, fun _ _ => rfl, rfl⟩

theorem Receives.changeLane (a : Receives kept l s t) (entered : LaneState) {next : Lane → Lane}
    (assembly : ∀ v, (next v).assembly = v.assembly := by exact fun _ => rfl)
    (same : ∀ v, kept (next { v with state := entered, assembly := none }) = kept v := by exact fun _ => rfl) :
    Receives kept l s (changeLane l entered next t) := by
  refine a.trans ⟨fun i lost broken => ?_, fun _ => ?_, changeLane_handed .., fun k ne => laneAt_changeLane_ne _ _ t ne, ?_⟩
  · rw [changeLane_host, counters_raise lost]
    by_cases broke : i = Counter.noticesDiscarded.index
    · rw [broken broke, discard_none]
    · exact counters_discard_ne broke _ _
  · rw [laneAt_changeLane, assembly]
  · rw [laneAt_changeLane, same]

end

theorem receives_heardMismatch (l : LaneNo) (f : FillInfo) (s : State) : Receives Lane.marks l s (heardMismatch l f s) := by
  by_cases equal : f.digest = digest s.host.config
  · rw [heardMismatch_of_equal equal]
    exact (Receives.refl Lane.marks l s).setLane
  · rw [heardMismatch_of_differs equal]
    have counted : Receives Lane.marks l s (setLane l (mismatchFields (laneAt s l)) s) := (Receives.refl Lane.marks l s).setLane
    split
    · exact (counted.raise _).attend _
    · exact counted

theorem receives_goodStep (l : LaneNo) (fill : Option FillInfo) (s : State) : Receives Lane.marks l s (goodStep l fill s) := by
  have same := Receives.refl Lane.marks l s
  unfold goodStep
  split
  · exact same.changeLane _
  · exact same.changeLane _
  · unfold holdGood
    dsimp only
    split
    · exact same.setLane
    · exact same.changeLane _
  · unfold seekingFill
    dsimp only
    split
    · exact same.setLane
    · exact same.changeLane _
  case h_5 f _ =>
    refine (receives_heardMismatch l f s).trans ?_
    have same := Receives.refl Lane.marks l (heardMismatch l f s)
    unfold heardUpTest
    dsimp only
    split
    · split
      · exact same.setLane
      · exact same.changeLane _
    · exact same.setLane
  · unfold upFill
    dsimp only
    split
    · exact same.setLane
    · split
      · exact same.setLane
      · exact same.changeLane _
  all_goals exact same

theorem receives_badStep (l : LaneNo) (s : State) : Receives Lane.marks l s (badStep l s) := by
  have same := Receives.refl Lane.marks l s
  have run : Receives Lane.marks l s (badRunStep l s) := by
    unfold badRunStep
    dsimp only
    split
    · exact (same.changeLane _).attend _
    · exact same.setLane
  unfold badStep
  split
  · exact same
  · exact same
  · exact same.setLane
  all_goals exact run

theorem receives_countSilence (l : LaneNo) (s : State) : Receives Lane.lastFill l s (countSilence l s) := by
  have same := Receives.refl Lane.lastFill l s
  by_cases out : (laneAt s l).state = .silent ∨ (laneAt s l).state = .absent
  · rw [countSilence_of_silent_or_absent out]
    exact same
  obtain ⟨silent, absent⟩ := not_or.1 out
  by_cases below : (laneAt s l).silence + 1 < 64
  · rw [countSilence_of_below silent absent below]
    exact same.setLane
  · rw [countSilence_of_reached silent absent (not_lt.1 below)]
    exact same.changeLane _

end Sys2Proof.Machine
end

section
/-! A word taken by a configured receiver: its test, what it writes, and the notice in assembly (R126, R140). -/

namespace Sys2Proof.Machine

variable {l : LaneNo} {w : LaneWord} {s t u : State} {v : Lane} {p : BitVec 28} {a : Assembly}

/-! ### The rows -/

theorem exec_laneWord_of_unused (unused : laneConfigured s.host l = false) : exec (.laneWord l w) s = .next s :=
  congrArg Host.Outcome.next (if_neg (by simp [unused]))

section
variable (run : running s = true) (configured : laneConfigured s.host l = true)
include run configured

theorem exec_laneWord : exec (.laneWord l w) s = .next (takeWord l w s) :=
  congrArg Host.Outcome.next (if_pos (by simp [run, configured]))

theorem exec_laneSilenceTimeout : exec (.laneSilenceTimeout l) s = .next (takeSilence l s) :=
  congrArg Host.Outcome.next (if_pos (by simp [run, configured]))

theorem exec_laneAbsenceDeadline : exec (.laneAbsenceDeadline l) s = .next (serveAbsence l s) :=
  congrArg Host.Outcome.next (if_pos (by simp [run, configured]))

end

/-! ### A good word -/

/-- The fields of a FILL; other words bring none. -/
def fillOf (w : LaneWord) : Option FillInfo :=
  if wordType w = some .fill then some (fillFields (wordPayload w)).info else none

theorem fillOf_of_fill (fill : wordType w = some .fill) : fillOf w = some (fillFields (wordPayload w)).info :=
  if_pos fill

theorem fillOf_of_no_fill (other : wordType w ≠ some .fill) : fillOf w = none :=
  if_neg other

/-- A receiver with the marks of a good word (R126, R127, R137, R138). -/
def goodLane (w : LaneWord) (v : Lane) : Lane :=
  { v with
    expected := nextExpected v.expected w, badRun := false, silence := 0
    lastFill := (fillOf w).or v.lastFill }

/-- What a good word does to the notice in assembly, by its type (R140). -/
def assembleWord (l : LaneNo) (w : LaneWord) (s : State) : State :=
  match wordType w with
  | some .fill => discardAssembly l s
  | some .head => assembleHead l (wordPayload w) s
  | some .body => assembleBody l (wordPayload w) s
  | none => s

theorem assembleWord_of_fill (fill : wordType w = some .fill) : assembleWord l w s = discardAssembly l s := by
  simp [assembleWord, fill]

theorem assembleWord_of_head (head : wordType w = some .head) :
    assembleWord l w s = assembleHead l (wordPayload w) s := by
  simp [assembleWord, head]

theorem assembleWord_of_body (body : wordType w = some .body) :
    assembleWord l w s = assembleBody l (wordPayload w) s := by
  simp [assembleWord, body]

theorem wordType_ne_none_of_good (good : goodWord s l w = true) : wordType w ≠ none := by
  intro none
  simp [goodWord, contentFits, none] at good

/-- The state in which the lane state machine takes a good word. -/
def goodTaken (l : LaneNo) (w : LaneWord) (s : State) : State :=
  assembleWord l w (setLane l (goodLane w (laneAt s l)) s)

/-- The state after a good word: its marks, then assembly, then the lane state machine (R126). -/
def afterGood (l : LaneNo) (w : LaneWord) (s : State) : State :=
  goodStep l (fillOf w) (goodTaken l w s)

theorem exec_laneWord_of_good (run : running s = true) (configured : laneConfigured s.host l = true)
    (good : goodWord s l w = true) : exec (.laneWord l w) s = .next (afterGood l w s) := by
  rw [exec_laneWord run configured]
  unfold takeWord
  dsimp only
  rw [if_pos good]
  cases type : wordType w with
  | none => exact absurd type (wordType_ne_none_of_good good)
  | some k => cases k <;> simp [takeGood, type, markGood, fillOf, afterGood, goodTaken, goodLane, assembleWord]

/-! ### A bad word -/

/-- The state in which the lane state machine takes a bad word: it is counted, and the notice in assembly is broken (R126, R140). -/
def badTaken (l : LaneNo) (w : LaneWord) (s : State) : State :=
  discardAssembly l
    (bump (.badWords l) (setLane l { laneAt s l with expected := nextExpected (laneAt s l).expected w } s))

/-- The state after a bad word: the lane state machine, then its silence timer (R126, R138). -/
def afterBad (l : LaneNo) (w : LaneWord) (s : State) : State :=
  countSilence l (badStep l (badTaken l w s))

theorem exec_laneWord_of_bad (run : running s = true) (configured : laneConfigured s.host l = true)
    (bad : goodWord s l w = false) : exec (.laneWord l w) s = .next (afterBad l w s) := by
  rw [exec_laneWord run configured]
  exact congrArg Host.Outcome.next (if_neg (by simp [bad]))

@[simp] theorem laneAt_badTaken (l : LaneNo) (w : LaneWord) (s : State) :
    laneAt (badTaken l w s) l =
      { laneAt s l with expected := nextExpected (laneAt s l).expected w, assembly := none } := by
  simp [badTaken, laneAt_discardAssembly]

@[simp] theorem badTaken_host (l : LaneNo) (w : LaneWord) (s : State) :
    (badTaken l w s).host = (s.host.bump (.badWords l)).discard (laneAt s l).assembly := by
  simp [badTaken]

@[simp] theorem badTaken_handed (l : LaneNo) (w : LaneWord) (s : State) : (badTaken l w s).handed = s.handed := by
  simp [badTaken]

@[simp] theorem badTaken_time (l : LaneNo) (w : LaneWord) (s : State) : (badTaken l w s).time = s.time := by
  simp [badTaken]

theorem laneAt_badTaken_ne {k : LaneNo} (ne : k ≠ l) : laneAt (badTaken l w s) k = laneAt s k := by
  rw [badTaken, laneAt_discardAssembly_ne _ ne, laneAt_bump, laneAt_setLane_ne _ _ ne]

/-! ### The notice in assembly (R140) -/

/-- What the assembly of a notice changes: of the receiver the notice in assembly alone, of the host port the discarded notices
alone. -/
structure Assembles (l : LaneNo) (s t : State) : Prop where
  lane : ∃ a, laneAt t l = { laneAt s l with assembly := a }
  others : ∀ k, k ≠ l → laneAt t k = laneAt s k
  footing : footing t = footing s
  events : t.host.events = s.host.events
  counters : ∀ i : Fin 18, i ≠ Counter.noticesDiscarded.index → t.host.counters[i] = s.host.counters[i]

theorem Assembles.refl (l : LaneNo) (s : State) : Assembles l s s :=
  ⟨⟨_, rfl⟩, fun _ _ => rfl, rfl, rfl, fun _ _ => rfl⟩

theorem Assembles.trans (a : Assembles l s t) (b : Assembles l t u) : Assembles l s u where
  lane := by
    obtain ⟨x, first⟩ := a.lane
    obtain ⟨y, second⟩ := b.lane
    exact ⟨y, by rw [second, first]⟩
  others := fun k ne => (b.others k ne).trans (a.others k ne)
  footing := b.footing.trans a.footing
  events := b.events.trans a.events
  counters := fun i other => (b.counters i other).trans (a.counters i other)

theorem assembles_setAssembly (l : LaneNo) (a : Option Assembly) (s : State) :
    Assembles l s (setLane l { laneAt s l with assembly := a } s) where
  lane := ⟨a, laneAt_setLane_self ..⟩
  others := fun _ ne => laneAt_setLane_ne _ s ne
  footing := rfl
  events := rfl
  counters := fun _ _ => rfl

theorem assembles_bump (l : LaneNo) (s : State) : Assembles l s (bump .noticesDiscarded s) :=
  ⟨⟨_, rfl⟩, fun _ _ => rfl, rfl, rfl, fun _ other => counters_bump_ne other s.host⟩

theorem assembles_discardAssembly (l : LaneNo) (s : State) : Assembles l s (discardAssembly l s) := by
  unfold discardAssembly
  split
  · exact (assembles_setAssembly l none s).trans (assembles_bump l _)
  · exact .refl l s

theorem assembles_completeNotice (l : LaneNo) (a : Assembly) (s : State) : Assembles l s (completeNotice l a s) := by
  unfold completeNotice deliverNotice
  split
  · split
    · exact ⟨⟨_, rfl⟩, fun _ _ => rfl, rfl, rfl, fun _ _ => rfl⟩
    · exact .refl l s
  · exact assembles_bump l s

theorem assembles_placeAssembly (l : LaneNo) (a : Assembly) (s : State) : Assembles l s (placeAssembly l a s) := by
  unfold placeAssembly
  split
  · exact (assembles_setAssembly l none s).trans (assembles_completeNotice l a _)
  · exact assembles_setAssembly l _ s

theorem assembles_assembleWord (l : LaneNo) (w : LaneWord) (s : State) : Assembles l s (assembleWord l w s) := by
  unfold assembleWord
  split
  · exact assembles_discardAssembly l s
  · unfold assembleHead
    split
    · exact (assembles_discardAssembly l s).trans (assembles_placeAssembly l _ _)
    · exact assembles_bump l s
  · unfold assembleBody
    split
    · exact assembles_placeAssembly l _ s
    · exact .refl l s
  · exact .refl l s

theorem assembleHead_of_up (up : (laneAt s l).state = .up) :
    assembleHead l p s = placeAssembly l (headOf p) (discardAssembly l s) :=
  if_pos up

theorem assembleHead_of_not_up (down : (laneAt s l).state ≠ .up) : assembleHead l p s = bump .noticesDiscarded s :=
  if_neg down

theorem assembleBody_of_none (empty : (laneAt s l).assembly = none) : assembleBody l p s = s := by
  simp [assembleBody, empty]

theorem assembleBody_of_some (held : (laneAt s l).assembly = some a) :
    assembleBody l p s = placeAssembly l { a with bodies := a.bodies ++ [p] } s := by
  simp [assembleBody, held]

/-- The receiver in which the lane state machine takes a good word. -/
theorem laneAt_goodTaken (l : LaneNo) (w : LaneWord) (s : State) :
    ∃ a, laneAt (goodTaken l w s) l = { goodLane w (laneAt s l) with assembly := a } := by
  obtain ⟨a, same⟩ := (assembles_assembleWord l w (setLane l (goodLane w (laneAt s l)) s)).lane
  exact ⟨a, by rw [goodTaken, same, laneAt_setLane_self]⟩

theorem laneAt_goodTaken_ne {k : LaneNo} (ne : k ≠ l) : laneAt (goodTaken l w s) k = laneAt s k :=
  ((assembles_assembleWord l w _).others k ne).trans (laneAt_setLane_ne _ s ne)

theorem footing_goodTaken (l : LaneNo) (w : LaneWord) (s : State) : footing (goodTaken l w s) = footing s :=
  (assembles_assembleWord l w _).footing

theorem goodTaken_events (l : LaneNo) (w : LaneWord) (s : State) : (goodTaken l w s).host.events = s.host.events :=
  (assembles_assembleWord l w _).events

/-! ### The word test (R126) -/

theorem laneChannel_val (own : Channel) (l : LaneNo) : (laneChannel own l).val = (own.val + l.val + 1) % 4 := by
  revert own l
  decide

theorem alternationFits_iff (expected : Option Bool) :
    alternationFits expected w = true ↔ ¬ ∃ b, expected = some b ∧ wordAlternation w ≠ b := by
  cases expected <;> simp [alternationFits]

theorem contentFits_iff :
    contentFits s l w = true ↔ wordType w ≠ none ∧ (wordType w = some .fill →
      (fillFields (wordPayload w)).sender = laneChannel s.host.ownChannel l ∧
        ((fillFields (wordPayload w)).cycle = s.time.treeCycle ∨
          (fillFields (wordPayload w)).cycle = s.time.treeCycle - 1)) := by
  cases type : wordType w with
  | none => simp [contentFits, type]
  | some k => cases k <;> simp [contentFits, type]

theorem goodWord_iff :
    goodWord s l w = true ↔ ¬ (evenParity w = false ∨ (∃ b, (laneAt s l).expected = some b ∧ wordAlternation w ≠ b) ∨
      wordType w = none ∨
      (wordType w = some .fill ∧ (fillFields (wordPayload w)).sender ≠ laneChannel s.host.ownChannel l) ∨
      (wordType w = some .fill ∧ (fillFields (wordPayload w)).cycle ≠ s.time.treeCycle ∧
        (fillFields (wordPayload w)).cycle ≠ s.time.treeCycle - 1)) := by
  rw [goodWord, Bool.and_eq_true, Bool.and_eq_true, alternationFits_iff, contentFits_iff, laneAt]
  cases evenParity w <;> grind

/-! ### What the two rows leave -/

theorem badStep_marks (l : LaneNo) (s : State) : (laneAt (badStep l s) l).marks = (laneAt s l).marks :=
  (receives_badStep l s).kept

theorem goodStep_marks (l : LaneNo) (fill : Option FillInfo) (s : State) :
    (laneAt (goodStep l fill s) l).marks = (laneAt s l).marks :=
  (receives_goodStep l fill s).kept

theorem countSilence_expected (below : (laneAt s l).silence + 1 < 64) :
    (laneAt (countSilence l s) l).expected = (laneAt s l).expected := by
  by_cases out : (laneAt s l).state = .silent ∨ (laneAt s l).state = .absent
  · rw [countSilence_of_silent_or_absent out]
  · obtain ⟨silent, absent⟩ := not_or.1 out
    rw [countSilence_of_below silent absent below, laneAt_setLane_self]

theorem afterGood_marks (l : LaneNo) (w : LaneWord) (s : State) :
    (laneAt (afterGood l w s) l).marks = (goodLane w (laneAt s l)).marks := by
  obtain ⟨a, same⟩ := laneAt_goodTaken l w s
  rw [afterGood, goodStep_marks, same]
  rfl

theorem afterBad_expected (below : (laneAt s l).silence + 1 < 64) :
    (laneAt (afterBad l w s) l).expected = nextExpected (laneAt s l).expected w := by
  have stood := badStep_marks l (badTaken l w s)
  rw [laneAt_badTaken] at stood
  have expected : (laneAt (badStep l (badTaken l w s)) l).expected = nextExpected (laneAt s l).expected w :=
    congrArg Prod.fst stood
  have silence : (laneAt (badStep l (badTaken l w s)) l).silence = (laneAt s l).silence := congrArg (·.2.1) stood
  rw [afterBad, countSilence_expected (by rwa [silence]), expected]

theorem afterGood_badWords (k l : LaneNo) (w : LaneWord) (s : State) :
    (afterGood l w s).host.counters[(Counter.badWords k).index] = s.host.counters[(Counter.badWords k).index] := by
  obtain ⟨notDiscarded, notLost⟩ := badWords_index_ne k
  rw [afterGood, (receives_goodStep l _ _).counters _ notLost (absurd · notDiscarded), goodTaken,
    (assembles_assembleWord l w _).counters _ notDiscarded, setLane_host]

theorem afterBad_badWords (l : LaneNo) (w : LaneWord) (s : State) :
    (afterBad l w s).host.counters[(Counter.badWords l).index] =
      countUp s.host.counters[(Counter.badWords l).index] := by
  obtain ⟨notDiscarded, notLost⟩ := badWords_index_ne l
  rw [afterBad, (receives_countSilence l _).counters _ notLost (absurd · notDiscarded),
    (receives_badStep l _).counters _ notLost (absurd · notDiscarded), badTaken_host,
    counters_discard_ne notDiscarded, counters_bump_self]

theorem laneAt_afterGood_ne {k : LaneNo} (ne : k ≠ l) : laneAt (afterGood l w s) k = laneAt s k :=
  ((receives_goodStep l _ _).others k ne).trans (laneAt_goodTaken_ne ne)

theorem laneAt_afterBad_ne {k : LaneNo} (ne : k ≠ l) : laneAt (afterBad l w s) k = laneAt s k :=
  ((receives_countSilence l _).others k ne).trans
    (((receives_badStep l _).others k ne).trans (laneAt_badTaken_ne ne))

end Sys2Proof.Machine

namespace Sys2Proof.Proofs
open Sys2Proof.Machine

/-- Settles O19: the three tests of `goodWord` say what makes a word bad; the lane state machine moves neither the bad-word counter nor
the other receivers (`Receives`, `Assembles`). -/
theorem laneWordTest : Obligations.LaneWordTest := by
  intro l w s run
  refine ⟨laneChannel_val _ l, ?_, exec_laneWord_of_unused, fun configured => ⟨goodWord_iff, ?_⟩⟩
  · rw [laneConfigured, decide_eq_true_iff, laneChannel_val]
  cases good : goodWord s l w with
  | true =>
    refine ⟨_, exec_laneWord_of_good run configured good, fun bad => absurd bad (goodWord_iff.1 good), fun _ => ?_, fun _ => ?_,
      fun k ne => laneAt_afterGood_ne ne⟩
    · exact afterGood_badWords l l w s
    · exact congrArg Prod.fst (afterGood_marks l w s)
  | false =>
    have bad := fun fine => Bool.false_ne_true (good.symm.trans (goodWord_iff.2 fine))
    refine ⟨_, exec_laneWord_of_bad run configured good, fun _ => ?_, fun fine => absurd fine bad, fun below => ?_,
      fun k ne => laneAt_afterBad_ne ne⟩
    · exact afterBad_badWords l w s
    · exact afterBad_expected below

end Sys2Proof.Proofs
end

section
/-! Lane changes on good words (R134 to R137, R139). -/

namespace Sys2Proof.Machine

variable {l : LaneNo} {w : LaneWord} {s t : State} {v : Lane} {f : FillInfo} {fill : Option FillInfo}

/-! ### What the state machine tells the host port -/

/-- A change of lane state from `s` to `t` is one LANE-CHANGE with the lane's channel and both states; a lane that stays, but in HEARD,
leaves the host port (R135, R139). -/
structure Tells (l : LaneNo) (s t : State) : Prop where
  changed : (laneAt t l).state ≠ (laneAt s l).state → t.host = s.host.raise s.time.treeCycle
    (.laneChange (laneChannel s.host.ownChannel l) (laneAt s l).state (laneAt t l).state)
  stood : (laneAt t l).state = (laneAt s l).state → (laneAt s l).state ≠ .heard → t.host = s.host

theorem Tells.refl (l : LaneNo) (s : State) : Tells l s s :=
  ⟨fun moved => absurd rfl moved, fun _ _ => rfl⟩

theorem tells_setLane (same : v.state = (laneAt s l).state) : Tells l s (setLane l v s) :=
  ⟨fun moved => absurd (by rw [laneAt_setLane_self, same]) moved, fun _ _ => rfl⟩

theorem tells_of_heard (before : (laneAt s l).state = .heard) (after : (laneAt t l).state = .heard) : Tells l s t :=
  ⟨fun moved => absurd (after.trans before.symm) moved, fun _ other => absurd before other⟩

theorem tells_changeLane {entered : LaneState} {next : Lane → Lane} (empty : (laneAt s l).assembly = none)
    (left : (laneAt s l).state ≠ entered) (enters : ∀ v, (next v).state = v.state := by exact fun _ => rfl) :
    Tells l s (changeLane l entered next s) := by
  have state : (laneAt (changeLane l entered next s) l).state = entered := by rw [laneAt_changeLane, enters]
  refine ⟨fun _ => ?_, fun stood => absurd (stood.symm.trans state) left⟩
  rw [changeLane_host, empty, discard_none, state]

theorem goodStep_tells (empty : (laneAt s l).assembly = none) (fill : Option FillInfo) :
    Tells l s (goodStep l fill s) := by
  cases state : (laneAt s l).state with
  | silent =>
    rw [goodStep_of_silent_or_absent (.inl state)]
    exact tells_changeLane empty (by simp [state])
  | absent =>
    rw [goodStep_of_silent_or_absent (.inr state)]
    exact tells_changeLane empty (by simp [state])
  | hold =>
    by_cases below : (laneAt s l).goodCount < 127
    · rw [goodStep_of_hold_below state below]
      exact tells_setLane rfl
    · rw [goodStep_of_hold_full state (not_lt.1 below)]
      exact tells_changeLane empty (by simp [state])
  | seeking =>
    cases fill with
    | none => rw [goodStep_of_no_fill (.inl state)]; exact .refl l s
    | some f =>
      by_cases first : (laneAt s l).fillRun = 0
      · rw [goodStep_of_seeking_first state first]
        exact tells_setLane rfl
      · rw [goodStep_of_seeking_second state first]
        exact tells_changeLane empty (by simp [state])
  | heard =>
    cases fill with
    | none => rw [goodStep_of_no_fill (.inr (.inl state))]; exact .refl l s
    | some f =>
      cases passes : upTest s.host.ownChannel (digest s.host.config) f with
      | false =>
        refine tells_of_heard state ?_
        rw [goodStep_of_heard_fails state passes, laneAt_setLane_self, laneAt_heardMismatch]
        split <;> exact state
      | true =>
        by_cases first : (laneAt s l).fillRun = 0
        · rw [goodStep_of_heard_passes_first state passes first]
          exact tells_setLane rfl
        · rw [goodStep_of_heard_passes_second state passes first]
          have told := tells_changeLane (l := l) (s := setLane l { laneAt s l with mismatchCount := 0 } s) (entered := .up)
            (next := upFields) (by rw [laneAt_setLane_self, empty]) (by simp [state])
          exact ⟨by simpa using told.changed, by simpa using told.stood⟩
  | up =>
    cases fill with
    | none => rw [goodStep_of_no_fill (.inr (.inr state))]; exact .refl l s
    | some f =>
      cases passes : upTest s.host.ownChannel (digest s.host.config) f with
      | true =>
        rw [goodStep_of_up_passes state passes]
        exact tells_setLane rfl
      | false =>
        by_cases first : (laneAt s l).fillRun = 0
        · rw [goodStep_of_up_fails_first state passes first]
          exact tells_setLane rfl
        · rw [goodStep_of_up_fails_second state passes first]
          exact tells_changeLane empty (by simp [state])


/-- No good word begins a bad-word run: every row keeps the run or sets it back. -/
theorem goodStep_badRun (calm : (laneAt s l).badRun = false) (fill : Option FillInfo) :
    (laneAt (goodStep l fill s) l).badRun = false := by
  have mismatch (f : FillInfo) : (laneAt (heardMismatch l f s) l).badRun = false := by
    rw [laneAt_heardMismatch]
    split <;> exact calm
  unfold goodStep holdGood seekingFill heardUpTest upFill
  dsimp only
  repeat' split
  all_goals simp [calm, mismatch, seekingFields, heardFields, upFields]

/-! ### A good word, in each lane state -/

section
variable (l) (w) (s)

theorem goodTaken_state : (laneAt (goodTaken l w s) l).state = (laneAt s l).state := by
  obtain ⟨a, same⟩ := laneAt_goodTaken l w s
  rw [same]
  rfl

theorem goodTaken_fillRun : (laneAt (goodTaken l w s) l).fillRun = (laneAt s l).fillRun := by
  obtain ⟨a, same⟩ := laneAt_goodTaken l w s
  rw [same]
  rfl

theorem goodTaken_goodCount : (laneAt (goodTaken l w s) l).goodCount = (laneAt s l).goodCount := by
  obtain ⟨a, same⟩ := laneAt_goodTaken l w s
  rw [same]
  rfl

theorem goodTaken_ownChannel : (goodTaken l w s).host.ownChannel = s.host.ownChannel :=
  congrArg Footing.ownChannel (footing_goodTaken l w s)

theorem goodTaken_config : (goodTaken l w s).host.config = s.host.config :=
  congrArg Footing.config (footing_goodTaken l w s)

theorem goodTaken_treeCycle : (goodTaken l w s).time.treeCycle = s.time.treeCycle :=
  congrArg Footing.treeCycle (footing_goodTaken l w s)

theorem afterGood_badRun : (laneAt (afterGood l w s) l).badRun = false := by
  refine goodStep_badRun ?_ _
  obtain ⟨a, same⟩ := laneAt_goodTaken l w s
  rw [same]
  rfl

end

/-- A good word that does not reach an UP lane, or is a FILL, leaves no notice in assembly and counts one at most. -/
theorem goodTaken_discards (clear : (laneAt s l).assembly.isSome = true → (laneAt s l).state = .up)
    (away : wordType w = some .fill ∨ (laneAt s l).state ≠ .up) :
    (laneAt (goodTaken l w s) l).assembly = none ∧
      ((goodTaken l w s).host = s.host ∨ (goodTaken l w s).host = s.host.bump .noticesDiscarded) := by
  by_cases fill : wordType w = some .fill
  · rw [goodTaken, assembleWord_of_fill fill, laneAt_discardAssembly, discardAssembly_host]
    exact ⟨rfl, discard_cases _ s.host⟩
  have down : (laneAt s l).state ≠ .up := away.resolve_left fill
  have empty : (laneAt s l).assembly = none := by
    rw [← Option.not_isSome_iff_eq_none]
    exact fun held => down (clear held)
  have marked : (laneAt (setLane l (goodLane w (laneAt s l)) s) l).assembly = none := by rwa [laneAt_setLane_self]
  unfold goodTaken assembleWord
  split
  case h_1 type => exact absurd type fill
  case h_2 =>
    rw [assembleHead_of_not_up (by rwa [laneAt_setLane_self])]
    exact ⟨marked, .inr rfl⟩
  case h_3 =>
    rw [assembleBody_of_none marked]
    exact ⟨marked, .inl rfl⟩
  case h_4 => exact ⟨marked, .inl rfl⟩

end Sys2Proof.Machine

namespace Sys2Proof.Proofs
open Sys2Proof.Machine

/-- Settles O20: the state after the word is `goodStep` of the state with the word's marks, one equation for each row of R134 to R137; what
the change tells the host port is `goodStep_tells`. -/
theorem laneChangesOnGoodWords : Obligations.LaneChangesOnGoodWords := by
  intro l w s run configured good v f passes
  obtain ⟨-, silence, lastFill⟩ : _ ∧ _ ∧ _ := by
    have marks := afterGood_marks l w s
    simpa only [Lane.marks, goodLane, Prod.mk.injEq] using marks
  have state := goodTaken_state l w s
  have fillRun := goodTaken_fillRun l w s
  have goodCount := goodTaken_goodCount l w s
  have test : upTest (goodTaken l w s).host.ownChannel (digest (goodTaken l w s).host.config) f = passes := by
    rw [goodTaken_ownChannel, goodTaken_config]
    rfl
  refine ⟨_, exec_laneWord_of_good run configured good, afterGood_badRun l w s, silence, fun fill => ?_, fun other => ?_,
    fun out => ?_, fun seeking fill => ?_, fun heard fill => ?_, fun up fill => ?_, fun hold => ?_, fun hears other => ?_,
    fun clear => ?_⟩
  · rw [lastFill, fillOf_of_fill fill]
    rfl
  · rw [lastFill, fillOf_of_no_fill other]
    rfl
  · rw [afterGood, goodStep_of_silent_or_absent (by rwa [state]), laneAt_changeLane]
    exact ⟨rfl, rfl, rfl⟩
  · rw [← state] at seeking
    rw [afterGood, fillOf_of_fill fill, ← fillRun]
    refine ⟨fun first => ?_, fun second => ?_⟩
    · rw [goodStep_of_seeking_first seeking first, laneAt_setLane_self]
      exact ⟨seeking, rfl⟩
    · rw [goodStep_of_seeking_second seeking second, laneAt_changeLane]
      exact ⟨rfl, rfl⟩
  · rw [← state] at heard
    rw [afterGood, fillOf_of_fill fill, ← fillRun]
    refine ⟨fun fails => ?_, fun passes first => ?_, fun passes second => ?_⟩
    · rw [goodStep_of_heard_fails heard (test.trans fails), laneAt_setLane_self, laneAt_heardMismatch]
      split <;> exact ⟨heard, rfl⟩
    · rw [goodStep_of_heard_passes_first heard (test.trans passes) first, laneAt_setLane_self]
      exact ⟨heard, rfl⟩
    · rw [goodStep_of_heard_passes_second heard (test.trans passes) second, laneAt_changeLane]
      exact ⟨rfl, rfl⟩
  · rw [← state] at up
    rw [afterGood, fillOf_of_fill fill, ← fillRun]
    refine ⟨fun passes => ?_, fun fails first => ?_, fun fails second => ?_⟩
    · rw [goodStep_of_up_passes up (test.trans passes), laneAt_setLane_self]
      exact ⟨up, rfl⟩
    · rw [goodStep_of_up_fails_first up (test.trans fails) first, laneAt_setLane_self]
      exact ⟨up, rfl⟩
    · rw [goodStep_of_up_fails_second up (test.trans fails) second, laneAt_changeLane]
      exact ⟨rfl, rfl⟩
  · rw [← state] at hold
    rw [afterGood, ← goodCount]
    refine ⟨fun below => ?_, fun full => ?_⟩
    · rw [goodStep_of_hold_below hold below, laneAt_setLane_self]
      exact ⟨hold, rfl⟩
    · rw [goodStep_of_hold_full hold full, laneAt_changeLane]
      exact ⟨rfl, rfl⟩
  · rw [afterGood, fillOf_of_no_fill other, goodStep_of_no_fill (by rwa [state])]
    exact ⟨state, fillRun⟩
  · by_cases away : wordType w = some .fill ∨ v.state ≠ .up
    · obtain ⟨empty, host⟩ := goodTaken_discards clear away
      have told := goodStep_tells empty (fillOf w)
      rw [← afterGood] at told
      refine ⟨fun moved => ⟨_, host, ?_⟩, fun stood other => ?_⟩
      · rw [told.changed (by rwa [state]), goodTaken_ownChannel, goodTaken_treeCycle, state]
      · rw [told.stood (stood.trans state.symm) (by rwa [state]), goodTaken_events]
    · obtain ⟨other, up⟩ := not_or.1 away
      have same : afterGood l w s = goodTaken l w s := by
        rw [afterGood, fillOf_of_no_fill other, goodStep_of_no_fill (by rw [state]; exact .inr (.inr (not_not.1 up)))]
      rw [same]
      exact ⟨fun moved => absurd state moved, fun _ _ => goodTaken_events l w s⟩

end Sys2Proof.Proofs
end

section
/-! FILLs of differing digest in HEARD, and the entry to HEARD (R135, R136). -/

namespace Sys2Proof.Machine

variable {l : LaneNo} {w : LaneWord} {s : State} {f : FillInfo}

/-- The first FILL of a run of differing digests is only counted, and one after the flag is set raises nothing more. -/
theorem heardMismatch_host_of_quiet (quiet : (laneAt s l).mismatchCount = 0 ∨ (laneAt s l).mismatchRaised = true) :
    (heardMismatch l f s).host = s.host := by
  by_cases equal : f.digest = digest s.host.config
  · rw [heardMismatch_of_equal equal, setLane_host]
  rw [heardMismatch_of_differs equal, if_neg ?_, setLane_host]
  rintro ⟨second, unraised⟩
  rcases quiet with none | raised
  · simp [none] at second
  · exact Bool.false_ne_true (unraised.symm.trans raised)

theorem heardMismatch_host_of_second (differs : f.digest ≠ digest s.host.config)
    (second : (laneAt s l).mismatchCount = 1) (unraised : (laneAt s l).mismatchRaised = false) :
    (heardMismatch l f s).host = (s.host.raise s.time.treeCycle
      (.configMismatch (laneChannel s.host.ownChannel l) (digest s.host.config) f.digest)).attend .lane := by
  rw [heardMismatch_of_differs differs, if_pos (by simp [second, unraised])]
  rfl

/-- A FILL of differing digest fails the UP test, so the lane stays in HEARD. -/
theorem goodStep_of_heard_differs (heard : (laneAt s l).state = .heard) (differs : f.digest ≠ digest s.host.config) :
    goodStep l (some f) s = setLane l { mismatchFields (laneAt s l) with fillRun := 0 } (heardMismatch l f s) := by
  rw [goodStep_of_heard_fails heard (upTest_of_digest_ne differs), laneAt_heardMismatch, if_neg differs]

/-- A FILL that breaks no notice reaches the state machine with its marks alone. -/
theorem goodTaken_of_fill (fill : wordType w = some .fill) (empty : (laneAt s l).assembly = none) :
    goodTaken l w s = setLane l (goodLane w (laneAt s l)) s := by
  rw [goodTaken, assembleWord_of_fill fill]
  unfold discardAssembly
  rw [laneAt_setLane_self]
  simp [goodLane, empty]

/-- A lane that comes to HEARD on a FILL begins with the mismatch count at 0 and the flag clear. -/
theorem goodStep_enters_heard (before : (laneAt s l).state ≠ .heard)
    (after : (laneAt (goodStep l (some f) s) l).state = .heard) :
    (laneAt (goodStep l (some f) s) l).mismatchCount = 0 ∧
      (laneAt (goodStep l (some f) s) l).mismatchRaised = false := by
  have kept {v : Lane} (same : goodStep l (some f) s = setLane l v s) (state : v.state = (laneAt s l).state) : False := by
    rw [same, laneAt_setLane_self, state] at after
    exact before after
  have sought (same : goodStep l (some f) s = changeLane l .seeking seekingFields s) : False := by
    rw [same, laneAt_changeLane] at after
    exact nomatch after
  have entered (same : goodStep l (some f) s = changeLane l .heard heardFields s) :
      (laneAt (goodStep l (some f) s) l).mismatchCount = 0 ∧
        (laneAt (goodStep l (some f) s) l).mismatchRaised = false := by
    rw [same, laneAt_changeLane]
    exact ⟨rfl, rfl⟩
  cases state : (laneAt s l).state with
  | silent => exact (sought (goodStep_of_silent_or_absent (.inl state))).elim
  | absent => exact (sought (goodStep_of_silent_or_absent (.inr state))).elim
  | heard => exact absurd state before
  | hold =>
    by_cases below : (laneAt s l).goodCount < 127
    · exact (kept (goodStep_of_hold_below state below) rfl).elim
    · exact (sought (goodStep_of_hold_full state (not_lt.1 below))).elim
  | seeking =>
    by_cases first : (laneAt s l).fillRun = 0
    · exact (kept (goodStep_of_seeking_first state first) rfl).elim
    · exact entered (goodStep_of_seeking_second state first)
  | up =>
    cases passes : upTest s.host.ownChannel (digest s.host.config) f with
    | true => exact (kept (goodStep_of_up_passes state passes) rfl).elim
    | false =>
      by_cases first : (laneAt s l).fillRun = 0
      · exact (kept (goodStep_of_up_fails_first state passes first) rfl).elim
      · exact entered (goodStep_of_up_fails_second state passes first)

/-- A FILL of equal digest in HEARD sets the mismatch count back and leaves the flag, whether or not the lane goes UP. -/
theorem goodStep_of_heard_equal (heard : (laneAt s l).state = .heard) (equal : f.digest = digest s.host.config) :
    (laneAt (goodStep l (some f) s) l).mismatchCount = 0 ∧
      (laneAt (goodStep l (some f) s) l).mismatchRaised = (laneAt s l).mismatchRaised := by
  cases passes : upTest s.host.ownChannel (digest s.host.config) f with
  | false =>
    rw [goodStep_of_heard_fails heard passes, laneAt_setLane_self, laneAt_heardMismatch, if_pos equal]
    exact ⟨rfl, rfl⟩
  | true =>
    by_cases first : (laneAt s l).fillRun = 0
    · rw [goodStep_of_heard_passes_first heard passes first, laneAt_setLane_self]
      exact ⟨rfl, rfl⟩
    · rw [goodStep_of_heard_passes_second heard passes first, laneAt_changeLane, laneAt_setLane_self]
      exact ⟨rfl, rfl⟩

end Sys2Proof.Machine

namespace Sys2Proof.Proofs
open Sys2Proof.Machine

/-- Settles O22: a FILL of differing digest fails the UP test, so the lane stays in HEARD with what `heardMismatch` wrote. -/
theorem configMismatchRaisedOnce : Obligations.ConfigMismatchRaisedOnce := by
  intro l w s run configured good fill empty own f raised
  have taken := goodTaken_of_fill fill empty
  refine ⟨_, exec_laneWord_of_good run configured good, fun heard differs => ?_, fun heard equal => ?_, fun before after => ?_⟩
  · have after : afterGood l w s = setLane l { mismatchFields (goodLane w (laneAt s l)) with fillRun := 0 }
        (heardMismatch l f (goodTaken l w s)) := by
      rw [afterGood, fillOf_of_fill fill, goodStep_of_heard_differs ((goodTaken_state l w s).trans heard) ?_, taken,
        laneAt_setLane_self]
      rwa [goodTaken_config]
    have lane : laneAt (goodTaken l w s) l = goodLane w (laneAt s l) := by rw [taken, laneAt_setLane_self]
    have quiet (still : (laneAt s l).mismatchCount = 0 ∨ (laneAt s l).mismatchRaised = true) :
        (heardMismatch l f (goodTaken l w s)).host = s.host := by
      rw [heardMismatch_host_of_quiet (by rwa [lane]), taken, setLane_host]
    rw [after, laneAt_setLane_self, setLane_host]
    refine ⟨heard, fun first => ⟨?_, ?_, quiet (.inl first)⟩, fun second => ⟨?_, ?_, fun unraised => ?_,
      fun flag => quiet (.inr flag)⟩, fun third flag => ⟨?_, ?_, quiet (.inr flag)⟩⟩
    · simp [mismatchFields, goodLane, first]
    · simp [mismatchFields, goodLane, first]
    · simp [mismatchFields, goodLane, second]
    · simp [mismatchFields, goodLane, second]
    · rw [heardMismatch_host_of_second (by rwa [goodTaken_config]) (by rwa [lane]) (by rwa [lane]), taken]
      rfl
    · exact Nat.min_eq_left (third.trans (Nat.le_succ _))
    · simp [mismatchFields, goodLane, flag]
  · rw [afterGood, fillOf_of_fill fill, taken]
    simpa [goodLane] using goodStep_of_heard_equal (s := setLane l (goodLane w (laneAt s l)) s) (l := l) (f := f)
      (by simpa [goodLane] using heard) equal
  · rw [afterGood, fillOf_of_fill fill] at after ⊢
    exact goodStep_enters_heard (by rwa [goodTaken_state]) after

end Sys2Proof.Proofs
end

section
/-! Lane changes on bad words, silence and absence (R131, R134 to R140). -/

namespace Sys2Proof.Machine

variable {l : LaneNo} {w : LaneWord} {s : State} {v : Lane}

/-! ### A bad word taken by the lane state machine -/

theorem footing_badTaken (l : LaneNo) (w : LaneWord) (s : State) : footing (badTaken l w s) = footing s :=
  (steady_discardAssembly l _).footing

theorem afterBad_lastFill (l : LaneNo) (w : LaneWord) (s : State) :
    (laneAt (afterBad l w s) l).lastFill = (laneAt s l).lastFill := by
  have stood : (laneAt (badStep l (badTaken l w s)) l).lastFill = (laneAt (badTaken l w s) l).lastFill :=
    congrArg (·.2.2) (badStep_marks l _)
  rw [afterBad, (receives_countSilence l _).kept, stood, laneAt_badTaken]

theorem awake_cases (silent : v.state ≠ .silent) (absent : v.state ≠ .absent) :
    v.state = .hold ∨ v.state = .seeking ∨ v.state = .heard ∨ v.state = .up := by
  cases state : v.state <;> simp_all

/-- The lane state machine leaves a lane that takes bad words in HOLD or in its state. -/
theorem badStep_state (silent : (laneAt s l).state ≠ .silent) (absent : (laneAt s l).state ≠ .absent) :
    (laneAt (badStep l s) l).state = .hold ∨ (laneAt (badStep l s) l).state = (laneAt s l).state := by
  rcases awake_cases silent absent with hold | hears
  · rw [badStep_of_hold hold, laneAt_setLane_self]
    exact .inr rfl
  · cases run : (laneAt s l).badRun with
    | false =>
      rw [badStep_of_first hears run, laneAt_setLane_self]
      exact .inr rfl
    | true =>
      rw [badStep_of_second hears run, laneAt_attend, laneAt_changeLane]
      exact .inl rfl

/-! ### Its silence timer (R138) -/

theorem badStep_badTaken_silence (l : LaneNo) (w : LaneWord) (s : State) :
    (laneAt (badStep l (badTaken l w s)) l).silence = (laneAt s l).silence := by
  have stood : (laneAt (badStep l (badTaken l w s)) l).silence = (laneAt (badTaken l w s) l).silence :=
    congrArg (·.2.1) (badStep_marks l _)
  rw [stood, laneAt_badTaken]

section
variable (silent : (laneAt s l).state ≠ .silent) (absent : (laneAt s l).state ≠ .absent)
include silent absent

theorem badStep_badTaken_awake (w : LaneWord) : (laneAt (badStep l (badTaken l w s)) l).state ≠ .silent ∧
    (laneAt (badStep l (badTaken l w s)) l).state ≠ .absent := by
  have state : (laneAt (badTaken l w s) l).state = (laneAt s l).state := by rw [laneAt_badTaken]
  rcases badStep_state (l := l) (s := badTaken l w s) (by rwa [state]) (by rwa [state]) with hold | same
  · rw [hold]
    exact ⟨nofun, nofun⟩
  · rw [same, state]
    exact ⟨silent, absent⟩

theorem afterBad_of_below (below : (laneAt s l).silence + 1 < 64) :
    afterBad l w s =
      setLane l { laneAt (badStep l (badTaken l w s)) l with silence := (laneAt s l).silence + 1 }
        (badStep l (badTaken l w s)) := by
  obtain ⟨silent', absent'⟩ := badStep_badTaken_awake silent absent w
  have silence := badStep_badTaken_silence l w s
  rw [afterBad, countSilence_of_below silent' absent' (by rwa [silence]), silence]

/-- The 64th word time without a good word sends the lane to SILENT, from the state the bad word left it in. -/
theorem afterBad_of_reached (reached : 64 ≤ (laneAt s l).silence + 1) :
    (laneAt (afterBad l w s) l).state = .silent ∧
      (laneAt (afterBad l w s) l).absence = some (ahead s s.host.config.absenceTime) ∧
      (afterBad l w s).host = (badStep l (badTaken l w s)).host.raise s.time.treeCycle
        (.laneChange (laneChannel s.host.ownChannel l) (laneAt (badStep l (badTaken l w s)) l).state .silent) := by
  obtain ⟨silent', absent'⟩ := badStep_badTaken_awake silent absent w
  have silence := badStep_badTaken_silence l w s
  have empty : (laneAt (badStep l (badTaken l w s)) l).assembly = none :=
    (receives_badStep l _).assembly (by rw [laneAt_badTaken])
  have stood : footing (badStep l (badTaken l w s)) = footing s :=
    (steady_badStep l _).footing.trans (footing_badTaken l w s)
  have own : (badStep l (badTaken l w s)).host.ownChannel = s.host.ownChannel := congrArg Footing.ownChannel stood
  have config : (badStep l (badTaken l w s)).host.config = s.host.config := congrArg Footing.config stood
  have cycle : (badStep l (badTaken l w s)).time.treeCycle = s.time.treeCycle := congrArg Footing.treeCycle stood
  have count : (badStep l (badTaken l w s)).time.localCount = s.time.localCount := congrArg Footing.localCount stood
  rw [afterBad, countSilence_of_reached silent' absent' (by rwa [silence]), goSilent, laneAt_changeLane, changeLane_host,
    empty, own, config, cycle]
  refine ⟨rfl, ?_, rfl⟩
  simp only [silentFields, ahead, count]

end

/-! ### What the two steps write, by the state the word finds -/

theorem badStep_badTaken_of_hold (hold : (laneAt s l).state = .hold) :
    badStep l (badTaken l w s) = setLane l { laneAt (badTaken l w s) l with goodCount := 0 } (badTaken l w s) :=
  badStep_of_hold (by rwa [laneAt_badTaken])

section
variable (hears : (laneAt s l).state = .seeking ∨ (laneAt s l).state = .heard ∨ (laneAt s l).state = .up)
include hears

theorem badStep_badTaken_of_first (first : (laneAt s l).badRun = false) : badStep l (badTaken l w s) =
    setLane l { laneAt (badTaken l w s) l with badRun := true, fillRun := 0, mismatchCount := 0 } (badTaken l w s) :=
  badStep_of_first (by rwa [laneAt_badTaken]) (by rwa [laneAt_badTaken])

/-- The second bad word of a run: one LANE-CHANGE to HOLD, and LANE set. -/
theorem badStep_badTaken_of_second (second : (laneAt s l).badRun = true) :
    (laneAt (badStep l (badTaken l w s)) l).state = .hold ∧ (laneAt (badStep l (badTaken l w s)) l).goodCount = 0 ∧
      (badStep l (badTaken l w s)).host = ((badTaken l w s).host.raise s.time.treeCycle
        (.laneChange (laneChannel s.host.ownChannel l) (laneAt s l).state .hold)).attend .lane := by
  have own : (badTaken l w s).host.ownChannel = s.host.ownChannel := congrArg Footing.ownChannel (footing_badTaken l w s)
  rw [badStep_of_second (by rwa [laneAt_badTaken]) (by rwa [laneAt_badTaken]), laneAt_attend, laneAt_changeLane,
    attend_host, changeLane_host, own, badTaken_time, laneAt_badTaken]
  exact ⟨rfl, rfl, rfl⟩

end

end Sys2Proof.Machine

namespace Sys2Proof.Proofs
open Sys2Proof.Machine

/-- Settles O21: the word is counted and breaks a notice (`badTaken`), the lane state machine takes it (`badStep`, by the state it finds),
and the silence timer stops short of its 64th word time (`afterBad_of_below`) or does not (`afterBad_of_reached`). -/
theorem laneChangesOnBadWords : Obligations.LaneChangesOnBadWords := by
  intro l w s run configured bad v change counted held
  have host : (badTaken l w s).host = counted := badTaken_host l w s
  refine ⟨_, exec_laneWord_of_bad run configured bad, afterBad_lastFill l w s, fun below silent absent => ?_, fun out => ?_,
    fun silent absent reached => ?_, fun below hold => ?_, fun below hears => ?_⟩
  · rw [afterBad_of_below silent absent below, laneAt_setLane_self]
  · have found : (laneAt (badTaken l w s) l).state = .silent ∨ (laneAt (badTaken l w s) l).state = .absent := by
      rwa [laneAt_badTaken]
    rw [afterBad, badStep_of_silent_or_absent found, countSilence_of_silent_or_absent found, laneAt_badTaken]
    exact ⟨rfl, host⟩
  · obtain ⟨state, absence, told⟩ := afterBad_of_reached (w := w) silent absent reached
    have hears (other : v.state ≠ .hold) := (awake_cases silent absent).resolve_left other
    rw [told]
    refine ⟨state, absence, fun hold => ?_, fun other first => ?_, fun other second => ?_⟩
    · rw [badStep_badTaken_of_hold hold, laneAt_setLane_self, setLane_host, host, laneAt_badTaken, hold]
    · rw [badStep_badTaken_of_first (hears other) first, laneAt_setLane_self, setLane_host, host, laneAt_badTaken]
    · obtain ⟨entered, -, changed⟩ := badStep_badTaken_of_second (w := w) (hears other) second
      rw [entered, changed, host]
  · have awake : v.state ≠ .silent ∧ v.state ≠ .absent := by simp [hold]
    rw [afterBad_of_below awake.1 awake.2 below, badStep_badTaken_of_hold hold, laneAt_setLane_self, laneAt_setLane_self,
      setLane_host, setLane_host, laneAt_badTaken]
    exact ⟨hold, rfl, host⟩
  · have awake : v.state ≠ .silent ∧ v.state ≠ .absent := by rcases hears with state | state | state <;> simp [state]
    rw [afterBad_of_below awake.1 awake.2 below, laneAt_setLane_self, setLane_host]
    refine ⟨fun first => ?_, fun second => ?_⟩
    · rw [badStep_badTaken_of_first hears first, laneAt_setLane_self, setLane_host, laneAt_badTaken]
      exact ⟨rfl, rfl, rfl, rfl, host⟩
    · obtain ⟨entered, count, changed⟩ := badStep_badTaken_of_second (w := w) hears second
      exact ⟨entered, count, changed.trans (by rw [host])⟩

end Sys2Proof.Proofs
end

section
/-! Silence, absence and the running flag of the FILLs (R131, R134, R138). -/

namespace Sys2Proof.Machine

variable {l : LaneNo} {s : State}

theorem exec_runningFlagTimeout (run : running s = true) :
    exec .runningFlagTimeout s = .next { s with link := { s.link with strobeWords := 320 } } :=
  congrArg Host.Outcome.next (if_pos run)

/-- A strobe taken in RUNNING restarts the word count, so the next FILL has its running flag set (R131). -/
theorem ownFill_running_of_strobe {epoch : Bool} {t : State} (run : running s = true)
    (taken : exec (.cycleStrobe epoch .counts) s = .next t) : (ownFill t).info.running = true := by
  obtain ⟨released, part⟩ := (running_iff s).1 run
  rw [exec_cycleStrobe released] at taken
  obtain rfl := Host.Outcome.next.inj taken
  have counted := (takeStrobe_in_running (part := .counts) (.inr rfl) part epoch).1
  have words : (takeStrobe epoch .counts s).link.strobeWords = 0 := congrArg (fun f => f.2.strobeWords) counted
  simp [ownFill, runningFlag, words]

/-- Only an UP lane holds a notice in assembly. -/
theorem LinkLaws.empty_of_not_up (laws : LinkLaws s) (down : (laneAt s l).state ≠ .up) : (laneAt s l).assembly = none :=
  Option.eq_none_iff_forall_not_mem.2 fun a held => down ((laws.lanes l).assembling a held).1

end Sys2Proof.Machine

namespace Sys2Proof.Proofs
open Sys2Proof.Machine

/-- Settles O16: each time-out of a lane is one `changeLane`, written out by `changeLane_eq`; a SILENT lane breaks no notice. -/
theorem linkTimeouts : Obligations.LinkTimeouts := by
  refine ⟨fun s run => ⟨exec_runningFlagTimeout run, fun t taken => ?_⟩, fun l s run configured laws => ?_⟩
  · rw [exec_runningFlagTimeout run] at taken
    obtain rfl := Host.Outcome.next.inj taken
    refine ⟨rfl, fun epoch u strobe => ownFill_running_of_strobe ?_ strobe⟩
    exact run
  · rw [exec_laneSilenceTimeout run configured, exec_laneAbsenceDeadline run configured]
    refine ⟨fun silent absent => ?_, fun out => ?_, fun d silent set reached => ?_, fun idle => ?_⟩
    · rw [takeSilence_of_awake silent absent, goSilent, changeLane_eq]
      rfl
    · rw [takeSilence_of_silent_or_absent out]
    · have empty : (laneAt s l).assembly = none := laws.empty_of_not_up (by simp [silent])
      rw [serveAbsence_of_due silent set reached, changeLane_eq, empty, silent]
      rfl
    · rw [serveAbsence_of_not_due idle]

end Sys2Proof.Proofs
end

section
/-! Notices broken, completed and refused (R140, R141, R190). -/

namespace Sys2Proof.Machine

variable {l : LaneNo} {w : LaneWord} {s : State} {a : Assembly} {n : Notice} {p : BitVec 28}

/-! ### The word counts of the kinds (R190) -/

/-- The number of BODY words of the kind that a code names (R190). -/
def bodiesOf (kind : BitVec 4) : Option Nat :=
  if kind = 4 then some 0
  else if kind ∈ [2#4, 3#4, 5#4, 9#4, 10#4, 11#4] then some 1
  else if kind ∈ [1#4, 6#4, 7#4, 8#4] then some 2
  else none

theorem bodiesOf_eq_some_iff (kind : BitVec 4) (bodies : Nat) : bodiesOf kind = some bodies ↔
    (kind = 4 ∧ bodies = 0) ∨ (kind ∈ [2#4, 3#4, 5#4, 9#4, 10#4, 11#4] ∧ bodies = 1) ∨
      (kind ∈ [1#4, 6#4, 7#4, 8#4] ∧ bodies = 2) := by
  have apart : ∀ k : BitVec 4, (k = 4 → k ∉ [2#4, 3#4, 5#4, 9#4, 10#4, 11#4] ∧ k ∉ [1#4, 6#4, 7#4, 8#4]) ∧
      (k ∈ [2#4, 3#4, 5#4, 9#4, 10#4, 11#4] → k ∉ [1#4, 6#4, 7#4, 8#4]) := by decide
  have kinds := apart kind
  unfold bodiesOf
  grind

theorem bodiesOf_le : ∀ kind, ∀ m ∈ bodiesOf kind, m ≤ 2 := by decide

/-- An assembly spells a notice where it holds as many words as its kind has. -/
theorem notice?_isSome (a : Assembly) : a.notice?.isSome = decide (bodiesOf a.kind = some a.bodies.length) := by
  obtain ⟨⟨kind⟩, count, field, bodies⟩ := a
  match bodies with
  | [] => fin_cases kind <;> rfl
  | [b] => fin_cases kind <;> rfl
  | [b, c] => fin_cases kind <;> rfl
  | b :: c :: d :: rest =>
    have many : bodiesOf ⟨kind⟩ ≠ some (rest.length + 3) := fun same => absurd (bodiesOf_le _ _ same) (by omega)
    refine Eq.trans ?_ (decide_eq_false many).symm
    fin_cases kind <;> rfl

theorem exists_notice_of_fits (fits : bodiesOf a.kind = some a.bodies.length) : ∃ n, a.notice? = some n :=
  Option.isSome_iff_exists.1 ((notice?_isSome a).trans (decide_eq_true fits))

theorem notice?_of_not_fits (unfit : bodiesOf a.kind ≠ some a.bodies.length) : a.notice? = none :=
  Option.isNone_iff_eq_none.1 (Option.isSome_eq_false_iff.1 ((notice?_isSome a).trans (decide_eq_false unfit)))

theorem notice?_of_quiet (count : BitVec 2) (field : BitVec 22) :
    (⟨4, count, field, []⟩ : Assembly).notice? = some (.quiet (field.extractLsb' 6 16) (field.extractLsb' 2 4)) :=
  rfl

/-! ### A notice placed (R140, R141) -/

/-- The notices discarded so far (R186). -/
def noticesDiscarded (s : State) : BitVec 16 :=
  s.host.counters[Counter.noticesDiscarded.index]

theorem noticesDiscarded_bump (s : State) : noticesDiscarded (bump .noticesDiscarded s) = countUp (noticesDiscarded s) :=
  counters_bump_self _ s.host

theorem noticesDiscarded_discardAssembly (l : LaneNo) (s : State) :
    noticesDiscarded (discardAssembly l s) =
      if (laneAt s l).assembly.isSome then countUp (noticesDiscarded s) else noticesDiscarded s := by
  rw [noticesDiscarded, discardAssembly_host, counters_discard_self]
  rfl

theorem meantFor_iff {own : Channel} : n.meantFor own = true ↔ n.addressee = none ∨ n.addressee = some own := by
  unfold Notice.meantFor
  cases n.addressee <;> simp

theorem deliverNotice_handed (l : LaneNo) (n : Notice) (s : State) :
    (deliverNotice l n s).handed = if n.addressee = none ∨ n.addressee = some s.host.ownChannel then
      s.handed ++ [.notice (laneChannel s.host.ownChannel l) n] else s.handed := by
  simp only [deliverNotice, meantFor_iff, apply_ite State.handed]
  rfl

theorem noticesDiscarded_deliverNotice (l : LaneNo) (n : Notice) (s : State) :
    noticesDiscarded (deliverNotice l n s) = noticesDiscarded s := by
  unfold deliverNotice
  split <;> rfl

/-- A notice short of its body count stays in assembly. -/
theorem placeAssembly_of_short (short : a.bodies.length ≠ a.bodyCount.toNat) :
    placeAssembly l a s = setLane l { laneAt s l with assembly := some a } s :=
  if_neg short

section
variable (complete : a.bodies.length = a.bodyCount.toNat)
include complete

theorem placeAssembly_of_complete :
    placeAssembly l a s = completeNotice l a (setLane l { laneAt s l with assembly := none } s) :=
  if_pos complete

theorem placeAssembly_assembly_of_complete : (laneAt (placeAssembly l a s) l).assembly = none := by
  rw [placeAssembly_of_complete complete]
  unfold completeNotice deliverNotice
  split
  · split <;> simp
  · simp

/-- A notice whose kind has another number of words, or whose code names no kind, is discarded and counted. -/
theorem placeAssembly_of_unfit (unfit : bodiesOf a.kind ≠ some a.bodies.length) :
    noticesDiscarded (placeAssembly l a s) = countUp (noticesDiscarded s) ∧ (placeAssembly l a s).handed = s.handed := by
  rw [placeAssembly_of_complete complete, completeNotice, notice?_of_not_fits unfit]
  exact ⟨noticesDiscarded_bump _, rfl⟩

theorem placeAssembly_of_spelled (spelled : a.notice? = some n) :
    noticesDiscarded (placeAssembly l a s) = noticesDiscarded s ∧
      (placeAssembly l a s).handed = if n.addressee = none ∨ n.addressee = some s.host.ownChannel then
        s.handed ++ [.notice (laneChannel s.host.ownChannel l) n] else s.handed := by
  rw [placeAssembly_of_complete complete, completeNotice, spelled]
  exact ⟨noticesDiscarded_deliverNotice .., deliverNotice_handed ..⟩

end

/-! ### The two rows -/

theorem afterBad_of_assembling (held : (laneAt s l).assembly.isSome = true) :
    noticesDiscarded (afterBad l w s) = countUp (noticesDiscarded s) ∧ (afterBad l w s).handed = s.handed := by
  have broken : (laneAt (badTaken l w s) l).assembly = none := by rw [laneAt_badTaken]
  have silence := receives_countSilence l (badStep l (badTaken l w s))
  have step := receives_badStep l (badTaken l w s)
  constructor
  · rw [noticesDiscarded, afterBad, silence.counters _ (by decide) fun _ => step.assembly broken,
      step.counters _ (by decide) fun _ => broken, badTaken_host, counters_discard_self, if_pos held,
      counters_bump_ne (badWords_index_ne l).1.symm]
    rfl
  · exact silence.handed.trans (step.handed.trans (badTaken_handed l w s))

/-- The lane state machine breaks no notice that assembly has broken. -/
theorem afterGood_of_empty (empty : (laneAt (goodTaken l w s) l).assembly = none) :
    noticesDiscarded (afterGood l w s) = noticesDiscarded (goodTaken l w s) ∧ (laneAt (afterGood l w s) l).assembly = none ∧
      (afterGood l w s).handed = (goodTaken l w s).handed :=
  have step := receives_goodStep l (fillOf w) (goodTaken l w s)
  ⟨step.counters _ (by decide) fun _ => empty, step.assembly empty, step.handed⟩

/-- A HEAD or BODY on an UP lane is a matter of assembly alone. -/
theorem afterGood_of_up (up : (laneAt s l).state = .up) (other : wordType w ≠ some .fill) :
    afterGood l w s = goodTaken l w s := by
  rw [afterGood, fillOf_of_no_fill other, goodStep_of_no_fill (by rw [goodTaken_state]; exact .inr (.inr up))]

theorem goodTaken_of_fill_discards (fill : wordType w = some .fill) :
    (laneAt (goodTaken l w s) l).assembly = none ∧ (goodTaken l w s).handed = s.handed ∧
      noticesDiscarded (goodTaken l w s) =
        if (laneAt s l).assembly.isSome then countUp (noticesDiscarded s) else noticesDiscarded s := by
  rw [goodTaken, assembleWord_of_fill fill, noticesDiscarded_discardAssembly, laneAt_discardAssembly,
    discardAssembly_handed, laneAt_setLane_self]
  exact ⟨rfl, rfl, rfl⟩

/-- A HEAD on an UP lane breaks the notice in assembly before its own is placed. -/
theorem goodTaken_of_head_up (up : (laneAt s l).state = .up) (head : wordType w = some .head) :
    goodTaken l w s =
      placeAssembly l (headOf (wordPayload w)) (discardAssembly l (setLane l (goodLane w (laneAt s l)) s)) := by
  rw [goodTaken, assembleWord_of_head head, assembleHead_of_up (by rwa [laneAt_setLane_self])]

theorem goodTaken_of_head_down (down : (laneAt s l).state ≠ .up) (head : wordType w = some .head) :
    goodTaken l w s = bump .noticesDiscarded (setLane l (goodLane w (laneAt s l)) s) := by
  rw [goodTaken, assembleWord_of_head head, assembleHead_of_not_up (by rwa [laneAt_setLane_self])]

theorem goodTaken_of_body_alone (empty : (laneAt s l).assembly = none) (body : wordType w = some .body) :
    goodTaken l w s = setLane l (goodLane w (laneAt s l)) s := by
  rw [goodTaken, assembleWord_of_body body, assembleBody_of_none (by rwa [laneAt_setLane_self])]

theorem goodTaken_of_body_assembling (held : (laneAt s l).assembly = some a) (body : wordType w = some .body) :
    goodTaken l w s = placeAssembly l { a with bodies := a.bodies ++ [wordPayload w] }
      (setLane l (goodLane w (laneAt s l)) s) := by
  rw [goodTaken, assembleWord_of_body body, assembleBody_of_some (by rwa [laneAt_setLane_self])]

/-! ### What becomes of each word -/

section
variable (up : (laneAt s l).state = .up) (head : wordType w = some .head)
include up head

/-- A new HEAD that begins a notice of its own breaks the one in assembly. -/
theorem afterGood_of_head_beginning (held : (laneAt s l).assembly.isSome = true)
    (more : (wordPayload w).extractLsb' 22 2 ≠ 0) :
    noticesDiscarded (afterGood l w s) = countUp (noticesDiscarded s) ∧ (afterGood l w s).handed = s.handed := by
  have short : (headOf (wordPayload w)).bodies.length ≠ (headOf (wordPayload w)).bodyCount.toNat := fun zero =>
    more (BitVec.eq_of_toNat_eq zero.symm)
  rw [afterGood_of_up up (by simp [head]), goodTaken_of_head_up up head, placeAssembly_of_short short, setLane_handed,
    discardAssembly_handed]
  refine ⟨?_, rfl⟩
  change noticesDiscarded (discardAssembly l (setLane l (goodLane w (laneAt s l)) s)) = _
  rw [noticesDiscarded_discardAssembly, laneAt_setLane_self]
  exact if_pos held

/-- A HEAD of body count 0 completes at once: it spells a QUIET or nothing. -/
theorem afterGood_of_head_alone (zero : (wordPayload w).extractLsb' 22 2 = 0) :
    let before := if (laneAt s l).assembly.isSome then countUp (noticesDiscarded s) else noticesDiscarded s
    (laneAt (afterGood l w s) l).assembly = none ∧
      ((wordPayload w).extractLsb' 24 4 ≠ 4 →
        noticesDiscarded (afterGood l w s) = countUp before ∧ (afterGood l w s).handed = s.handed) ∧
      ((wordPayload w).extractLsb' 24 4 = 4 →
        noticesDiscarded (afterGood l w s) = before ∧ (afterGood l w s).handed = s.handed ++
          [.notice (laneChannel s.host.ownChannel l)
            (.quiet ((wordPayload w).extractLsb' 6 16) ((wordPayload w).extractLsb' 2 4))]) := by
  have complete : (headOf (wordPayload w)).bodies.length = (headOf (wordPayload w)).bodyCount.toNat :=
    (congrArg BitVec.toNat zero).symm
  have broken : noticesDiscarded (discardAssembly l (setLane l (goodLane w (laneAt s l)) s)) =
      if (laneAt s l).assembly.isSome then countUp (noticesDiscarded s) else noticesDiscarded s := by
    rw [noticesDiscarded_discardAssembly, laneAt_setLane_self]
    rfl
  rw [afterGood_of_up up (by simp [head]), goodTaken_of_head_up up head]
  refine ⟨placeAssembly_assembly_of_complete complete, fun other => ?_, fun quiet => ?_⟩
  · have unfit : bodiesOf (headOf (wordPayload w)).kind ≠ some (headOf (wordPayload w)).bodies.length := by
      rw [Ne, bodiesOf_eq_some_iff]
      simpa [headOf] using other
    obtain ⟨counted, handed⟩ := placeAssembly_of_unfit complete unfit
    exact ⟨counted.trans (congrArg countUp broken), handed.trans (by simp)⟩
  · have spelled : (headOf (wordPayload w)).notice? =
        some (.quiet ((wordPayload w).extractLsb' 6 16) ((wordPayload w).extractLsb' 2 4)) := by
      have read : headOf (wordPayload w) =
          ⟨4, (wordPayload w).extractLsb' 22 2, (wordPayload w).extractLsb' 0 22, []⟩ := by rw [headOf, quiet]
      rw [read, notice?_of_quiet]
      congr 2
      · ext i
        simp
      · ext i
        simp
    obtain ⟨counted, handed⟩ := placeAssembly_of_spelled complete spelled
    refine ⟨counted.trans broken, handed.trans ?_⟩
    simp [Notice.addressee]

end

/-- A HEAD on a lane that is not UP is counted and not assembled. -/
theorem afterGood_of_head_down (down : (laneAt s l).state ≠ .up) (empty : (laneAt s l).assembly = none)
    (head : wordType w = some .head) :
    noticesDiscarded (afterGood l w s) = countUp (noticesDiscarded s) ∧ (laneAt (afterGood l w s) l).assembly = none ∧
      (afterGood l w s).handed = s.handed := by
  have taken := goodTaken_of_head_down down head
  have alone : (laneAt (goodTaken l w s) l).assembly = none := by
    rw [taken, laneAt_bump, laneAt_setLane_self]
    exact empty
  obtain ⟨counted, assembly, handed⟩ := afterGood_of_empty alone
  rw [counted, handed, taken, noticesDiscarded_bump]
  exact ⟨rfl, assembly, rfl⟩

/-- A BODY with no notice in assembly is ignored. -/
theorem afterGood_of_body_alone (empty : (laneAt s l).assembly = none) (body : wordType w = some .body) :
    noticesDiscarded (afterGood l w s) = noticesDiscarded s ∧ (laneAt (afterGood l w s) l).assembly = none ∧
      (afterGood l w s).handed = s.handed := by
  have taken := goodTaken_of_body_alone empty body
  have alone : (laneAt (goodTaken l w s) l).assembly = none := by
    rw [taken, laneAt_setLane_self]
    exact empty
  obtain ⟨counted, assembly, handed⟩ := afterGood_of_empty alone
  rw [counted, handed, taken]
  exact ⟨rfl, assembly, rfl⟩

/-- A BODY of the notice in assembly is placed in it. -/
theorem afterGood_of_body_assembling (up : (laneAt s l).state = .up) (held : (laneAt s l).assembly = some a)
    (body : wordType w = some .body) :
    afterGood l w s = placeAssembly l { a with bodies := a.bodies ++ [wordPayload w] }
      (setLane l (goodLane w (laneAt s l)) s) := by
  rw [afterGood_of_up up (by simp [body]), goodTaken_of_body_assembling held body]

end Sys2Proof.Machine

namespace Sys2Proof.Proofs
open Sys2Proof.Machine

/-- Settles O24: assembly decides of each word what is counted (`placeAssembly`, `discardAssembly`), and the lane state machine breaks
no notice after it (`afterGood_of_empty`, `afterGood_of_up`). -/
theorem brokenNoticesAreCounted : Obligations.BrokenNoticesAreCounted := by
  intro l w s run configured v p count fits
  cases good : goodWord s l w with
  | false =>
    exact ⟨_, exec_laneWord_of_bad run configured good, fun _ held _ => afterBad_of_assembling held,
      fun _ _ no => absurd no Bool.false_ne_true, fun _ no => absurd no Bool.false_ne_true,
      fun _ no => absurd no Bool.false_ne_true, fun _ _ _ no => absurd no Bool.false_ne_true⟩
  | true =>
    refine ⟨_, exec_laneWord_of_good run configured good, fun up held broken => ?_,
      fun down empty _ head => afterGood_of_head_down down empty head,
      fun empty _ body => afterGood_of_body_alone empty body, fun up _ head zero => afterGood_of_head_alone up head zero,
      fun a up held _ body => ?_⟩
    · rcases broken with no | fill | ⟨head, more⟩
      · exact nomatch no
      · obtain ⟨empty, handed, counted⟩ := goodTaken_of_fill_discards (l := l) (s := s) fill
        obtain ⟨same, -, stood⟩ := afterGood_of_empty empty
        exact ⟨same.trans (counted.trans (if_pos held)), stood.trans handed⟩
      · exact afterGood_of_head_beginning up head held more
    · rw [afterGood_of_body_assembling up held body]
      have length : { a with bodies := a.bodies ++ [p] }.bodies.length = a.bodies.length + 1 := by simp
      have table : bodiesOf a.kind = some { a with bodies := a.bodies ++ [p] }.bodies.length ↔
          fits a.kind (a.bodies.length + 1) := by
        rw [length]
        exact bodiesOf_eq_some_iff _ _
      refine ⟨fun last => ?_, fun before => ?_⟩
      · have complete := length.trans last
        refine ⟨placeAssembly_assembly_of_complete complete, fun unfit => ?_, fun fit => ?_⟩
        · exact placeAssembly_of_unfit complete (mt table.1 unfit)
        · obtain ⟨n, spelled⟩ := exists_notice_of_fits (a := { a with bodies := a.bodies ++ [p] }) (table.2 fit)
          obtain ⟨counted, handed⟩ := placeAssembly_of_spelled complete spelled
          exact ⟨counted, n, spelled, handed⟩
      · rw [placeAssembly_of_short (length.trans_ne before.ne), laneAt_setLane_self]
        exact ⟨rfl, rfl, rfl⟩

end Sys2Proof.Proofs
end

section
/-! The transmitter: the fields of its FILLs and the word of each word time (R127, R128, R130, R131). -/

namespace Sys2Proof.Machine

variable {s : State}

/-! ### The hearing mask and the digest (R127, R128, R132) -/

/-- The mask over the three lanes, given which of them are heard. -/
def maskOf (own : Channel) (heard : LaneNo → Bool) : BitVec 4 :=
  (List.finRange 3).foldl (fun m l => if heard l then m ||| (1#4 <<< (laneChannel own l).val) else m) 0#4

theorem hearingMask_eq (own : Channel) (lanes : Vector Lane 3) :
    hearingMask own lanes = maskOf own fun l => lanes[l].hears :=
  rfl

/-- Each lane sets the bit of its channel, and no lane is wired to own channel. -/
theorem maskOf_getLsbD (own : Channel) (heard : LaneNo → Bool) :
    (∀ l, (maskOf own heard).getLsbD (laneChannel own l).val = heard l) ∧ (maskOf own heard).getLsbD own.val = false := by
  revert own heard
  decide

/-- A nibble of a number of 24 bits. -/
theorem nibble_eq (n i : Nat) (within : 4 * i + 4 ≤ 24) :
    (BitVec.ofNat 24 n).extractLsb' (4 * i) 4 = BitVec.ofNat 4 (n / 16 ^ i) := by
  apply BitVec.eq_of_toNat_eq
  rw [BitVec.extractLsb'_toNat, BitVec.toNat_ofNat, BitVec.toNat_ofNat, Nat.shiftRight_eq_div_pow]
  have few : i < 6 := by omega
  interval_cases i <;> omega

theorem digest_eq (c : Configuration) :
    let nibble := fun i : Nat => BitVec.ofNat 4 (c.treeLoopTime / 16 ^ i)
    digest c = nibble 5 ^^^ nibble 4 ^^^ nibble 3 ^^^ nibble 2 ^^^ nibble 1 ^^^ nibble 0 ^^^ BitVec.ofNat 4 c.lead ^^^
      BitVec.ofNat 4 c.channelCount := by
  intro nibble
  have nibbles (i : Nat) (within : 4 * i + 4 ≤ 24) : (BitVec.ofNat 24 c.treeLoopTime).extractLsb' (4 * i) 4 = nibble i :=
    nibble_eq _ i within
  rw [← nibbles 5 (by decide), ← nibbles 4 (by decide), ← nibbles 3 (by decide), ← nibbles 2 (by decide),
    ← nibbles 1 (by decide), ← nibbles 0 (by decide)]
  rfl

/-! ### One word time (R130) -/

/-- The state with one word time more counted since the last strobe (R131). -/
def wordTimeCounted (s : State) : State :=
  { s with link := countWordTime s.link }

theorem exec_transmitWordTime (run : running s = true) :
    exec .transmitWordTime s = .next (sendNext (wordTimeCounted s)) :=
  congrArg Host.Outcome.next (if_pos run)

theorem sendNext_of_partly_sent {w : BitVec 30} {rest : List (BitVec 30)} (partly : s.link.sending = w :: rest) :
    sendNext s = sendNoticeWord w rest s := by
  simp [sendNext, partly]

theorem sendNext_of_fill (whole : s.link.sending = []) (due : s.link.outbound = [] ∨ 16 ≤ s.link.sinceFill) :
    sendNext s = sendFill s := by
  rcases due with empty | due
  · simp [sendNext, whole, empty]
  · simp [sendNext, whole, due]

theorem sendNext_of_head {n : Notice} {queue : List Notice} {head : BitVec 30} {bodies : List (BitVec 30)}
    (whole : s.link.sending = []) (early : s.link.sinceFill < 16) (waiting : s.link.outbound = n :: queue)
    (spelled : n.words = head :: bodies) :
    sendNext s = sendNoticeWord head bodies { s with link := { s.link with outbound := queue } } := by
  simp [sendNext, whole, early.not_ge, waiting, spelled]

end Sys2Proof.Machine

namespace Sys2Proof.Proofs
open Sys2Proof.Machine

/-- Settles O18: the mask lane by lane (`maskOf_getLsbD`), the digest nibble by nibble (`nibble_eq`), and R130's three rules in order
(`sendNext`) on the link with one word time more. -/
theorem transmitterChoosesTheWord : Obligations.TransmitterChoosesTheWord := by
  refine ⟨fun s => maskOf_getLsbD _ _, digest_eq, fun s run => ?_⟩
  have sent {t : State} (same : sendNext (wordTimeCounted s) = t) : exec .transmitWordTime s = .next t :=
    (exec_transmitWordTime run).trans (congrArg Host.Outcome.next same)
  exact ⟨fun w rest partly => sent (sendNext_of_partly_sent partly), fun whole due => sent (sendNext_of_fill whole due),
    fun n queue head bodies whole early waiting spelled => sent (sendNext_of_head whole early waiting spelled)⟩

end Sys2Proof.Proofs
end

section
/-! The notices of one lane, taken in the order they completed (R141, R143). -/

namespace Sys2Proof.Machine

variable {α : Type} {sel : Handoff → Option α} {s : State} {p c : Channel} {n m : Notice} {x : Identity}

/-! ### The scheduler's work moves no hand-off but placements -/

section
variable (unread : ∀ h x cycle offset, sel (.placed h x cycle offset) = none)
include unread

theorem selected_takeAllPlacements (s : State) :
    (takeAllPlacements s).handed.filterMap sel = s.handed.filterMap sel := by
  have all (l : List RangePlacement) : ∀ t : State,
      (l.foldl (fun t p => takeOnePlacement p t) t).handed.filterMap sel = t.handed.filterMap sel := by
    induction l with
    | nil => exact fun t => rfl
    | cons q l ih =>
      intro t
      rw [List.foldl_cons, ih, takeOnePlacement_handed]
      exact filterMap_erase_of_none (unread ..) _
  exact all _ s

theorem selected_place (g : DirectedGrant) (s : State) : (place g s).handed.filterMap sel = s.handed.filterMap sel := by
  change (handPlacement g (reserveGrant g s)).handed.filterMap sel = (reserveGrant g s).handed.filterMap sel
  generalize reserveGrant g s = t
  unfold handPlacement
  split
  · rw [hand_handed, List.filterMap_append, List.filterMap_cons_none (unread ..), List.filterMap_nil, List.append_nil]
  · have taken : (takeVerifyPlacement g.handle g.identity (takeAllPlacements t)).handed = (takeAllPlacements t).handed := by
      unfold takeVerifyPlacement
      cases recordAt (takeAllPlacements t) g.handle <;> simp [apply_ite State.handed]
    rw [taken, selected_takeAllPlacements unread]

theorem selected_owedScheduler (s : State) : (owedScheduler s).handed.filterMap sel = s.handed.filterMap sel := by
  have one (t : State) (q : Request) : (retryRequest t q).handed.filterMap sel = t.handed.filterMap sel := by
    unfold retryRequest
    split
    · exact selected_place unread _ _
    · rfl
  have retried (l : List Request) : ∀ t : State, (l.foldl retryRequest t).handed.filterMap sel = t.handed.filterMap sel := by
    induction l with
    | nil => exact fun t => rfl
    | cons q l ih => exact fun t => (ih _).trans (one t q)
  unfold owedScheduler
  split
  · rw [schedulerWork, retryPlacements, retried]
    simp [removePassedSpans]
  · rfl

theorem selected_request (q : Request) (s : State) : (request q s).handed.filterMap sel = s.handed.filterMap sel := by
  rw [← selected_owedScheduler unread s, request]
  rcases meetRequest_cases q (owedScheduler s) with same | same | ⟨g, -, -, same⟩ <;> rw [same]
  exact selected_place unread g _

end

/-! ### What the owner of a notice makes of it leaves the notices that wait -/

theorem freeForClaim_handed (h : Handle) (x : Identity) (p : Channel) (drop : Bool) (offeredTo : Option Channel) (s : State) :
    (freeForClaim h x p drop offeredTo s).handed = s.handed := by
  cases offeredTo <;> cases drop <;> simp [freeForClaim, queueDrop]

theorem takeClaim_handed (p : Channel) (x : Identity) (heard : TreeCycle) (s : State) :
    (takeClaim p x heard s).handed = s.handed := by
  unfold takeClaim
  split
  · rfl
  · split <;> simp [apply_ite State.handed, freeForClaim_handed]

theorem takeObject_handed (q : Channel) (x : Identity) (s : State) : (takeObject q x s).handed = s.handed := by
  unfold takeObject
  split
  · rfl
  · split <;> simp

theorem takeCross_handed (p : Channel) (x : Identity) (s : State) : (takeCross p x s).handed = s.handed := by
  unfold takeCross
  split
  · rfl
  · simp [apply_ite State.handed]

theorem takeAccept_handed (p : Channel) (x : Identity) (g : Handle) (s : State) : (takeAccept p x g s).handed = s.handed := by
  unfold takeAccept
  split
  · simp
  · split <;> simp [apply_ite State.handed]

theorem takeDecline_handed (p : Channel) (x : Identity) (reason : BitVec 4) (s : State) :
    (takeDecline p x reason s).handed = s.handed := by
  unfold takeDecline
  split
  · rfl
  · split <;> simp [apply_ite State.handed, endOffer]

theorem takeTaken_handed (p : Channel) (x : Identity) (s : State) : (takeTaken p x s).handed = s.handed := by
  unfold takeTaken
  split
  · rfl
  · split <;> simp [handoverDone]

theorem takeLapsed_handed (p : Channel) (x : Identity) (s : State) : (takeLapsed p x s).handed = s.handed := by
  unfold takeLapsed
  split
  · rfl
  · split <;> simp [apply_ite State.handed, lapseSource, makeLost]

theorem takeWithdraw_handed (p : Channel) (x : Identity) (s : State) : (takeWithdraw p x s).handed = s.handed := by
  unfold takeWithdraw
  split
  · rfl
  · split <;> simp [apply_ite State.handed]

theorem selected_takeHandoff (unread : ∀ h x cycle offset, sel (.placed h x cycle offset) = none) (p : Channel) (x : Identity)
    (delay : BitVec 21) (s : State) : (takeHandoff p x delay s).handed.filterMap sel = s.handed.filterMap sel := by
  change (answerHandoff p x delay.toNat (uncontest x s)).handed.filterMap sel = (uncontest x s).handed.filterMap sel
  generalize uncontest x s = t
  have declined (reason : DeclinedBy) : (answerDecline p x reason t).handed = t.handed := queueNotice_handed _ t
  unfold answerHandoff
  split
  · rw [declined]
  · split
    · rw [declined]
    · split
      · rw [declined]
      · split
        · rw [declined]
        · rw [acceptHandoff, askVerify, selected_request unread, queueNotice_handed, setRecord_handed]

/-- QUIET and HANDOFF have the scheduler's work done first, which moves placements alone; the others touch no hand-off. -/
theorem selected_actOn (unread : ∀ h x cycle offset, sel (.placed h x cycle offset) = none) (p : Channel) (n : Notice)
    (s : State) : (actOn p n s).handed.filterMap sel = s.handed.filterMap sel := by
  cases n with
  | claim x heard => exact congrArg _ (takeClaim_handed p x heard s)
  | object x claimant => exact congrArg _ (takeObject_handed p x s)
  | release x => rfl
  | quiet first length =>
    rw [← selected_owedScheduler unread s]
    refine congrArg _ ?_
    change (reserveQuiet p first length (owedScheduler s)).handed = (owedScheduler s).handed
    simp [reserveQuiet, apply_ite State.handed]
  | cross x down => exact congrArg _ (takeCross_handed p x s)
  | handoff x target delay => exact selected_takeHandoff unread p x delay s
  | accept x source newHandle => exact congrArg _ (takeAccept_handed p x newHandle s)
  | decline x source reason => exact congrArg _ (takeDecline_handed p x reason s)
  | taken x source => exact congrArg _ (takeTaken_handed p x s)
  | lapsed x source => exact congrArg _ (takeLapsed_handed p x s)
  | withdraw x target => exact congrArg _ (takeWithdraw_handed p x s)

/-! ### The notices of a sender -/

theorem noticeFrom_eq_some {y : Handoff} : noticeFrom p y = some n ↔ y = .notice p n := by
  cases y with
  | notice q k =>
    simp only [noticeFrom, Option.ite_none_right_eq_some, Option.some.injEq, Handoff.notice.injEq]
  | _ => simp [noticeFrom]

/-- The oldest notice taken: it alone waits no longer. -/
theorem notices_takeNotice {rest : List Notice} (oldest : s.handed.filterMap (noticeFrom p) = m :: rest) :
    (takeNotice p m s).handed.filterMap (noticeFrom p) = rest := by
  have taken : (takeEvent (.notice p m) s).handed.filterMap (noticeFrom p) = rest :=
    filterMap_erase_of_oldest (fun _ => noticeFrom_eq_some) oldest
  unfold takeNotice
  dsimp only
  split
  · rw [selected_actOn fun _ _ _ _ => rfl, taken]
  · exact taken

/-- The oldest of those before a hand-off is the oldest of all that are selected. -/
theorem selected_of_older [DecidableEq α] {a b : α} {rest : List α} (older : olderHanded sel a s = b :: rest) :
    ∃ later, s.handed.filterMap sel = b :: later ∧ later.takeWhile (· ≠ a) = rest := by
  unfold olderHanded at older
  cases waiting : s.handed.filterMap sel with
  | nil => exact nomatch waiting ▸ older
  | cons d later =>
    rw [waiting, List.takeWhile_cons] at older
    split at older
    · obtain ⟨rfl, left⟩ := List.cons.inj older
      exact ⟨later, rfl, left⟩
    · exact nomatch older

/-! ### The row -/

theorem exec_row_notice (p : Channel) (n : Notice) (s : State) : exec (n.row p) s = .next (noticeRow p n s) := by
  cases n <;> rfl

theorem noticeRow_of_meant (run : running s = true) (meant : n.meantFor s.host.ownChannel = true) :
    noticeRow p n s = takeInOrder (noticeFrom p) (takeNotice p) n s :=
  if_pos (by rw [run, meant]; rfl)

/-- Where older notices of the sender wait, the oldest of them is taken first. -/
theorem noticeRow_of_older {rest : List Notice} (run : running s = true) (older : olderNotices p n s = m :: rest)
    (meant : n.meantFor s.host.ownChannel = true) (oldestMeant : m.meantFor s.host.ownChannel = true) :
    noticeRow p m s = takeNotice p m s ∧ olderNotices p n (takeNotice p m s) = rest ∧
      noticeRow p n s = noticeRow p n (takeNotice p m s) := by
  obtain ⟨later, waiting, before⟩ := selected_of_older older
  have first : olderHanded (noticeFrom p) m s = [] := by simp [olderHanded, waiting]
  have left : olderNotices p n (takeNotice p m s) = rest := by
    rw [olderNotices, olderHanded, notices_takeNotice waiting, before]
  have stood := standing_takeNotice p m s
  have own : (takeNotice p m s).host.ownChannel = s.host.ownChannel :=
    congrArg Footing.ownChannel (footing_eq_of_standing_eq stood)
  refine ⟨?_, left, ?_⟩
  · rw [noticeRow_of_meant run oldestMeant, takeInOrder_of_first first]
  · rw [noticeRow_of_meant run meant, noticeRow_of_meant ((running_of_standing_eq stood).trans run) (by rwa [own]),
      takeInOrder_of_older older left]

end Sys2Proof.Machine

namespace Sys2Proof.Proofs
open Sys2Proof.Machine

/-- Settles O25: a notice for another part leaves the state (`noticeRow_of_other`); the notices of a sender are taken in their order
(`noticeRow_of_older`), since the owner of one leaves those that wait (`selected_actOn`). -/
theorem noticeDelivery : Obligations.NoticeDelivery := by
  refine ⟨fun p c x s other => ?_, fun p n before after s split first => ?_, fun p n s absent => ?_,
    fun p n y => noticeFrom_eq_some, fun p n m rest s run older meant oldestMeant => ?_⟩
  · have ignored {n : Notice} (addressed : n.addressee = some c) : exec (n.row p) s = .next s := by
      rw [exec_row_notice, noticeRow_of_other (by simp [Notice.meantFor, addressed, other])]
    exact ⟨ignored (n := .object x c) rfl, ignored (n := .cross x c) rfl, fun delay => ignored (n := .handoff x c delay) rfl,
      fun g => ignored (n := .accept x c g) rfl, fun reason => ignored (n := .decline x c reason) rfl,
      ignored (n := .taken x c) rfl, ignored (n := .lapsed x c) rfl, ignored (n := .withdraw x c) rfl⟩
  · refine olderHanded_of_split split (noticeFrom_eq_some.2 rfl) fun y mem read => first ?_
    rwa [← noticeFrom_eq_some.1 read]
  · refine olderHanded_of_absent fun y mem read => absent ?_
    rwa [← noticeFrom_eq_some.1 read]
  · obtain ⟨taken, left, same⟩ := noticeRow_of_older run older (meantFor_iff.2 meant) (meantFor_iff.2 oldestMeant)
    exact ⟨_, by rw [exec_row_notice, taken], left, by rw [exec_row_notice, exec_row_notice, same]⟩

end Sys2Proof.Proofs
end

section
/-! The tree notices CLAIM, OBJECT and CROSS, and the cross-heard burst (R144 to R154). -/

namespace Sys2Proof.Machine

variable {s : State} {p q : Channel} {x : Identity} {h : Handle} {heard : TreeCycle}

/-! ### The rows -/

theorem exec_claim (run : running s = true) (first : olderNotices p (.claim x heard) s = []) :
    exec (.claim p x heard) s = .next (takeClaim p x heard { s with handed := s.handed.erase (.notice p (.claim x heard)) }) :=
  congrArg Host.Outcome.next (noticeRow_of_first run rfl first)

theorem exec_object (run : running s = true) (first : olderNotices q (.object x s.host.ownChannel) s = []) :
    exec (.object q x s.host.ownChannel) s =
      .next (takeObject q x { s with handed := s.handed.erase (.notice q (.object x s.host.ownChannel)) }) :=
  congrArg Host.Outcome.next (noticeRow_of_first run (meantFor_iff.2 (.inr rfl)) first)

theorem exec_cross (run : running s = true) (first : olderNotices p (.cross x s.host.ownChannel) s = []) :
    exec (.cross p x s.host.ownChannel) s =
      .next (takeCross p x { s with handed := s.handed.erase (.notice p (.cross x s.host.ownChannel)) }) :=
  congrArg Host.Outcome.next (noticeRow_of_first run (meantFor_iff.2 (.inr rfl)) first)

theorem exec_crossHeardBurst {b : CrossHeard} (run : running s = true) :
    exec (.crossHeardBurst b) s = .next (takeCrossHeard b { s with handed := s.handed.erase (.crossHeard b) }) :=
  congrArg Host.Outcome.next (if_pos run)

/-! ### A record freed -/

theorem recordAt_freeRecord_self (h : Handle) (s : State) : recordAt (freeRecord h s) h = .free :=
  recordAt_setRecord_self ..

theorem recordAt_freeRecord_ne {g : Handle} (s : State) (other : g ≠ h) : recordAt (freeRecord h s) g = recordAt s g := by
  rw [freeRecord, recordAt_setRecord_ne _ _ other, recordAt_withdrawRequest]

theorem freeRecord_contested (h : Handle) (s : State) : (freeRecord h s).table.contested = s.table.contested := by
  simp [freeRecord, setRecord]

theorem recordAt_contest (x : Identity) (s : State) (g : Handle) : recordAt (contest x s) g = recordAt s g := rfl

/-! ### CLAIM -/

theorem yields_iff {own : Channel} {ownHeard : TreeCycle} : yields own p ownHeard heard = true ↔
    cycleDiff heard ownHeard < 0 ∨ (cycleDiff heard ownHeard = 0 ∧ p < own) := by
  simp [yields]

theorem isFresh_iff {t : Tracking} :
    isFresh s t = true ↔ (s.time.localCount - t.lastGood).toNat ≤ s.host.config.freshness :=
  decide_eq_true_iff

theorem takeClaim_of_not_held (unheld : holder s x = none) : takeClaim p x heard s = s := by
  simp only [takeClaim, unheld]

theorem takeClaim_of_pending {own : HeardAt} {d : LocalCount} (held : holder s x = some h)
    (pending : recordAt s h = .pending x own d) : takeClaim p x heard s =
      if yields s.host.ownChannel p own.cycle heard then raise (.claimYielded h x p) (freeRecord h s) else s := by
  simp only [takeClaim, held, pending]

/-- A tracked record: OBJECT for a fresh one; a stale one is freed, its offer withdrawn where it has one (R146, R147). -/
theorem takeClaim_of_tracked {t : Tracking} {withdrawn : State → State} (held : holder s x = some h)
    (tracked : (recordAt s h = .active x t ∧ withdrawn = id) ∨
      ∃ peer d, recordAt s h = .offering x t peer d ∧ withdrawn = queueNotice (.withdraw x peer)) :
    takeClaim p x heard s = if isFresh s t then queueNotice (.object x p) s else
      raise (.released h x (.peerClaim p)) (freeRecord h
        (queueNotice (.release x) (withdrawn (queueMessage (.drop (.byHandle h) .peer) none s)))) := by
  rcases tracked with ⟨active, rfl⟩ | ⟨peer, d, offering, rfl⟩
  · simp only [takeClaim, held, active, freeForClaim, queueDrop, dropAddress, if_true, id]
  · simp only [takeClaim, held, offering, freeForClaim, queueDrop, dropAddress, if_true]

theorem takeClaim_of_ranging {r : RangingFields} (held : holder s x = some h) (ranging : recordAt s h = .ranging x r) :
    takeClaim p x heard s = raise (.released h x (.peerClaim p)) (freeRecord h (queueNotice (.release x)
      (queueMessage (.drop (if r.stage = .awaitAssign then .byIdentity x else .byHandle h) .peer) none s))) := by
  simp only [takeClaim, held, ranging, freeForClaim, queueDrop, dropAddress, if_true]

/-- A record whose terminal is not being served here is freed without a DROP (R147). -/
theorem takeClaim_of_away (held : holder s x = some h)
    (away : (recordAt s h).state = .lost ∨ (recordAt s h).state = .leaving ∨ (recordAt s h).state = .arriving) :
    takeClaim p x heard s =
      raise (.released h x (.peerClaim p)) (freeRecord h (queueNotice (.release x) s)) := by
  cases record : recordAt s h with
  | lost | leaving | arriving => simp [takeClaim, held, record, freeForClaim]
  | free | pending | ranging | active | offering => simp [record, Record.state] at away

/-! ### OBJECT -/

theorem takeObject_of_pending {own : HeardAt} {d : LocalCount} (held : holder s x = some h)
    (pending : recordAt s h = .pending x own d) :
    takeObject q x s = attend .duplicate (raise (.duplicate h x q) (contest x (freeRecord h s))) := by
  simp only [takeObject, held, pending]

theorem takeObject_of_not_pending (other : ∀ h, holder s x = some h → (recordAt s h).state ≠ .pending) :
    takeObject q x s = s := by
  unfold takeObject
  cases held : holder s x with
  | none => rfl
  | some h =>
    cases record : recordAt s h with
    | pending => exact absurd (congrArg Record.state record) (other h held)
    | free | ranging | active | offering | leaving | arriving | lost => simp only [record]

/-! ### CROSS and the cross-heard burst -/

theorem takeCross_of_held (held : (holder s x).isSome) : takeCross p x s = s := by
  obtain ⟨h, found⟩ := Option.isSome_iff_exists.1 held
  simp only [takeCross, found]

theorem takeCross_of_not_held (unheld : holder s x = none) : takeCross p x s =
    if s.builder.backlog.length < 256 then raise (.tuneSent x p) (queueMessage (.tune x p) none s)
    else queueMessage (.tune x p) none s := by
  simp only [takeCross, unheld, backlogRoom_iff]

end Sys2Proof.Machine

namespace Sys2Proof.Proofs
open Sys2Proof.Machine

/-- Settles O26: the row takes the CLAIM (`exec_claim`), and the PENDING record yields as R145 compares the hearings (`yields_iff`). -/
theorem claimTieBreak : Obligations.ClaimTieBreak := by
  intro p x heard s run first s'
  rw [exec_claim run first]
  refine ⟨fun unheld => congrArg _ (takeClaim_of_not_held unheld), fun h own d held pending => ?_⟩
  intro diff
  rw [takeClaim_of_pending (s := s') held pending]
  exact ⟨fun earlier => congrArg _ (if_pos (yields_iff.2 earlier)),
    fun later => congrArg _ (if_neg (mt yields_iff.1 later))⟩

/-- Settles O27: by the state of the record that holds the identity, and for a tracked one by its freshness (`isFresh_iff`). -/
theorem claimAgainstAnEstablishedRecord : Obligations.ClaimAgainstAnEstablishedRecord := by
  refine ⟨fun p x heard h t withdrawn s run first held tracked => ?_, fun p x heard h s run first held => ?_⟩
  · intro s'
    rw [exec_claim run first, takeClaim_of_tracked (s := s') held tracked]
    exact ⟨fun fresh => congrArg _ (if_pos (isFresh_iff.2 fresh)),
      fun stale => congrArg _ (if_neg (mt isFresh_iff.1 (Nat.not_le.2 stale)))⟩
  · intro s'
    rw [exec_claim run first]
    exact ⟨fun r ranging => congrArg _ (takeClaim_of_ranging held ranging), fun away => congrArg _ (takeClaim_of_away held away)⟩

/-- Settles O28: a PENDING record is freed and then contested (`takeObject_of_pending`); an OBJECT changes nothing otherwise. -/
theorem objectContestsAPendingRecord : Obligations.ObjectContestsAPendingRecord := by
  intro q x s run first s'
  rw [exec_object run first]
  refine ⟨fun h own d held pending => ?_, fun other => congrArg _ (takeObject_of_not_pending other)⟩
  refine ⟨_, congrArg _ (takeObject_of_pending (s := s') held pending), ?_, ?_, ?_, ?_, ?_, fun g ne => ?_⟩
  · rw [recordAt_attend, recordAt_raise, recordAt_contest, recordAt_freeRecord_self]
  · simp [contest, freeRecord_contested, ahead, s']
  · simp [HostPort.attend, Attention.set, s']
  · simp [s']
  · simp [s']
  · rw [recordAt_attend, recordAt_raise, recordAt_contest, recordAt_freeRecord_ne _ ne]
    rfl

/-- Settles O30: the burst by whether its down-channel exists; a CROSS by whether the identity is held here, and by the backlog's room
(`takeCross_of_held`, `takeCross_of_not_held`). -/
theorem crossHeardTerminals : Obligations.CrossHeardTerminals := by
  refine ⟨fun b s run => ?_, fun p x s run first => ?_⟩
  · intro s'
    rw [exec_crossHeardBurst run]
    exact ⟨fun listed => congrArg _ (if_pos listed), fun unlisted => congrArg _ (if_neg (Nat.not_lt.2 unlisted))⟩
  · intro s'
    rw [exec_cross run first]
    refine ⟨fun held => congrArg _ (takeCross_of_held held), fun unheld room => ?_, fun unheld full => ?_⟩
    · exact congrArg _ ((takeCross_of_not_held (s := s') unheld).trans (if_pos room))
    · exact congrArg _ ((takeCross_of_not_held (s := s') unheld).trans (if_neg (Nat.not_lt.2 full)))

end Sys2Proof.Proofs
end

section
/-! The target's answer to a HANDOFF (R159, R160), and the source's handling of ACCEPT and DECLINE (R161, R162). -/

namespace Sys2Proof.Machine

variable {s : State} {p peer : Channel} {x : Identity} {h g : Handle} {n : Notice} {delay : Nat} {t : Tracking} {d : LocalCount}

/-- The row of a notice addressed to this part, none of its lane's older ones waiting. -/
theorem exec_row_of_addressed (run : running s = true) (addressed : n.addressee = some s.host.ownChannel)
    (first : olderNotices p n s = []) :
    exec (n.row p) s = .next (actOn p n { s with handed := s.handed.erase (.notice p n) }) := by
  rw [exec_row_notice, noticeRow_of_first run (meantFor_iff.2 (.inr addressed)) first]

/-! ### The answer to a HANDOFF (R159) -/

theorem runningFlag_iff (l : PeerLink) : runningFlag l = true ↔ l.strobeWords < 320 :=
  decide_eq_true_iff

theorem answerHandoff_of_stopped (stopped : 320 ≤ s.link.strobeWords) :
    answerHandoff p x delay s = queueNotice (.decline x p 3) s := by
  simp [answerHandoff, runningFlag_iff, stopped, answerDecline, declineCode]

section
variable (strobed : s.link.strobeWords < 320)
include strobed

theorem answerHandoff_of_barred (barred : x ∈ s.table.barred) :
    answerHandoff p x delay s = queueNotice (.decline x p 1) s := by
  simp [answerHandoff, runningFlag_iff, isBarred_iff, strobed, barred, answerDecline, declineCode]

variable (unbarred : x ∉ s.table.barred)
include unbarred

theorem answerHandoff_of_held (held : (holder s x).isSome) : answerHandoff p x delay s = queueNotice (.decline x p 2) s := by
  simp [answerHandoff, runningFlag_iff, isBarred_iff, strobed, unbarred, held, answerDecline, declineCode]

theorem answerHandoff_of_full (unheld : holder s x = none) (full : lowestFree s = none) :
    answerHandoff p x delay s = queueNotice (.decline x p 0) s := by
  simp [answerHandoff, runningFlag_iff, isBarred_iff, strobed, unbarred, unheld, full, answerDecline, declineCode]

theorem answerHandoff_of_free (unheld : holder s x = none) (free : lowestFree s = some h) :
    answerHandoff p x delay s = acceptHandoff h p x delay s := by
  simp [answerHandoff, runningFlag_iff, isBarred_iff, strobed, unbarred, unheld, free]

end

/-! ### The answer at the source -/

/-- What the record found by identity holds is that identity. -/
theorem identity_of_holder {r : Record} (held : holder s x = some h) (record : recordAt s h = r) : r.identity? = some x :=
  record ▸ holder_holds held

/-- No record offers `x` to `p`. -/
def NotOffered (s : State) (x : Identity) (p : Channel) : Prop :=
  ∀ h t d, holder s x = some h → recordAt s h ≠ .offering x t p d

/-- A record that is not offered to `p` is offered to another channel. -/
theorem NotOffered.peer_ne {y : Identity} (other : NotOffered s x p) (held : holder s x = some h)
    (record : recordAt s h = .offering y t peer d) : peer ≠ p := by
  rintro rfl
  obtain rfl : y = x := Option.some.inj (identity_of_holder held record)
  exact other h t d held record

theorem takeAccept_of_offered (held : holder s x = some h) (record : recordAt s h = .offering x t p d) :
    takeAccept p x g s = queueMessage (.retune h p g) (some x)
      (setRecord h (.leaving x t.launchDelay p g (ahead s s.host.config.handoverTime)) s) := by
  simp only [takeAccept, held, record, if_true]

theorem takeAccept_of_other (other : NotOffered s x p) : takeAccept p x g s = queueNotice (.withdraw x p) s := by
  unfold takeAccept
  cases held : holder s x with
  | none => rfl
  | some h =>
    cases record : recordAt s h with
    | offering y t peer d => simp only [record, if_neg (other.peer_ne held record)]
    | free | pending | ranging | active | leaving | arriving | lost => simp only [record]

/-- R162's reasons by their codes (R190). -/
theorem declineReason_eq (r : BitVec 4) : declineReason r =
    if r = 0 then .full else if r = 1 then .barred else if r = 2 then .present else if r = 3 then .notRunning else .unknown := by
  revert r
  decide

theorem takeDecline_of_offered (r : BitVec 4) (held : holder s x = some h) (record : recordAt s h = .offering x t p d) :
    takeDecline p x r s = raise (.handoverDeclined h x p (declineReason r)) (setRecord h (.active x t) s) := by
  simp only [takeDecline, held, record, if_true, endOffer]

theorem takeDecline_of_other (r : BitVec 4) (other : NotOffered s x p) : takeDecline p x r s = s := by
  unfold takeDecline
  cases held : holder s x with
  | none => rfl
  | some h =>
    cases record : recordAt s h with
    | offering y t peer d => simp only [record, if_neg (other.peer_ne held record)]
    | free | pending | ranging | active | leaving | arriving | lost => simp only [record]

end Sys2Proof.Machine

namespace Sys2Proof.Proofs
open Sys2Proof.Machine

/-- Settles O31: the contested entry is removed first (`exec_handoff`), then R159's cases in their order; the delay kept is R19's. -/
theorem handoffAnswers : Obligations.HandoffAnswers := by
  intro p x delay s run first c s'
  have answered {u : State} (same : answerHandoff p x delay.toNat s' = u) : exec (.handoff p x c delay) s = .next u :=
    (exec_handoff run first).trans (congrArg Host.Outcome.next same)
  exact ⟨fun stopped => answered (answerHandoff_of_stopped (s := s') stopped),
    fun strobed barred => answered (answerHandoff_of_barred (s := s') strobed barred),
    fun strobed unbarred held => answered (answerHandoff_of_held (s := s') strobed unbarred held),
    fun strobed unbarred unheld full => answered (answerHandoff_of_full (s := s') strobed unbarred unheld full),
    fun h strobed unbarred unheld free => answered (answerHandoff_of_free (s := s') strobed unbarred unheld free)⟩

/-- Settles O32: by whether the record that holds the identity is offered to the sender (`NotOffered`). -/
theorem sourceTakesTheAnswer : Obligations.SourceTakesTheAnswer := by
  intro p x s run c
  refine ⟨fun g first => ?_, fun r first => ?_⟩
  · intro s'
    have taken {u : State} (same : takeAccept p x g s' = u) : exec (.accept p x c g) s = .next u :=
      (exec_row_of_addressed (n := .accept x c g) run rfl first).trans (congrArg Host.Outcome.next same)
    exact ⟨fun h t d held record => taken (takeAccept_of_offered (s := s') held record),
      fun other _ => taken (takeAccept_of_other (s := s') other)⟩
  · intro s' reason
    have taken {u : State} (same : takeDecline p x r s' = u) : exec (.decline p x c r) s = .next u :=
      (exec_row_of_addressed (n := .decline x c r) run rfl first).trans (congrArg Host.Outcome.next same)
    refine ⟨fun h t d held record => ?_, fun other _ => taken (takeDecline_of_other (s := s') r other)⟩
    obtain named : declineReason r = reason := declineReason_eq r
    exact named ▸ taken (takeDecline_of_offered (s := s') r held record)

end Sys2Proof.Proofs
end

section
/-! The notices that end a handover: TAKEN, LAPSED and WITHDRAW (R163, R166). -/

namespace Sys2Proof.Machine

variable {s : State} {p peer : Channel} {x : Identity} {h g : Handle} {delay : Nat} {lastGood d : LocalCount}
  {retry : Option LocalCount}

theorem takeTaken_of_leaving (held : holder s x = some h) (record : recordAt s h = .leaving x delay peer g d) :
    takeTaken p x s = raise (.handoverDone h x peer g) (freeRecord h s) := by
  simp only [takeTaken, held, record, handoverDone]

/-- A LOST record holds no peer handle, so the new handle of the event is the free value counted (log entry 2). -/
theorem takeTaken_of_lost (held : holder s x = some h) (record : recordAt s h = .lost x delay lastGood d) :
    takeTaken p x s = raise (.handoverDone h x p (Config.takenFromLostHandle s.freeCount))
      (freeRecord h { s with freeCount := s.freeCount + 1 }) := by
  simp only [takeTaken, held, record, handoverDone]

theorem takeTaken_of_other
    (other : ∀ h, holder s x = some h → (recordAt s h).state ≠ .leaving ∧ (recordAt s h).state ≠ .lost) :
    takeTaken p x s = s := by
  unfold takeTaken
  cases held : holder s x with
  | none => rfl
  | some h =>
    obtain ⟨stays, present⟩ := other h held
    cases record : recordAt s h with
    | leaving => exact absurd (congrArg Record.state record) stays
    | lost => exact absurd (congrArg Record.state record) present
    | free | pending | ranging | active | offering | arriving => simp only [record]

theorem takeLapsed_of_leaving (held : holder s x = some h) (record : recordAt s h = .leaving x delay p g d) :
    takeLapsed p x s = raise (.handoverLapsed h x .source p .notice)
      (setRecord h (.lost x delay s.time.localCount (ahead s s.host.config.retention)) s) := by
  simp only [takeLapsed, held, record, if_true, lapseSource, makeLost, now]

theorem takeLapsed_of_other (other : ∀ h y delay g d, holder s x = some h → recordAt s h ≠ .leaving y delay p g d) :
    takeLapsed p x s = s := by
  unfold takeLapsed
  cases held : holder s x with
  | none => rfl
  | some h =>
    cases record : recordAt s h with
    | leaving y delay peer g d =>
      have apart : peer ≠ p := fun same => other h y delay g d held (same ▸ record)
      simp only [record, if_neg apart]
    | free | pending | ranging | active | offering | arriving | lost => simp only [record]

theorem takeWithdraw_of_arriving (held : holder s x = some h) (record : recordAt s h = .arriving x delay p d retry) :
    takeWithdraw p x s = raise (.handoverLapsed h x .target p .withdrawn) (freeRecord h s) := by
  simp only [takeWithdraw, held, record, if_true]

theorem takeWithdraw_of_other
    (other : ∀ h y delay d retry, holder s x = some h → recordAt s h ≠ .arriving y delay p d retry) :
    takeWithdraw p x s = s := by
  unfold takeWithdraw
  cases held : holder s x with
  | none => rfl
  | some h =>
    cases record : recordAt s h with
    | arriving y delay peer d retry =>
      have apart : peer ≠ p := fun same => other h y delay d retry held (same ▸ record)
      simp only [record, if_neg apart]
    | free | pending | ranging | active | offering | leaving | lost => simp only [record]

end Sys2Proof.Machine

namespace Sys2Proof.Proofs
open Sys2Proof.Machine

/-- Settles O33: each notice by the state of the record that holds the identity, LAPSED and WITHDRAW by its peer channel too. -/
theorem handoverEndNotices : Obligations.HandoverEndNotices := by
  refine ⟨fun p x s run first => ?_, fun p x s run => ?_⟩ <;> intro c
  · intro s'
    have taken {u : State} (same : takeTaken p x s' = u) : exec (.taken p x c) s = .next u :=
      (exec_row_of_addressed (n := .taken x c) run rfl first).trans (congrArg Host.Outcome.next same)
    exact ⟨fun h delay peer g d held record => taken (takeTaken_of_leaving (s := s') held record),
      fun h delay lastGood d held record => ⟨_, _, taken (takeTaken_of_lost (s := s') held record)⟩,
      fun other => taken (takeTaken_of_other (s := s') other)⟩
  refine ⟨fun first => ?_, fun first => ?_⟩
  · intro s'
    have taken {u : State} (same : takeLapsed p x s' = u) : exec (.lapsed p x c) s = .next u :=
      (exec_row_of_addressed (n := .lapsed x c) run rfl first).trans (congrArg Host.Outcome.next same)
    exact ⟨fun h delay g d held record => taken (takeLapsed_of_leaving (s := s') held record),
      fun other => taken (takeLapsed_of_other (s := s') other)⟩
  · intro s'
    have taken {u : State} (same : takeWithdraw p x s' = u) : exec (.withdraw p x c) s = .next u :=
      (exec_row_of_addressed (n := .withdraw x c) run rfl first).trans (congrArg Host.Outcome.next same)
    exact ⟨fun h delay d retry held record => taken (takeWithdraw_of_arriving (s := s') held record),
      fun other => taken (takeWithdraw_of_other (s := s') other)⟩

end Sys2Proof.Proofs
end

section
/-! The VERIFY bursts of an ARRIVING record, taken in the order they were handed (R17, R112, R164, R165). -/

namespace Sys2Proof.Machine

variable {s : State} {v u : VerificationBurst} {h : Handle} {source : Channel} {delay : Nat} {d : LocalCount}
  {retry : Option LocalCount} {before after : List Handoff}

/-! ### The bursts that wait for a handle -/

theorem verificationFor_eq_some {y : Handoff} : verificationFor h y = some v ↔ y = .verification v ∧ v.handle = h := by
  cases y with
  | verification u =>
    simp only [verificationFor, Option.ite_none_right_eq_some, Option.some.injEq, Handoff.verification.injEq]
    exact ⟨fun ⟨own, same⟩ => ⟨same, same ▸ own⟩, fun ⟨same, own⟩ => ⟨same ▸ own, same⟩⟩
  | _ => simp [verificationFor]

theorem olderVerifications_of_split (split : s.handed = before ++ .verification v :: after ∨ s.handed = before ∧ after = [])
    (first : Handoff.verification v ∉ before) :
    olderVerifications v s = before.filterMap (verificationFor v.handle) := by
  have unread : ∀ y ∈ before, verificationFor v.handle y ≠ some v := fun y mem read =>
    first ((verificationFor_eq_some.1 read).1 ▸ mem)
  rcases split with waits | ⟨rfl, -⟩
  · exact olderHanded_of_split waits (verificationFor_eq_some.2 ⟨rfl, rfl⟩) unread
  · exact olderHanded_of_absent unread

/-- Where taking the oldest that `sel` selects leaves the later ones, those before a hand-off are taken one by one. -/
theorem takeInOrder_of_oldest {α : Type} [DecidableEq α] {sel : Handoff → Option α} {take : α → State → State} {a b : α}
    {rest : List α} (older : olderHanded sel a s = b :: rest)
    (leaves : ∀ later, s.handed.filterMap sel = b :: later → (take b s).handed.filterMap sel = later) :
    takeInOrder sel take b s = take b s ∧ olderHanded sel a (take b s) = rest ∧
      takeInOrder sel take a s = takeInOrder sel take a (take b s) := by
  obtain ⟨later, waiting, cut⟩ := selected_of_older older
  have first : olderHanded sel b s = [] := by simp [olderHanded, waiting]
  have left : olderHanded sel a (take b s) = rest := by rw [olderHanded, leaves later waiting, cut]
  exact ⟨takeInOrder_of_first first, left, takeInOrder_of_older older left⟩

/-! ### What a burst does -/

theorem enterReranging_handed (h : Handle) (cause : RerangeCause) (s : State) :
    (enterReranging h cause s).handed = s.handed := by
  have same : enterReranging h cause s = withHanded s.handed (enterReranging h cause s) :=
    enterReranging_withHanded s.handed h cause s
  rw [same]
  rfl

/-- A burst hands on a tracker input at most (R164). -/
theorem verifications_takeVerification (h : Handle) (v : VerificationBurst) (s : State) :
    (takeVerification v s).handed.filterMap (verificationFor h) = s.handed.filterMap (verificationFor h) := by
  unfold takeVerification
  split
  case h_1 x delay source d retry record =>
    split
    · dsimp only
      split
      · rw [enterReranging_handed, queueNotice_handed]
      · simp [verified, verificationFor]
    · rfl
  all_goals rfl

/-- The oldest burst taken: it alone waits no longer. -/
theorem verifications_takeOneVerification {rest : List VerificationBurst}
    (oldest : s.handed.filterMap (verificationFor u.handle) = u :: rest) :
    (takeOneVerification u s).handed.filterMap (verificationFor u.handle) = rest := by
  rw [takeOneVerification, verifications_takeVerification]
  exact filterMap_erase_of_oldest (fun y => by simp [verificationFor_eq_some]) oldest

/-- The record's identity agrees, and the error of the burst decides (R164, R165). -/
theorem takeVerification_of_arriving (record : recordAt s v.handle = .arriving v.identity delay source d retry) :
    takeVerification v s =
      if isMisaligned (trackingError s.host.config v.arrival v.offset) then
        enterReranging v.handle .misaligned (queueNotice (.taken v.identity source) s)
      else verified v.handle v.identity delay source (trackingError s.host.config v.arrival v.offset) s := by
  simp only [takeVerification, record, if_true]

theorem takeVerification_of_other
    (other : ∀ delay source d retry, recordAt s v.handle ≠ .arriving v.identity delay source d retry) :
    takeVerification v s = s := by
  unfold takeVerification
  cases record : recordAt s v.handle with
  | arriving x delay source d retry =>
    have apart : x ≠ v.identity := fun same => other delay source d retry (same ▸ record)
    simp only [if_neg apart]
  | free | pending | ranging | active | offering | leaving | lost => rfl

/-! ### The row -/

theorem exec_verificationBurst (run : running s = true) (v : VerificationBurst) :
    exec (.verificationBurst v) s = .next (takeInOrder (verificationFor v.handle) takeOneVerification v s) :=
  congrArg Host.Outcome.next (if_pos run)

theorem exec_verificationBurst_of_first (run : running s = true) (first : olderVerifications v s = []) :
    exec (.verificationBurst v) s = .next (takeVerification v (takeEvent (.verification v) s)) :=
  (exec_verificationBurst run v).trans (congrArg Host.Outcome.next (takeInOrder_of_first first))

/-- Where older bursts of the handle wait, the oldest of them is taken first. -/
theorem exec_verificationBurst_of_older {rest : List VerificationBurst} (run : running s = true)
    (older : olderVerifications v s = u :: rest) :
    exec (.verificationBurst u) s = .next (takeOneVerification u s) ∧
      olderVerifications v (takeOneVerification u s) = rest ∧
      exec (.verificationBurst v) s = exec (.verificationBurst v) (takeOneVerification u s) := by
  obtain ⟨later, waiting, -⟩ := selected_of_older older
  obtain ⟨y, -, read⟩ := List.mem_filterMap.1 (waiting ▸ List.mem_cons_self : u ∈ s.handed.filterMap (verificationFor v.handle))
  obtain ⟨-, own⟩ := verificationFor_eq_some.1 read
  have still : running (takeOneVerification u s) = true :=
    (running_of_standing_eq (standing_takeOneVerification u s)).trans run
  obtain ⟨alone, left, same⟩ := takeInOrder_of_oldest (take := takeOneVerification) older fun _ oldest =>
    own ▸ verifications_takeOneVerification (own ▸ oldest)
  refine ⟨?_, left, ?_⟩
  · rw [exec_verificationBurst run, own, alone]
  · rw [exec_verificationBurst run, exec_verificationBurst still, same]

end Sys2Proof.Machine

namespace Sys2Proof.Proofs
open Sys2Proof.Machine

/-- Settles O34: the bursts of a handle are taken in their order (`exec_verificationBurst_of_older`); one alone decides the arrival by
its error (`takeVerification_of_arriving`), or is dropped. -/
theorem verificationDecidesArrival : Obligations.VerificationDecidesArrival := by
  refine ⟨fun v before after s split first => ?_,
    fun v u rest s run older => ⟨_, exec_verificationBurst_of_older run older⟩, fun v s run first => ?_⟩
  · refine (olderVerifications_of_split split first).trans (congrArg (before.filterMap ·) (funext fun y => ?_))
    cases y <;> rfl
  intro s' e
  have taken {u : State} (same : takeVerification v s' = u) : exec (.verificationBurst v) s = .next u :=
    (exec_verificationBurst_of_first run first).trans (congrArg Host.Outcome.next same)
  refine ⟨fun delay source d retry record => ?_, fun other => taken (takeVerification_of_other (s := s') other)⟩
  have decided := takeVerification_of_arriving (s := s') record
  refine ⟨fun low high => taken (decided.trans (if_neg fun far => ?_)),
    fun far => taken (decided.trans (if_pos ((isMisaligned_iff e).2 far)))⟩
  exact ((isMisaligned_iff e).1 far).elim low.not_gt high.not_gt

end Sys2Proof.Proofs
end

section
/-! The slate of a strobe: what it lists in RUNNING (R171 to R175), the record handed to the framer (R191), and the empty slate of a
part that is not RUNNING (R176). -/

namespace Sys2Proof.Machine

variable {s : State}

/-! ### The grantable set (R174) -/

theorem grantable_iff {count : LocalCount} {r : Record} :
    grantable count r = true ↔
      ∃ x f, (r = .active x f ∨ ∃ peer d, r = .offering x f peer d) ∧ (count - f.effective).toNat < 2 ^ 31 := by
  cases r with
  | active x f | offering x f peer d => simp [grantable, reached]
  | free | pending | ranging | leaving | arriving | lost => simp [grantable]

theorem mem_grantableSet {h : Handle} : h ∈ grantableSet s ↔ grantable (ahead s 1) (recordAt s h) = true := by
  simp [grantableSet]

/-- The bit of a handle alone. -/
theorem handleBit_getLsbD (g h : Handle) : (1#128 <<< g.val).getLsbD h.val = decide (h = g) := by
  rw [← BitVec.twoPow_eq, BitVec.getLsbD_twoPow]
  simp [Fin.ext_iff, eq_comm]

theorem orHandles_getLsbD (h : Handle) (handles : List Handle) (bits : BitVec 128) :
    (handles.foldl (fun bits g => bits ||| (1#128 <<< g.val)) bits).getLsbD h.val =
      (bits.getLsbD h.val || decide (h ∈ handles)) := by
  induction handles generalizing bits with
  | nil => simp
  | cons g handles ih =>
    rw [List.foldl_cons, ih, BitVec.getLsbD_or, handleBit_getLsbD, Bool.or_assoc]
    simp only [List.mem_cons, Bool.decide_or]

/-- Bit h of the grantable set is yes when handle h is in it (R191). -/
theorem grantableBits_getLsbD (handles : List Handle) (h : Handle) :
    (grantableBits handles).getLsbD h.val = decide (h ∈ handles) := by
  rw [grantableBits, orHandles_getLsbD, BitVec.getLsbD_zero, Bool.false_or]

theorem record_counts (x : Slate) :
    x.record.grantCount = x.record.grants.length ∧ x.record.messageCount = x.record.messages.length ∧
      x.record.reservationCount = x.record.reservations.length :=
  ⟨List.length_map _ |>.symm, List.length_map _ |>.symm, List.length_map _ |>.symm⟩

/-! ### The build of a strobe (R172, R176) -/

theorem exec_build (run : running s = true) (owed : s.time.owesBuild = true) (epoch : Bool) :
    exec (.cycleStrobe epoch .build) s =
      .next (buildRunning { s with time := { s.time with owesBuild := false } }) := by
  obtain ⟨released, part⟩ := (running_iff s).1 run
  have built : owedBuild s = buildSlate s := if_pos owed
  exact (exec_cycleStrobe released epoch .build).trans (congrArg Host.Outcome.next (built.trans (buildSlate_eq part)))

/-- The calendar entries that a build leaves. -/
theorem mem_calendar_buildRunning {g : Grant} :
    g ∈ (buildRunning s).sched.calendar ↔ g ∈ s.sched.calendar ∧ g.cycle ≠ s.time.treeCycle + 1 := by
  simp [buildRunning]

theorem slateOutput_of_released (released : s.host.held = false) : slateOutput s = some s.builder.slate.record :=
  if_neg (by simp [released])

theorem buildSlate_of_not_running (idle : s.host.part ≠ .running) :
    buildSlate s =
      { s with time := { s.time with owesBuild := false }, builder := { s.builder with slate := emptySlate s } } :=
  if_neg idle

/-- The build still owed of the strobe before changes nothing that the next build does not write again. -/
theorem buildSlate_owedBuild_of_not_running (idle : s.host.part ≠ .running) :
    buildSlate { owedBuild s with time := { (owedBuild s).time with owesBuild := true } } = buildSlate s := by
  unfold owedBuild
  split
  · rw [buildSlate_of_not_running idle]
    exact buildSlate_of_not_running idle
  · rfl

theorem not_running_of_idle {epoch : Bool} (idle : s.host.part = .init ∨ s.host.part = .aligning ∧ epoch = false) :
    s.host.part ≠ .running := by
  rcases idle with part | ⟨part, -⟩ <;> simp [part]

/-- In INIT, and in ALIGNING without EPOCH, only the empty slate is owed. -/
theorem strobeCounts_of_idle {epoch : Bool} (idle : s.host.part = .init ∨ s.host.part = .aligning ∧ epoch = false) :
    strobeCounts epoch s = { s with time := { s.time with owesBuild := true } } := by
  rcases idle with part | ⟨part, rfl⟩ <;> simp [strobeCounts, part]

/-- A whole strobe in INIT, and in ALIGNING without EPOCH, is the build of the empty slate. -/
theorem takeStrobe_of_idle {epoch : Bool} (idle : s.host.part = .init ∨ s.host.part = .aligning ∧ epoch = false) :
    takeStrobe epoch .whole s = buildSlate s := by
  have stopped := not_running_of_idle idle
  have kept : (owedBuild s).host.part = s.host.part := congrArg (fun f => f.1.part) (standing_owedBuild s)
  have quiet : running { owedBuild s with time := { (owedBuild s).time with owesBuild := true } } = false := by
    simp [running, kept, stopped]
  calc takeStrobe epoch .whole s
    _ = owedBuild (owedScheduler { owedBuild s with time := { (owedBuild s).time with owesBuild := true } }) := by
        rw [takeStrobe, finishStrobe_of_not_running stopped, strobeCounts_of_idle (kept.symm ▸ idle)]
    _ = buildSlate { owedBuild s with time := { (owedBuild s).time with owesBuild := true } } := by
        rw [owedScheduler_of_not_running quiet]
        rfl
    _ = buildSlate s := buildSlate_owedBuild_of_not_running stopped

end Sys2Proof.Machine

namespace Sys2Proof.Proofs
open Sys2Proof.Machine

/-- Settles O6: the build by its own equation (`exec_build`), the grantable set by the record states (`grantable_iff`). -/
theorem slateListsMessagesAndGrantableHandles : Obligations.SlateListsMessagesAndGrantableHandles := fun _ run owed epoch =>
  ⟨_, exec_build run owed epoch, rfl, rfl, rfl, fun _ => mem_grantableSet.trans grantable_iff⟩

/-- Settles O7: the build by its own equation (`exec_build`), the framer's record item by item, and its grantable set bit by bit
(`grantableBits_getLsbD`). -/
theorem slateCarriesGrantsAndReservations : Obligations.SlateCarriesGrantsAndReservations := by
  refine ⟨fun c calendar => ⟨?discover, ?directed⟩, fun c x h g delay p named reason => ⟨rfl, rfl, rfl, rfl, rfl⟩,
    fun s run owed epoch => ⟨_, exec_build run owed epoch, rfl, fun g => mem_calendar_buildRunning, rfl, rfl, rfl, rfl, rfl, rfl,
      rfl, rfl, rfl, _, slateOutput_of_released ((running_iff s).1 run).1, rfl, record_counts _, ?grants, ?messages,
      ?reservations, fun h => grantableBits_getLsbD _ h⟩⟩
  case discover | directed => exact List.filterMap_congr fun g _ => by cases g <;> rfl
  case grants =>
    refine List.map_congr_left fun g _ => ?_
    cases g with
    | discover => rfl
    | directed k => cases k <;> rfl
  case messages =>
    refine List.map_congr_left fun m _ => ?_
    cases m with
    | drop named reason => cases named <;> cases reason <;> rfl
    | assign | setDelay | retune | tune => rfl
  case reservations =>
    refine List.map_congr_left fun x _ => ?_
    obtain ⟨kind, first, last⟩ := x
    cases kind <;> rfl

/-- Settles O8: a strobe outside RUNNING is the build of the empty slate alone (`takeStrobe_of_idle`). -/
theorem emptySlateOutsideRunning : Obligations.EmptySlateOutsideRunning := by
  intro s released _ part epoch withoutEpoch
  have idle : s.host.part = .init ∨ s.host.part = .aligning ∧ epoch = false :=
    part.imp_right fun aligning => ⟨aligning, withoutEpoch aligning⟩
  have built := (takeStrobe_of_idle idle).trans (buildSlate_of_not_running (not_running_of_idle idle))
  exact ⟨_, (exec_cycleStrobe released epoch .whole).trans (congrArg Host.Outcome.next built), rfl, rfl, rfl, rfl, rfl, rfl⟩

end Sys2Proof.Proofs
end

section
/-! One step, and the queue of the commands that wait: every command answers a next state and leaves the queue as it was. -/

namespace Sys2Proof.Machine

variable {s t : State}

/-- A meaning that answers a next state with the queue of `s`. -/
def Completes (s : State) (o : Host.Outcome State Fault Refusal) : Prop :=
  ∃ t, o = .next t ∧ t.pending = s.pending

theorem pending_of_footing_eq (e : footing t = footing s) : t.pending = s.pending :=
  congrArg Footing.pending e

theorem pending_of_standing_eq (e : standing t = standing s) : t.pending = s.pending :=
  pending_of_footing_eq (footing_eq_of_standing_eq e)

theorem completes_next (e : t.pending = s.pending) : Completes s (.next t) :=
  ⟨t, rfl, e⟩

/-- An action that is taken under a guard. -/
theorem completes_guarded {c : Prop} [Decidable c] (e : footing t = footing s) :
    Completes s (.next (if c then t else s)) := by
  refine completes_next ?_
  split
  · exact pending_of_footing_eq e
  · rfl

theorem completes_row {c : Prop} [Decidable c] (e : standing t = standing s) :
    Completes s (.next (if c then t else s)) :=
  completes_guarded (footing_eq_of_standing_eq e)

theorem completes_noticeRow (p : Channel) (n : Notice) (s : State) : Completes s (.next (noticeRow p n s)) :=
  completes_row (standing_takeInOrder (standing_takeNotice p) n s)

theorem completes_deliveryRow (sel : Delivery → Bool) (s : State) : Completes s (.next (deliveryRow sel s)) :=
  completes_row (standing_takeWantedInOrder standing_takeDelivery s)

theorem completes_rangingOutcomeApplied (h : Handle) (s : State) : Completes s (execRangingOutcomeApplied h s) := by
  refine completes_row ?_
  split
  case h_1 taken => rw [standing_takeOutcome, standing_of_takeHanded taken]
  · rfl

/-- A strobe finishes the one before it, counts, and has its work done; none of this is about the queue. -/
theorem pending_takeStrobe (epoch : Bool) (part : StrobePart) (s : State) : (takeStrobe epoch part s).pending = s.pending := by
  have counted : (strobeCounts epoch (finishStrobe s)).pending = s.pending := by
    rw [← pending_of_footing_eq (steady_finishStrobe s).footing]
    unfold strobeCounts
    split
    · rfl
    · split <;> rfl
    · rfl
  cases part with
  | whole => exact (pending_of_standing_eq (by simp [takeStrobe])).trans counted
  | counts => exact counted
  | scheduler => exact pending_of_standing_eq (standing_owedScheduler s)
  | build => exact pending_of_standing_eq (standing_owedBuild s)

/-- A frame leaves the queue where what it does in the part states listed for it does. -/
theorem completes_command {taken : PartState → Bool} {decide : State → State}
    (each : ∀ s, (decide s).pending = s.pending) (s : State) : Completes s (.next (command taken decide s)) := by
  have worked : (owedScheduler s).pending = s.pending := pending_of_standing_eq (standing_owedScheduler s)
  refine completes_next ?_
  unfold command answer
  split
  · rfl
  · split
    · exact (each _).trans worked
    · exact worked

theorem completes_standing_command {taken : PartState → Bool} {decide : State → State}
    (each : ∀ s, standing (decide s) = standing s) (s : State) : Completes s (.next (command taken decide s)) :=
  completes_command (fun s => pending_of_standing_eq (each s)) s

theorem pending_configure (f : ConfigFrame) (s : State) : (configure f s).pending = s.pending := by
  unfold configure
  split <;> rfl

theorem pending_startPart (s : State) : (startPart s).pending = s.pending := by
  unfold startPart
  split <;> rfl

theorem pending_restartPart (s : State) : (restartPart s).pending = s.pending := by
  change (finishStrobe s).pending = s.pending
  exact pending_of_footing_eq (steady_finishStrobe s).footing

theorem completes_exec (c : Instr) (s : State) : Completes s (exec c s) := by
  cases c with
  | resetPinEvent | resetHeld | frameDiscarded => exact completes_next rfl
  | cycleStrobe epoch part =>
    refine completes_next ?_
    split
    · rfl
    · exact pending_takeStrobe epoch part s
  | settleDeadline h => exact completes_row (standing_serveSettle h s)
  | offerDeadline h => exact completes_row (standing_serveOffer h s)
  | handoverDeadlineSource h => exact completes_row (standing_serveHandoverSource h s)
  | handoverDeadlineTarget h => exact completes_row (standing_serveHandoverTarget h s)
  | retentionDeadline h => exact completes_row (standing_serveRetention h s)
  | discoveryDueDeadline => exact completes_row (standing_serveDiscoveryDue s)
  | windowStartDeadline => exact completes_row (standing_serveWindowStart s)
  | windowCloseDeadline => exact completes_row (standing_serveWindowClose s)
  | verifyRetryDeadline h => exact completes_row (standing_serveVerifyRetry h s)
  | contestedExpiry x => exact completes_row (standing_serveContestedExpiry x s)
  | issuedGrantExpiry k h r => exact completes_row (standing_serveExpiry k h r s)
  | runningFlagTimeout => exact completes_guarded rfl
  | transmitWordTime => exact completes_guarded (steady_transmitWord s).footing
  | laneWord l w => exact completes_guarded (steady_takeWord l w s).footing
  | laneSilenceTimeout l => exact completes_guarded (steady_takeSilence l s).footing
  | laneAbsenceDeadline l => exact completes_guarded (steady_serveAbsence l s).footing
  | claim | object | release | quiet | cross | handoff | accept | decline | taken | lapsed | withdraw =>
    exact completes_noticeRow _ _ s
  | burstReport r => exact completes_row (standing_takeReport r s)
  | endOfWindowSummary r => exact completes_row (standing_takeSummary r s)
  | hearing e => exact completes_row (standing_takeHearing e _)
  | crossHeardBurst b => exact completes_row (standing_takeCrossHeard b _)
  | rangeAttemptResult r => exact completes_row (standing_takeRangeResult r _)
  | rangingOutcomeApplied h => exact completes_rangingOutcomeApplied h s
  | attemptPlaced h => exact completes_row (standing_takeWantedInOrder standing_takeOnePlacement s)
  | trackerInput i => exact completes_row (standing_takeInOrder standing_takeOneInput i s)
  | trackerResultApplied h => exact completes_row (standing_takeTrackedFor h s)
  | verificationBurst v => exact completes_row (standing_takeInOrder standing_takeOneVerification v s)
  | assignDeliveryNotice | setDelayDeliveryNotice | retuneDeliveryNotice => exact completes_deliveryRow _ s
  | readStatus => exact completes_standing_command standing_readStatus s
  | configure f => exact completes_command (pending_configure f) s
  | start => exact completes_command pending_startPart s
  | restart => exact completes_command pending_restartPart s
  | readEvent => exact completes_standing_command standing_readEvent s
  | readCounters clear => exact completes_standing_command (standing_readCounters clear) s
  | clearAttention conditions => exact completes_standing_command (standing_clearAttention conditions) s
  | bar x => exact completes_standing_command (standing_bar x) s
  | unbar x => exact completes_standing_command (standing_unbar x) s
  | readRecord h => exact completes_standing_command (standing_readRecord h) s
  | find x => exact completes_standing_command (standing_findIdentity x) s
  | deregister h => exact completes_standing_command (standing_deregister h) s
  | rerange h => exact completes_standing_command (standing_rerange h) s
  | handover h target => exact completes_standing_command (standing_handover h target) s
  | suspend kind => exact completes_standing_command (standing_suspend kind) s
  | resume => exact completes_standing_command standing_resume s
  | discoverNow => exact completes_standing_command standing_discoverNow s
  | badFrame => exact completes_standing_command (standing_respond _) s

end Sys2Proof.Machine

namespace Sys2Proof.Proofs
open Sys2Proof.Machine

/-- Settles O1: the two cases of `step`, by the queue. -/
theorem stepTakesTheFrontCommand : Obligations.StepTakesTheFrontCommand := by
  constructor
  · intro c rest s front
    unfold step
    split
    case h_1 empty => exact nomatch empty.symm.trans front
    case h_2 queue =>
      obtain ⟨rfl, rfl⟩ := List.cons.inj (queue.symm.trans front)
      rfl
  · intro s empty
    unfold step
    split
    · rfl
    case h_2 queue => exact nomatch queue.symm.trans empty

/-- Settles O2: each meaning answers a next state and leaves the queue (`completes_exec`). -/
theorem everyCommandCompletes : Obligations.EveryCommandCompletes :=
  completes_exec

end Sys2Proof.Proofs
end

section
/-! The state that the reset pin and power-on leave, and the laws that it has (R14, R188). -/

namespace Sys2Proof.Machine

/-- The state that RESET_PIN_EVENT leaves. -/
def pinned (straps : BitVec 2) (s : State) : State :=
  { State.afterPin (Fin.ofNat 4 straps.toNat) with pending := s.pending, freeCount := s.freeCount }

theorem exec_resetPinEvent (straps : BitVec 2) (s : State) : exec (.resetPinEvent straps) s = .next (pinned straps s) :=
  rfl

/-- The two strap bits name own channel (R14). -/
theorem pinned_ownChannel (straps : BitVec 2) (s : State) : (pinned straps s).host.ownChannel.val = straps.toNat :=
  Nat.mod_eq_of_lt straps.isLt

theorem counters_afterPin (own : Channel) (i : Fin 18) : (State.afterPin own).host.counters[i] = 0 := by
  simp [State.afterPin, HostPort.atReset]

theorem recordAt_afterPin (own : Channel) (h : Handle) : recordAt (State.afterPin own) h = .free := by
  simp [recordAt, State.afterPin, Table.atReset]

theorem slotAt_afterPin (own : Channel) (h : Handle) : slotAt (State.afterPin own) h = .idle := by
  simp [slotAt, State.afterPin, slotsAtReset]

theorem laneAt_afterPin (own : Channel) (l : LaneNo) : laneAt (State.afterPin own) l = Lane.fresh := by
  simp [laneAt, State.afterPin, PeerLink.atReset]

/-! ### The laws at reset -/

@[simp] theorem recordAt_reset (h : Handle) : recordAt State.reset h = .free :=
  recordAt_afterPin 0 h

theorem quietLaw_reset : QuietLaw State.reset :=
  fun _ => ⟨rfl, rfl, rfl, rfl, rfl, rfl, rfl, rfl, rfl, rfl, rfl, rfl⟩

theorem countsAgree_reset : CountsAgree State.reset :=
  fun run => nomatch run

theorem tableLaws_reset : TableLaws State.reset where
  once := fun g h holds => by simp [Record.identity?] at holds
  barredNotHeld := nofun
  contestedNotHeld := nofun
  barredOnce := .nil
  contestedOnce := .nil

theorem withinBounds_reset : WithinBounds State.reset where
  barred := by decide
  contested := by decide
  outbound := by decide
  backlog := by decide
  events := by decide
  stack := .nil
  requests := .nil
  directed := by decide
  quiet := by decide
  grants := fun r => Nat.zero_le 8
  bursts := nofun

theorem delayLaw_reset : DelayLaw State.reset where
  quiet := quietLaw_reset
  records := fun h d holds => by simp [Record.launchDelay?] at holds
  backlog := nofun
  handed := nofun

theorem trackingLaw_reset : TrackingLaw State.reset where
  quiet := quietLaw_reset
  config := configWithin_defaults
  records := fun h t holds => by simp [Record.tracking?] at holds
  handed := nofun

theorem windowLaws_reset : WindowLaws State.reset where
  quiet := quietLaw_reset
  counts := countsAgree_reset
  config := configWithin_defaults
  bounds := withinBounds_reset
  window := nofun
  own := nofun
  ownOnce := Nat.zero_le 1
  spans := fun _ => Nat.zero_le 39
  calendar := nofun
  discover := nofun
  discoverOnce := Nat.zero_le 1

theorem grantLaws_reset : GrantLaws State.reset where
  window := windowLaws_reset
  delay := delayLaw_reset
  loops := fun h e holds => by simp [Record.coarse?] at holds
  requests := nofun
  calendar := nofun
  issued := nofun
  listed := fun _ _ => Nat.le_refl 0
  issuedBound := Nat.zero_le 32
  ahead := nofun
  reserved := fun _ _ => Nat.le_refl 0
  reservations := Nat.zero_le 33

theorem attemptLaws_reset : AttemptLaws State.reset where
  quiet := quietLaw_reset
  handles := .nil
  requests := nofun
  attempts := fun h x r holds => by simp at holds

end Sys2Proof.Machine

namespace Sys2Proof.Proofs
open Sys2Proof.Machine

/-- Settles O3: RESET_PIN_EVENT answers `pinned`, whose fields are the reset values. -/
theorem resetPinLeavesResetValues : Obligations.ResetPinLeavesResetValues := by
  refine ⟨fun s => rfl, fun straps s => ?_⟩
  let own : Channel := Fin.ofNat 4 straps.toNat
  refine ⟨pinned straps s, exec_resetPinEvent straps s, pinned_ownChannel straps s, rfl, rfl, rfl, rfl,
    counters_afterPin own, rfl, rfl, rfl, recordAt_afterPin own, rfl, rfl, rfl, rfl, rfl, rfl, rfl, rfl, rfl, rfl, rfl, rfl,
    slotAt_afterPin own, rfl, rfl, rfl, fun l => ?_, rfl, rfl, rfl, rfl⟩
  have fresh : (pinned straps s).link.lanes[l] = Lane.fresh := laneAt_afterPin own l
  rw [fresh]
  exact ⟨rfl, rfl, rfl, rfl, rfl⟩

/-- Settles O60: each law by the lemma above, the tables, queues and lists being empty. -/
theorem resetHasEveryLaw : Obligations.ResetHasEveryLaw :=
  ⟨tableLaws_reset, withinBounds_reset, nofun, quietLaw_reset, countsAgree_reset, configWithin_defaults, linkLaws_atReset rfl,
    delayLaw_reset, trackingLaw_reset, windowLaws_reset, grantLaws_reset, attemptLaws_reset⟩

end Sys2Proof.Proofs
end

section
/-! Commands and actions that are turned away: by a held part, outside RUNNING, and in a part state not listed for a command (R4, R30,
R130, R133, R178, R179, R188). -/

namespace Sys2Proof.Machine

variable {s t : State} {c : Instr}

theorem running_of_held (held : s.host.held = true) : running s = false := by
  simp [running, held]

theorem guarded_of_not_running {b : Bool} (idle : running s = false) :
    Host.Outcome.next (φ := Fault) (ρ := Refusal) (if running s && b then t else s) = .next s := by
  simp [idle]

theorem row_of_not_running (idle : running s = false) :
    Host.Outcome.next (φ := Fault) (ρ := Refusal) (if running s then t else s) = .next s := by
  simp [idle]

/-- The rows that act in RUNNING alone change nothing elsewhere (R30, R178). -/
theorem exec_of_not_running (idle : running s = false) (acts : actsInRunning c = true) : exec c s = .next s := by
  cases c with
  | laneAbsenceDeadline | laneWord | laneSilenceTimeout => exact guarded_of_not_running idle
  | claim | object | release | quiet | cross | handoff | accept | decline | taken | lapsed | withdraw =>
    exact congrArg Host.Outcome.next (noticeRow_of_not_running idle)
  | resetPinEvent | resetHeld | cycleStrobe | readStatus | configure | start | restart | readEvent | readCounters
  | clearAttention | bar | unbar | readRecord | find | deregister | rerange | handover | suspend | resume | discoverNow
  | badFrame | frameDiscarded => exact nomatch acts
  | _ => exact row_of_not_running idle

/-- A held part takes no frame (R188). -/
theorem exec_hostCommand_of_held (held : s.host.held = true) (host : hostCommand c = true) : exec c s = .next s := by
  cases c with
  | readStatus | configure | start | restart | readEvent | readCounters | clearAttention | bar | unbar | readRecord | find
  | deregister | rerange | handover | suspend | resume | discoverNow | badFrame =>
    exact congrArg Host.Outcome.next (command_of_held held _)
  | _ => exact nomatch host

/-- Every row is the pin's, a strobe, one that acts in RUNNING alone, a host command, or a discarded frame. -/
theorem instr_kinds (c : Instr) :
    (∃ straps, c = .resetPinEvent straps) ∨ c = .resetHeld ∨ (∃ epoch part, c = .cycleStrobe epoch part) ∨
      actsInRunning c = true ∨ hostCommand c = true ∨ c = .frameDiscarded := by
  cases c <;> simp [actsInRunning, hostCommand]

/-- A held part takes nothing but the pin's release (R188). -/
theorem exec_of_held (held : s.host.held = true) (holds : c ≠ .resetHeld) (released : ∀ straps, c ≠ .resetPinEvent straps)
    (whole : c ≠ .frameDiscarded) : exec c s = .next s := by
  rcases instr_kinds c with ⟨straps, pin⟩ | pin | ⟨epoch, part, rfl⟩ | acts | host | cut
  · exact absurd pin (released straps)
  · exact absurd pin holds
  · exact exec_cycleStrobe_of_held held epoch part
  · exact exec_of_not_running (running_of_held held) acts
  · exact exec_hostCommand_of_held held host
  · exact absurd cut whole

/-- Between strobes no scheduler work is owed (R77). -/
theorem owedScheduler_between (done : s.host.part = .running → s.time.owesScheduler = false) : owedScheduler s = s := by
  by_cases run : s.host.part = .running
  · exact owedScheduler_of_not_owed (done run)
  · exact owedScheduler_of_not_running (by simp [running, run])

theorem inInit_iff (p : PartState) : inInit p = true ↔ p = .init :=
  beq_iff_eq

theorem inRunning_iff (p : PartState) : inRunning p = true ↔ p = .running :=
  beq_iff_eq

end Sys2Proof.Machine

namespace Sys2Proof.Proofs
open Sys2Proof.Machine

/-- Settles O46: a held part (`exec_of_held`), a part outside RUNNING (`exec_of_not_running`), and a frame in a part state that its
command is not listed for (`command_of_not_taken`). -/
theorem commandsTurnedAway : Obligations.CommandsTurnedAway := by
  refine ⟨fun s => ⟨_, rfl, rfl, rfl, rfl, rfl, rfl, rfl⟩, fun c s held holds released whole => exec_of_held held holds released whole,
    fun s => rfl, fun c s idle acts => exec_of_not_running idle acts, fun s released done => ?_⟩
  have between := owedScheduler_between done
  have refused {taken : PartState → Bool} (unlisted : taken s.host.part = false) (decide : State → State) :
      Host.Outcome.next (φ := Fault) (ρ := Refusal) (command taken decide s) = .next (respond .wrongState s) :=
    congrArg Host.Outcome.next (command_of_not_taken released between unlisted decide)
  refine ⟨fun code length => congrArg Host.Outcome.next (command_of_taken released between rfl _), fun part => ?_, fun part x => ?_,
    fun part => ?_⟩
  · have unlisted : inInit s.host.part = false := Bool.eq_false_iff.2 fun listed => part ((inInit_iff _).1 listed)
    exact ⟨fun f => refused unlisted _, refused unlisted _⟩
  · have unlisted : inInitOrRunning s.host.part = false := by rw [part]; rfl
    exact ⟨refused unlisted _, refused unlisted _⟩
  · have unlisted : inRunning s.host.part = false := Bool.eq_false_iff.2 fun listed => part ((inRunning_iff _).1 listed)
    exact ⟨fun b => ⟨refused unlisted _, refused unlisted _, refused unlisted _, refused unlisted _⟩, fun x => refused unlisted _,
      fun b d => refused unlisted _, refused unlisted _, refused unlisted _⟩

end Sys2Proof.Proofs
end

section
/-! What the host sees of the port: the two pins, the response frame and the event records in bytes (R184, R187, R188, R192). -/

namespace Sys2Proof.Machine

variable {hp : HostPort}

theorem intAsserted_iff (released : hp.held = false) : intAsserted hp = true ↔ hp.events ≠ [] := by
  simp [intAsserted, released]

theorem attnPulled_iff (released : hp.held = false) :
    attnPulled hp = true ↔ hp.attention.header = true ∨ hp.attention.duplicate = true ∨ hp.attention.lane = true ∨
      hp.attention.overrun = true := by
  simp [attnPulled, released, or_assoc]

/-- An event record is 15 bytes, its detail filled up with 0 bytes (R192). -/
theorem EventRecord.bytes_length (e : EventRecord) : e.bytes.length = 15 := by
  simp [EventRecord.bytes]

/-- The bytes of an event of a kind that names no record: the presence byte, the handle and the identity are 0 (R192). -/
theorem EventRecord.bytes_of_bare {c : TreeCycle} {e : Event} (noHandle : e.handle? = none) (noIdentity : e.identity? = none) :
    EventRecord.bytes ⟨c, e⟩ = [BitVec.ofNat 8 e.kind, c.extractLsb' 8 8, c.extractLsb' 0 8, 0, 0, 0, 0, 0, 0, 0, 0] ++
      (e.detail ++ [0, 0, 0, 0]).take 4 := by
  simp [EventRecord.bytes, noHandle, noIdentity]

theorem EventRecord.bytes_head (e : EventRecord) : e.bytes.head? = some (BitVec.ofNat 8 e.event.kind) := rfl

theorem Response.frame_event (e : EventRecord) : Response.frame (.ok (.event e)) = [0, 0, 15] ++ e.bytes := by
  have length : (Response.data (.ok (.event e))).length = 15 := e.bytes_length
  rw [Response.frame, length]
  rfl

/-- The kinds of event are numbered from 1 to 19 (R192). -/
theorem Event.kind_bounds (e : Event) : 1 ≤ e.kind ∧ e.kind ≤ 19 := by
  cases e <;> simp [Event.kind]

/-- Bit k of the event mask stands for the kind whose record begins with k + 1 (R184, R192). -/
theorem Event.masked_of_first_byte {e : EventRecord} {k : Nat} (few : k < 19)
    (first : e.bytes.head? = some (BitVec.ofNat 8 (k + 1))) (c : Configuration) :
    e.event.masked c = c.eventMask.getLsbD k := by
  obtain ⟨low, high⟩ := e.event.kind_bounds
  have number : e.event.kind % 2 ^ 8 = (k + 1) % 2 ^ 8 := by
    simpa using congrArg BitVec.toNat (Option.some.inj (e.bytes_head.symm.trans first))
  have kind : e.event.kind - 1 = k := by omega
  rw [Event.masked, kind]

end Sys2Proof.Machine

namespace Sys2Proof.Proofs
open Sys2Proof.Machine

/-- Settles O48: the pins by their flags, each frame and each record byte by byte, and the mask by the record's first byte. -/
theorem hostPortBytes : Obligations.HostPortBytes := by
  refine ⟨fun hp released => ⟨intAsserted_iff released, attnPulled_iff released⟩,
    ⟨rfl, rfl, rfl, rfl, rfl, rfl, rfl, fun n => rfl, fun e => ⟨e.bytes_length, Response.frame_event e⟩,
      fun d => ⟨d.bytes, rfl⟩⟩,
    fun c e k few first => Event.masked_of_first_byte few first c, ?_⟩
  intro c h g x p a n m k e
  refine ⟨rfl, rfl, rfl, rfl, rfl, rfl, rfl, rfl, rfl, rfl, rfl, rfl, rfl, rfl, rfl, rfl, rfl, rfl, rfl, rfl, rfl, rfl, rfl,
    fun reason => ?declined, fun side cause => ?lapsed, fun left entered => ?lane, ?mismatch, ?closed⟩
  case declined => cases reason <;> rfl
  case lapsed => cases side <;> cases cause <;> rfl
  case lane => cases left <;> cases entered <;> exact EventRecord.bytes_of_bare rfl rfl
  case mismatch | closed => exact EventRecord.bytes_of_bare rfl rfl

end Sys2Proof.Proofs
end

section
/-! The frames of the host commands: what each frame spells, and what a frame that spells no command is (R179, R192). -/

namespace Sys2Proof.Machine

/-! ### Parameters in bytes -/

/-- The bytes of an identity spell it (R192). -/
theorem identityOfBytes_bytesOfIdentity (x : Identity) : identityOfBytes (bytesOfIdentity x) = some x := by
  refine congrArg some (BitVec.eq_of_getLsbD_eq fun i small => ?_)
  simp only [BitVec.getLsbD_append, BitVec.getLsbD_extractLsb']
  grind

/-- Only its own bytes spell an identity. -/
theorem eq_bytesOfIdentity {ps : List Byte} {x : Identity} (spelled : identityOfBytes ps = some x) : ps = bytesOfIdentity x := by
  unfold identityOfBytes at spelled
  split at spelled
  case h_1 a b c d e f =>
    obtain rfl := Option.some.inj spelled
    simp only [bytesOfIdentity, List.cons.injEq, and_true]
    refine ⟨?_, ?_, ?_, ?_, ?_, ?_⟩
    all_goals
      refine BitVec.eq_of_getLsbD_eq fun i small => ?_
      simp only [BitVec.getLsbD_append, BitVec.getLsbD_extractLsb']
      grind
  case h_2 => exact nomatch spelled

theorem word_of_bytesOfWord (w : BitVec 32) :
    w.extractLsb' 24 8 ++ w.extractLsb' 16 8 ++ w.extractLsb' 8 8 ++ w.extractLsb' 0 8 = w := by
  refine BitVec.eq_of_getLsbD_eq fun i small => ?_
  simp only [BitVec.getLsbD_append, BitVec.getLsbD_extractLsb']
  grind

theorem bytesOfWord_append (a b c d : Byte) : bytesOfWord (a ++ b ++ c ++ d) = [a, b, c, d] := by
  simp only [bytesOfWord, List.cons.injEq, and_true]
  refine ⟨?_, ?_, ?_, ?_⟩
  all_goals
    refine BitVec.eq_of_getLsbD_eq fun i small => ?_
    simp only [BitVec.getLsbD_append, BitVec.getLsbD_extractLsb']
    grind

/-- The bytes of 4-byte parameters spell them (R192). -/
theorem wordsOfBytes_flatMap (ws : List (BitVec 32)) : wordsOfBytes (ws.flatMap bytesOfWord) = ws := by
  induction ws with
  | nil => rfl
  | cons w ws ih =>
    change _ :: wordsOfBytes (ws.flatMap bytesOfWord) = _
    rw [word_of_bytesOfWord, ih]

/-- Whole 4-byte parameters have no bytes but their own. -/
theorem flatMap_wordsOfBytes (ps : List Byte) (whole : 4 ∣ ps.length) : (wordsOfBytes ps).flatMap bytesOfWord = ps := by
  induction ps using wordsOfBytes.induct with
  | case1 a b c d rest ih =>
    have rest_whole : 4 ∣ rest.length := by simpa using whole
    rw [wordsOfBytes, List.flatMap_cons, bytesOfWord_append, ih rest_whole]
    rfl
  | case2 ps short =>
    match ps with
    | [] => rfl
    | [_] | [_, _] | [_, _, _] => simp at whole
    | a :: b :: c :: d :: rest => exact absurd rfl (short a b c d rest)

theorem configOfWords_wordsOfConfig (f : ConfigFrame) : configOfWords (wordsOfConfig f) = some f := rfl

theorem eq_wordsOfConfig {ws : List (BitVec 32)} {f : ConfigFrame} (spelled : configOfWords ws = some f) :
    ws = wordsOfConfig f := by
  unfold configOfWords at spelled
  split at spelled
  · obtain rfl := Option.some.inj spelled
    rfl
  · exact nomatch spelled

/-! ### Commands by code -/

section
variable (ps : List Byte)

theorem commandOf_configure : commandOf 2 ps =
    (configOfWords (wordsOfBytes ps)).bind fun f => if ps.length = 68 then some (.configure f) else none := by
  rcases ps with _ | ⟨a, _ | ⟨b, _ | ⟨c, ps⟩⟩⟩ <;> rfl

theorem commandOf_bar : commandOf 8 ps = (identityOfBytes ps).map .bar := by
  rcases ps with _ | ⟨a, _ | ⟨b, _ | ⟨c, ps⟩⟩⟩ <;> rfl

theorem commandOf_unbar : commandOf 9 ps = (identityOfBytes ps).map .unbar := by
  rcases ps with _ | ⟨a, _ | ⟨b, _ | ⟨c, ps⟩⟩⟩ <;> rfl

theorem commandOf_find : commandOf 11 ps = (identityOfBytes ps).map .find := by
  rcases ps with _ | ⟨a, _ | ⟨b, _ | ⟨c, ps⟩⟩⟩ <;> rfl

end

/-! ### Frames -/

section
variable {code len : Byte} {ps : List Byte} {i : Instr} {n : Nat}

/-- A complete frame spells the command of its code and parameters (R179). -/
theorem decodeFrame_of_whole (whole : ps.length = len.toNat) :
    decodeFrame (code :: len :: ps) = (commandOf code ps).getD (.badFrame code len) := by
  rw [decodeFrame, if_neg whole.not_lt, ← whole, List.take_length]

theorem decodeFrame_of_short (short : ps.length < len.toNat) : decodeFrame (code :: len :: ps) = .frameDiscarded :=
  if_pos short

theorem decodeFrame_of_command (whole : ps.length = len.toNat) (command : commandOf code ps = some i) :
    decodeFrame (code :: len :: ps) = i := by
  rw [decodeFrame_of_whole whole, command, Option.getD_some]

/-- The frame of a command spells it. -/
theorem decodeFrame_encodeFrame {bytes : List Byte} (frame : encodeFrame i = some bytes) : decodeFrame bytes = i := by
  have identity {make : Identity → Instr} (x : Identity) : (identityOfBytes (bytesOfIdentity x)).map make = some (make x) :=
    congrArg _ (identityOfBytes_bytesOfIdentity x)
  cases i with
  | readStatus | start | restart | readEvent | readCounters | clearAttention | readRecord | deregister | rerange | handover
  | suspend | resume | discoverNow =>
    obtain rfl := Option.some.inj frame
    exact decodeFrame_of_command rfl rfl
  | bar x =>
    obtain rfl := Option.some.inj frame
    exact decodeFrame_of_command rfl ((commandOf_bar _).trans (identity x))
  | unbar x =>
    obtain rfl := Option.some.inj frame
    exact decodeFrame_of_command rfl ((commandOf_unbar _).trans (identity x))
  | find x =>
    obtain rfl := Option.some.inj frame
    exact decodeFrame_of_command rfl ((commandOf_find _).trans (identity x))
  | configure f =>
    obtain rfl := Option.some.inj frame
    refine decodeFrame_of_command rfl ?_
    rw [commandOf_configure, wordsOfBytes_flatMap, configOfWords_wordsOfConfig]
    rfl
  | _ => exact nomatch frame

/-- A frame written out with the numbers of its code and length. -/
theorem encodeFrame_eq_of_numbers (code_eq : code.toNat = n) (whole : ps.length = len.toNat)
    (frame : encodeFrame i = some (BitVec.ofNat 8 n :: BitVec.ofNat 8 ps.length :: ps)) :
    encodeFrame i = some (code :: len :: ps) := by
  rw [frame, ← code_eq, whole, BitVec.ofNat_toNat, BitVec.setWidth_eq, BitVec.ofNat_toNat, BitVec.setWidth_eq]

theorem encodeFrame_eq_of_identity {make : Identity → Instr} (code_eq : code.toNat = n) (whole : ps.length = len.toNat)
    (frame : ∀ x, encodeFrame (make x) = some (BitVec.ofNat 8 n :: 6 :: bytesOfIdentity x))
    (spelled : (identityOfBytes ps).map make = some i) : encodeFrame i = some (code :: len :: ps) := by
  obtain ⟨x, held, rfl⟩ := Option.map_eq_some_iff.1 spelled
  obtain rfl := eq_bytesOfIdentity held
  exact encodeFrame_eq_of_numbers code_eq whole (frame x)

/-- The command of a code and its parameters has the frame that they make: every code of the table with as many bytes as it takes, and
nothing else. -/
theorem encodeFrame_of_command (whole : ps.length = len.toNat) (command : commandOf code ps = some i) :
    encodeFrame i = some (code :: len :: ps) := by
  unfold commandOf at command
  generalize code_eq : code.toNat = n at command
  match n, ps with
  | 1, [] | 3, [] | 4, [] | 5, [] | 16, [] | 17, [] | 6, [_] | 7, [_] | 10, [_] | 12, [_] | 13, [_] | 15, [_] | 14, [_, _] =>
    obtain rfl := Option.some.inj command
    exact encodeFrame_eq_of_numbers code_eq whole rfl
  | 2, ps =>
    obtain ⟨f, spelled, sized⟩ := Option.bind_eq_some_iff.1 ((commandOf_configure ps).symm.trans command)
    obtain ⟨length, made⟩ := Option.ite_none_right_eq_some.1 sized
    obtain rfl := Option.some.inj made
    have bytes : (wordsOfConfig f).flatMap bytesOfWord = ps := by
      rw [← eq_wordsOfConfig spelled, flatMap_wordsOfBytes ps (by simp [length])]
    refine encodeFrame_eq_of_numbers code_eq whole ?_
    rw [length, ← bytes]
    rfl
  | 8, ps => exact encodeFrame_eq_of_identity code_eq whole (fun _ => rfl) ((commandOf_bar ps).symm.trans command)
  | 9, ps => exact encodeFrame_eq_of_identity code_eq whole (fun _ => rfl) ((commandOf_unbar ps).symm.trans command)
  | 11, ps => exact encodeFrame_eq_of_identity code_eq whole (fun _ => rfl) ((commandOf_find ps).symm.trans command)
  | 1, _ :: _ | 3, _ :: _ | 4, _ :: _ | 5, _ :: _ | 16, _ :: _ | 17, _ :: _ | 6, [] | 7, [] | 10, [] | 12, [] | 13, [] | 15, []
  | 6, _ :: _ :: _ | 7, _ :: _ :: _ | 10, _ :: _ :: _ | 12, _ :: _ :: _ | 13, _ :: _ :: _ | 15, _ :: _ :: _ | 14, [] | 14, [_]
  | 14, _ :: _ :: _ :: _ | 0, _ | _ + 18, _ => exact nomatch command

/-- A complete frame that is no command's. -/
theorem decodeFrame_of_no_command (whole : ps.length = len.toNat) (none : ∀ i, encodeFrame i ≠ some (code :: len :: ps)) :
    decodeFrame (code :: len :: ps) = .badFrame code len := by
  rw [decodeFrame_of_whole whole]
  cases command : commandOf code ps with
  | none => rfl
  | some i => exact absurd (encodeFrame_of_command whole command) (none i)

/-- The commands with a frame are the host's, but for the row that stands for a frame that spells none. -/
theorem encodeFrame_isSome_iff (i : Instr) :
    (encodeFrame i).isSome = true ↔ hostCommand i = true ∧ ∀ code length, i ≠ .badFrame code length := by
  cases i <;> simp [encodeFrame, hostCommand]

end

end Sys2Proof.Machine

namespace Sys2Proof.Proofs
open Sys2Proof.Machine

/-- Settles O53: the round trip both ways (`decodeFrame_encodeFrame`, `encodeFrame_of_command`), and each frame as it is written. -/
theorem frameRoundTrip : Obligations.FrameRoundTrip := by
  refine ⟨fun i bytes frame => decodeFrame_encodeFrame frame, encodeFrame_isSome_iff, fun x a b f => ?_, fun code length ps => ?_⟩
  · refine ⟨rfl, ?_, rfl, rfl, rfl, rfl, rfl, rfl, rfl, rfl, rfl, rfl, rfl, rfl, rfl, rfl, rfl⟩
    simp [encodeFrame, wordsOfConfig, bytesOfWord]
  · exact ⟨decodeFrame_of_short, decodeFrame_of_no_command⟩

end Sys2Proof.Proofs
end


section
/-! The commands that read: READ-STATUS item by item, READ-EVENT, READ-COUNTERS, CLEAR-ATTENTION, READ-RECORD and FIND (R26, R27, R183 to
R187). -/

namespace Sys2Proof.Machine

variable {s : State}

/-! ### The items of READ-STATUS (R79, R110, R183) -/

/-- With the pin released INT shows whether an event waits (R184). -/
theorem intAsserted_of_released (released : s.host.held = false) : intAsserted s.host = !s.host.events.isEmpty := by
  simp [intAsserted, released]

theorem isHeld_iff (k : Hold) : isHeld k s = true ↔ k ∈ s.sched.stack := by
  simp [isHeld]

/-- The records held by ranging suspension, `waits` telling which wait for their next attempt (R110). -/
theorem heldByRanging_eq {waits : Handle → Bool} (each : ∀ h, awaitsAttempt s h = waits h) :
    heldByRanging s = if Hold.ranging ∈ s.sched.stack then (List.finRange 128).countP waits else 0 := by
  rw [heldByRanging, funext each]
  simp only [isHeld_iff]

/-! ### CLEAR-ATTENTION (R187, R192) -/

theorem clearAttention_of_refused {b : Byte} (refused : 16 ≤ b.toNat ∨ b = 0) (s : State) :
    clearAttention b s = respond (.badParameter 1) s := by
  have unnamed : conditionsByte b = none := if_pos refused.symm
  simp only [clearAttention, unnamed]

theorem clearAttention_of_named {b : Byte} (some : b ≠ 0) (few : b.toNat < 16) (s : State) :
    clearAttention b s = respond (.ok .nothing)
      { s with
        classifier := { s.classifier with capture := if b.getLsbD 0 then none else s.classifier.capture }
        host := { s.host with attention :=
          s.host.attention.without ⟨b.getLsbD 0, b.getLsbD 1, b.getLsbD 2, b.getLsbD 3⟩ } } := by
  have named : conditionsByte b = .some ⟨b.getLsbD 0, b.getLsbD 1, b.getLsbD 2, b.getLsbD 3⟩ :=
    if_neg (not_or.2 ⟨some, few.not_ge⟩)
  simp only [clearAttention, named]
  rfl

/-! ### READ-EVENT and READ-RECORD (R26, R185) -/

theorem readEvent_of_empty (empty : s.host.events = []) : readEvent s = respond .empty s := by
  simp [readEvent, empty]

theorem readEvent_of_waiting {e : EventRecord} {rest : List EventRecord} (waiting : s.host.events = e :: rest) :
    readEvent s = respond (.ok (.event e)) { s with host := { s.host with events := rest } } := by
  simp only [readEvent, waiting]
  rfl

theorem readRecord_of_high {b : Byte} (high : 128 ≤ b.toNat) (s : State) : readRecord b s = respond (.badParameter 1) s := by
  simp [readRecord, handleByte, high.not_gt]

theorem readRecord_of_handle {b : Byte} {h : Handle} (names : b.toNat = h.val) (s : State) :
    readRecord b s = respond (.ok (.record (recordAt s h))) s := by
  have handle : handleByte b = some h := by simp [handleByte, names]
  simp only [readRecord, handle]

/-! ### The rows -/

/-- A command taken in every part state, between strobes (R77, R179). -/
theorem command_anyState (released : s.host.held = false) (done : owedScheduler s = s) (decide : State → State) :
    Host.Outcome.next (φ := Fault) (ρ := Refusal) (command anyState decide s) = .next (decide s) :=
  congrArg Host.Outcome.next (command_of_taken released done rfl decide)

theorem command_inRunning (released : s.host.held = false) (done : owedScheduler s = s) (run : s.host.part = .running)
    (decide : State → State) :
    Host.Outcome.next (φ := Fault) (ρ := Refusal) (command inRunning decide s) = .next (decide s) :=
  congrArg Host.Outcome.next (command_of_taken released done (by rw [run]; rfl) decide)

theorem exec_readStatus (released : s.host.held = false) (done : owedScheduler s = s) :
    exec .readStatus s = .next (respond (.ok (.status (statusOf s))) s) :=
  command_anyState released done readStatus

theorem findOf_eq (x : Identity) (s : State) :
    findOf x s =
      { held := (holder s x).map fun h => (h, (recordAt s h).state), barred := decide (x ∈ s.table.barred)
        contested := (contestedEntry s x).map Contested.expiry } := by
  simp [findOf, isBarred]

end Sys2Proof.Machine

namespace Sys2Proof.Proofs
open Sys2Proof.Machine

/-- Settles O47: the status item by item, each count by what it counts, and the other commands by their cases. -/
theorem readingCommands : Obligations.ReadingCommands := by
  constructor
  · intro s released done spans slots
    refine (exec_readStatus released (owedScheduler_between done)).trans ?_
    refine congrArg (fun r => Host.Outcome.next (respond (.ok (.status r)) s)) ?_
    simp only [statusOf, StatusReport.mk.injEq, true_and, and_true]
    refine ⟨intAsserted_of_released released, rfl, ?own, ?peer, ?range, ?verify, ?asked, ?out, ?answered, ?waits, rfl⟩
    case own | peer | range | verify =>
      refine congrArg (List.countP · s.sched.spans) (funext fun x => ?_)
      obtain ⟨kind, first, last⟩ := x
      cases kind <;> rfl
    case asked | out | answered =>
      refine congrArg (List.countP · (List.finRange 128)) (funext fun h => ?_)
      cases slotAt s h <;> rfl
    case waits =>
      refine heldByRanging_eq fun h => ?_
      unfold awaitsAttempt
      cases recordAt s h with
      | ranging x r => cases slotAt s h <;> simp
      | _ => rfl
  · intro s released done ok
    have between := owedScheduler_between done
    have answer (decide : State → State) := command_anyState released between decide
    refine ⟨fun empty => ?_, fun e rest waiting => ?_, answer _, answer _, fun b refused => ?_, fun b some few => ?_, fun run => ?_⟩
    · exact (answer _).trans (congrArg _ (readEvent_of_empty empty))
    · exact (answer _).trans (congrArg _ (readEvent_of_waiting waiting))
    · exact (answer _).trans (congrArg _ (clearAttention_of_refused refused s))
    · exact (answer _).trans (congrArg _ (clearAttention_of_named some few s))
    have answer (decide : State → State) := command_inRunning released between run decide
    refine ⟨fun b high => ?_, fun b h names => ?_, fun x => ?_⟩
    · exact (answer _).trans (congrArg _ (readRecord_of_high high s))
    · exact (answer _).trans (congrArg _ (readRecord_of_handle names s))
    · exact (answer _).trans (congrArg (fun r => Host.Outcome.next (respond (.ok (.found r)) s)) (findOf_eq x s))

end Sys2Proof.Proofs
end

section
/-! CONFIGURE, START and RESTART: the checks of R180's table and its ranges say the same, and what a strobe's work never changes stands
through RESTART (R180, R181, R182, R6). -/

namespace Sys2Proof.Machine

variable {s : State}

/-! ### Checks and the ranges that they decide -/

/-- Each check of the list decides the range at its place. -/
def Decides (checks : List Bool) (ranges : List Prop) : Prop :=
  List.Forall₂ (fun b p => b = true ↔ p) checks ranges

theorem Decides.findIdx?_eq_none {checks : List Bool} {ranges : List Prop} (same : Decides checks ranges)
    (all : ∀ p ∈ ranges, p) : checks.findIdx? (!·) = none := by
  induction same with
  | nil => rfl
  | cons first _ ih =>
    rw [List.forall_mem_cons] at all
    simp [List.findIdx?_cons, first.2 all.1, ih all.2]

theorem Decides.findIdx?_eq_some {checks : List Bool} {ranges : List Prop} (same : Decides checks ranges) :
    ∀ {n : Nat} {p : Prop}, ranges[n]? = some p → ¬ p → (∀ m r, m < n → ranges[m]? = some r → r) →
      checks.findIdx? (!·) = some n := by
  induction same with
  | nil => exact fun found => nomatch found
  | cons first _ ih =>
    intro n p found fails before
    cases n with
    | zero =>
      obtain rfl := Option.some.inj found
      simp [List.findIdx?_cons, Bool.eq_false_iff.2 (mt first.1 fails)]
    | succ n =>
      have passed := first.2 (before 0 _ n.succ_pos rfl)
      have rest := ih found fails fun m r less => before (m + 1) r (Nat.succ_lt_succ less)
      simp [List.findIdx?_cons, passed, rest]

/-- The ranges of R180's table, in its order. -/
def configRanges (own : Nat) (f : ConfigFrame) : List Prop :=
  let within := fun (w : BitVec 32) (a b : Nat) => a ≤ w.toNat ∧ w.toNat ≤ b
  [within f.channelCount 1 4 ∧ own < f.channelCount.toNat,
    within f.treeLoopTime 400000 2137151,
    f.minLoopDelay.toNat ≤ f.maxLoopDelay.toNat,
    f.maxLoopDelay.toNat + 40000 ≤ f.treeLoopTime.toNat ∧ f.maxLoopDelay.toNat ≤ f.minLoopDelay.toNat + 1250000,
    within f.lead 8 15 ∧ (f.treeLoopTime.toNat + 312499) / 312500 + 2 ≤ f.lead.toNat,
    within f.discoveryPeriod 100 60000,
    within f.fastPeriod 20 1000,
    within f.settleTime 4 64,
    within f.rangingTolerance 1 16,
    within f.driftThreshold 1 16,
    within f.missingLimit 2 15,
    within f.freshness 8 1000,
    within f.retention 1 60000,
    within f.handoverTime 50 10000,
    within f.absenceTime 1000 60000,
    f.trainingPattern.toNat ≤ 255,
    f.eventMask.toNat < 2 ^ 19]

theorem decides_configChecks (own : Channel) (f : ConfigFrame) : Decides (configChecks own f) (configRanges own.val f) := by
  unfold Decides configChecks configRanges
  simp only [List.forall₂_cons, List.Forall₂.nil, Bool.and_eq_true, decide_eq_true_eq, and_true, iff_self, true_and]
  simp only [responseOffset, cycleLength, Nat.zero_le, true_and, iff_self, and_true]
  omega

theorem configProblem_eq_none {own : Channel} {f : ConfigFrame} (all : ∀ p ∈ configRanges own.val f, p) :
    configProblem own f = none :=
  congrArg (Option.map (· + 1)) ((decides_configChecks own f).findIdx?_eq_none all)

theorem configProblem_eq_some {own : Channel} {f : ConfigFrame} {n : Nat} {p : Prop}
    (found : (configRanges own.val f)[n]? = some p) (fails : ¬ p)
    (before : ∀ m r, m < n → (configRanges own.val f)[m]? = some r → r) : configProblem own f = some (n + 1) :=
  congrArg (Option.map (· + 1)) ((decides_configChecks own f).findIdx?_eq_some found fails before)

/-! ### What a strobe's work leaves -/

/-- What neither a deadline's service nor a request changes: the barred list, the capture and the slate. -/
def lasting (s : State) : List Identity × Option Captured × Slate :=
  (s.table.barred, s.classifier.capture, s.builder.slate)


theorem SchedulerFrame.lasting_eq {t : State} (f : SchedulerFrame s t) : lasting t = lasting s := by
  unfold lasting
  rw [f.barred, f.classifier, f.builder]

@[simp] theorem lasting_ite (c : Prop) [Decidable c] (s t : State) :
    lasting (if c then s else t) = if c then lasting s else lasting t :=
  apply_ite lasting c s t

theorem lasting_foldl {α : Type} {f : State → α → State} (each : ∀ t a, lasting (f t a) = lasting t) (xs : List α) (s : State) :
    lasting (xs.foldl f s) = lasting s := by
  induction xs generalizing s with
  | nil => rfl
  | cons x xs ih => exact (ih (f s x)).trans (each s x)

section
variable (s : State)

@[simp] theorem lasting_raise (e : Event) : lasting (raise e s) = lasting s := rfl

@[simp] theorem lasting_setRecord (h : Handle) (r : Record) : lasting (setRecord h r s) = lasting s := rfl

@[simp] theorem lasting_queueNotice (n : Notice) : lasting (queueNotice n s) = lasting s :=
  (frame_queueNotice n s).lasting_eq

@[simp] theorem lasting_queueMessage (m : Message) (tag : Option Identity) : lasting (queueMessage m tag s) = lasting s := by
  rcases queueMessage_cases m tag s with ⟨-, same⟩ | ⟨-, same⟩ <;> rw [same] <;> rfl

@[simp] theorem lasting_withdrawRequest (h : Handle) : lasting (withdrawRequest h s) = lasting s := by
  simp [lasting]

@[simp] theorem lasting_freeRecord (h : Handle) : lasting (freeRecord h s) = lasting s := by
  unfold freeRecord
  simp

@[simp] theorem lasting_dropAndRelease (h : Handle) (x : Identity) (reason : DropReason) :
    lasting (dropAndRelease h x reason s) = lasting s := by
  simp [dropAndRelease, queueDrop]

@[simp] theorem lasting_makeLost (h : Handle) (x : Identity) (delay : Nat) (lastGood : LocalCount) :
    lasting (makeLost h x delay lastGood s) = lasting s := rfl

@[simp] theorem lasting_failRanging (h : Handle) (reason : RangingFailure) : lasting (failRanging h reason s) = lasting s := by
  unfold failRanging
  split
  case h_1 x r _ => cases r.origin <;> simp
  all_goals rfl

@[simp] theorem lasting_queueAssign (h : Handle) (x : Identity) : lasting (queueAssign h x id s) = lasting s := by
  simp [queueAssign]

theorem lasting_serveSettle (h : Handle) : lasting (serveSettle h s) = lasting s := by
  unfold serveSettle
  split
  · simp
  all_goals rfl

theorem lasting_serveOffer (h : Handle) : lasting (serveOffer h s) = lasting s := by
  unfold serveOffer
  split
  · simp [endOffer]
  all_goals rfl

theorem lasting_serveHandoverSource (h : Handle) : lasting (serveHandoverSource h s) = lasting s := by
  unfold serveHandoverSource
  split
  · simp [lapseSource]
  all_goals rfl

theorem lasting_serveHandoverTarget (h : Handle) : lasting (serveHandoverTarget h s) = lasting s := by
  unfold serveHandoverTarget
  split
  · simp
  all_goals rfl

theorem lasting_serveRetention (h : Handle) : lasting (serveRetention h s) = lasting s := by
  unfold serveRetention
  split
  · simp
  all_goals rfl

theorem lasting_owedScheduler : lasting (owedScheduler s) = lasting s := by
  unfold owedScheduler
  split
  · exact (schedulerWork_frame s).lasting_eq
  · rfl

theorem lasting_request (q : Request) : lasting (request q s) = lasting s :=
  (frame_meetRequest q _).lasting_eq.trans (lasting_owedScheduler s)

theorem lasting_serveVerifyRetry (h : Handle) : lasting (serveVerifyRetry h s) = lasting s := by
  unfold serveVerifyRetry
  split
  · simp [askVerify, lasting_request]
  all_goals rfl

theorem lasting_serveRecord (h : Handle) : lasting (serveRecord s h) = lasting s := by
  unfold serveRecord
  split
  · exact lasting_serveSettle s h
  · exact lasting_serveOffer s h
  · exact lasting_serveHandoverSource s h
  · exact (lasting_serveVerifyRetry _ h).trans (lasting_serveHandoverTarget s h)
  · exact lasting_serveRetention s h
  all_goals rfl

theorem lasting_serveContestedExpiry (x : Identity) : lasting (serveContestedExpiry x s) = lasting s := by
  unfold serveContestedExpiry
  split
  · split <;> rfl
  · rfl

theorem lasting_serveAbsence (l : LaneNo) : lasting (serveAbsence l s) = lasting s := by
  have discarded : lasting (discardAssembly l s) = lasting s := by
    unfold discardAssembly
    split <;> rfl
  unfold serveAbsence
  split
  · split
    · exact discarded
    · rfl
  all_goals rfl

theorem lasting_serveLane (l : LaneNo) : lasting (serveLane s l) = lasting s := by
  rw [serveLane, lasting_ite, lasting_serveAbsence, ite_self]

theorem lasting_answerEntry (e : DirectedGrant) : lasting (answerEntry e .noBurst s) = lasting s := by
  unfold answerEntry
  split
  · rfl
  · unfold verifyReport
    split
    · rfl
    case h_2 taker _ => cases taker <;> rfl

theorem lasting_serveEntry (e : DirectedGrant) : lasting (serveEntry s e) = lasting s := by
  unfold serveEntry serveExpiry
  dsimp only
  split
  · exact lasting_answerEntry _ _
  · rfl

theorem lasting_serveLeftovers : lasting (serveLeftovers s) = lasting s :=
  (lasting_foldl lasting_serveEntry _ _).trans <| (lasting_foldl lasting_serveLane _ _).trans <|
    (lasting_foldl lasting_serveRecord _ _).trans <|
      lasting_foldl (f := fun s (c : Contested) => serveContestedExpiry c.identity s)
        (fun t c => lasting_serveContestedExpiry t c.identity) _ s

end

theorem barred_owedBuild (s : State) : (owedBuild s).table.barred = s.table.barred := by
  unfold owedBuild buildSlate
  dsimp only
  split
  · split <;> rfl
  · rfl

theorem capture_owedBuild (s : State) : (owedBuild s).classifier.capture = s.classifier.capture := by
  unfold owedBuild buildSlate
  dsimp only
  split
  · split <;> rfl
  · rfl

theorem lasting_finishStrobe (s : State) : lasting (finishStrobe s) = lasting (owedBuild (owedScheduler s)) := by
  rw [finishStrobe, lasting_ite, lasting_serveLeftovers, ite_self]

theorem barred_finishStrobe (s : State) : (finishStrobe s).table.barred = s.table.barred :=
  calc
    (finishStrobe s).table.barred = (owedBuild (owedScheduler s)).table.barred := congrArg Prod.fst (lasting_finishStrobe s)
    _ = (owedScheduler s).table.barred := barred_owedBuild _
    _ = s.table.barred := congrArg Prod.fst (lasting_owedScheduler s)

theorem capture_finishStrobe (s : State) : (finishStrobe s).classifier.capture = s.classifier.capture :=
  calc
    (finishStrobe s).classifier.capture = (owedBuild (owedScheduler s)).classifier.capture :=
      congrArg (fun f => f.2.1) (lasting_finishStrobe s)
    _ = (owedScheduler s).classifier.capture := capture_owedBuild _
    _ = s.classifier.capture := congrArg (fun f => f.2.1) (lasting_owedScheduler s)

theorem owesBuild_owedScheduler (s : State) : (owedScheduler s).time.owesBuild = s.time.owesBuild := by
  unfold owedScheduler
  split
  · rw [(schedulerWork_frame s).time]
  · rfl

/-- A strobe with no build owed leaves the slate (R177). -/
theorem slate_finishStrobe (built : s.time.owesBuild = false) : (finishStrobe s).builder.slate = s.builder.slate :=
  have stands : owedBuild (owedScheduler s) = owedScheduler s := if_neg (by simp [owesBuild_owedScheduler, built])
  calc
    (finishStrobe s).builder.slate = (owedBuild (owedScheduler s)).builder.slate :=
      congrArg (fun f => f.2.2) (lasting_finishStrobe s)
    _ = (owedScheduler s).builder.slate := congrArg (fun t => t.builder.slate) stands
    _ = s.builder.slate := congrArg (fun f => f.2.2) (lasting_owedScheduler s)

theorem host_owedBuild (s : State) : (owedBuild s).host = s.host := by
  unfold owedBuild buildSlate
  dsimp only
  split
  · split <;> rfl
  · rfl

theorem finishStrobe_owedScheduler (s : State) : finishStrobe (owedScheduler s) = finishStrobe s := by
  cases run : running s with
  | false => rw [owedScheduler_of_not_running run]
  | true =>
    cases owed : s.time.owesScheduler with
    | false => rw [owedScheduler_of_not_owed owed]
    | true => rw [owedScheduler_of_owed run owed, finishStrobe_schedulerWork run owed]

/-! ### The three commands -/

theorem command_inInit (released : s.host.held = false) (init : s.host.part = .init) (decide : State → State) :
    command inInit decide s = decide s :=
  command_of_taken released (owedScheduler_of_not_running (by simp [running, init])) (by simp [inInit, init]) decide

theorem exec_configure (released : s.host.held = false) (init : s.host.part = .init) (f : ConfigFrame) :
    exec (.configure f) s = .next (configure f s) :=
  congrArg Host.Outcome.next (command_inInit released init _)

theorem configure_of_accepted {f : ConfigFrame} (accepted : configProblem s.host.ownChannel f = none) :
    configure f s = respondOk (s.onHost fun hp => { hp with config := configOfFrame f }) := by
  rw [configure, accepted]

theorem configure_of_refused {f : ConfigFrame} {n : Nat} (refused : configProblem s.host.ownChannel f = some n) :
    configure f s = respond (.badParameter n) s := by
  rw [configure, refused]

theorem exec_start (released : s.host.held = false) (init : s.host.part = .init) : exec .start s = .next (startPart s) :=
  congrArg Host.Outcome.next (command_inInit released init _)

theorem exec_restart (released : s.host.held = false) : exec .restart s = .next (respondOk (emptyBlocks (finishStrobe s))) := by
  have taken : command anyState restartPart s = restartPart (owedScheduler s) := by
    rw [command_of_released released]
    rfl
  show Host.Outcome.next (command anyState restartPart s) = _
  rw [taken, restartPart, finishStrobe_owedScheduler]

theorem recordAt_emptyBlocks (s : State) (h : Handle) : recordAt (emptyBlocks s) h = .free := by
  simp [recordAt, emptyBlocks]

theorem slotAt_emptyBlocks (s : State) (h : Handle) : slotAt (emptyBlocks s) h = .idle := by
  simp [slotAt, emptyBlocks, slotsAtReset]

end Sys2Proof.Machine

namespace Sys2Proof.Proofs

open Sys2Proof.Machine

/-- Settles O49: the checks of CONFIGURE decide R180's ranges one by one; RESTART empties what the finished strobe leaves. -/
theorem configureStartRestart : Obligations.ConfigureStartRestart := by
  unfold Obligations.ConfigureStartRestart
  refine ⟨fun f s released init => ⟨fun all => ?_, fun n range found fails before => ?_, fun all => ?_⟩,
    fun s released init => ⟨fun without => ?_, fun within => ?_⟩, fun s released => ?_⟩
  · rw [exec_configure released init, configure_of_accepted (configProblem_eq_none all)]
    rfl
  · rw [exec_configure released init, configure_of_refused (configProblem_eq_some found fails before)]
  · have within := configWithin_of_accepted (configProblem_eq_none (own := s.host.ownChannel) all)
    obtain ⟨low, high⟩ := windowLength_le _ within
    exact ⟨within, low, high, (grantLead_le within).1⟩
  · rw [exec_start released init, startPart, if_pos without]
  · rw [exec_start released init, startPart, if_neg (Nat.not_le.2 within)]
    rfl
  · have footing := (steady_finishStrobe s).footing
    refine ⟨_, exec_restart released, rfl, congrArg Footing.config footing, congrArg Footing.ownChannel footing,
      congrArg Footing.treeCycle footing, congrArg Footing.localCount footing,
      fun h => ⟨recordAt_emptyBlocks (finishStrobe s) h, slotAt_emptyBlocks (finishStrobe s) h⟩, barred_finishStrobe s,
      rfl, rfl, rfl, capture_finishStrobe s, rfl, rfl, rfl, rfl, slate_finishStrobe, congrArg Footing.pending footing, fun idle => ?_⟩
    have host : (finishStrobe s).host = s.host := by rw [finishStrobe_of_not_running idle, host_owedBuild]
    exact congrArg (fun hp : HostPort => { hp with part := .init, response := some (.ok .nothing) }) host

end Sys2Proof.Proofs
end

section
/-! The actions that many rows share: counting, the ordered span list, and the searches of the table (R18, R20, R55, R186). -/

namespace Sys2Proof.Machine

variable {s : State}

/-! ### Counting (R186) -/

/-- One more, stopping at the last value. -/
theorem toNat_countUp (v : BitVec 16) : (countUp v).toNat = min 65535 (v.toNat + 1) := by
  unfold countUp
  split
  case isTrue last => simp [last]
  case isFalse less =>
    have small : v.toNat ≠ 65535 := fun same => less (BitVec.eq_of_toNat_eq same)
    rw [BitVec.toNat_add]
    have := v.isLt
    simp only [BitVec.ofNat_eq_ofNat, BitVec.toNat_ofNat]
    omega

/-- The counters in the order of R186's table. -/
def countersInOrder : Vector Counter 18 :=
  #v[.discoveryWindows, .identitiesHeard, .headersCorrected, .headersUncorrectable, .windowOverflow, .lateReports, .strayReports,
    .wrongTerminal, .foreignLight, .contestedIgnored, .outOfBand, .noticesDiscarded, .noticeOverruns, .messageOverruns,
    .eventsLost, .badWords 0, .badWords 1, .badWords 2]

/-- A counter stands at its place of the table. -/
theorem countersInOrder_index (c : Counter) : countersInOrder[c.index] = c := by
  cases c with
  | badWords l => fin_cases l <;> rfl
  | _ => rfl

/-- Each counter has a place of its own in R186's table. -/
theorem Counter.index_injective : Function.Injective Counter.index :=
  Function.LeftInverse.injective (g := fun i => countersInOrder[i]) countersInOrder_index

/-! ### The span list (R55) -/

theorem insertSpan_eq (x : Span) (l : List Span) :
    insertSpan x l = l.takeWhile (fun y => y.first.le x.first) ++ x :: l.dropWhile fun y => y.first.le x.first := by
  induction l with
  | nil => rfl
  | cons y rest ih =>
    unfold insertSpan
    split
    case isTrue earlier => simp [earlier, ih]
    case isFalse later => simp [later]

/-- The time of a position after the origin of cycle `c`, in bt. -/
def Pos.timeFrom (c : TreeCycle) (p : Pos) : Int :=
  (p.cycle - c).toInt * 312500 + p.offset

/-- A position's cycle is in the half range after the origin. -/
def Pos.Near (c : TreeCycle) (p : Pos) : Prop :=
  0 ≤ (p.cycle - c).toInt ∧ (p.cycle - c).toInt < 16384

theorem cycleDiff_of_near {c a b : TreeCycle} (nearA : 0 ≤ (a - c).toInt ∧ (a - c).toInt < 16384)
    (nearB : 0 ≤ (b - c).toInt ∧ (b - c).toInt < 16384) : cycleDiff a b = (a - c).toInt - (b - c).toInt := by
  have shifted : a - b = (a - c) - (b - c) := by ring
  obtain ⟨lowA, highA⟩ := nearA
  obtain ⟨lowB, highB⟩ := nearB
  rw [cycleDiff, shifted, BitVec.toInt_sub]
  exact Int.bmod_eq_of_le (by omega) (by omega)

/-- Positions near one origin are ordered by their times. -/
theorem Pos.le_iff_of_near {c : TreeCycle} {p q : Pos} (nearP : p.Near c) (nearQ : q.Near c) :
    p.le q = true ↔ p.timeFrom c ≤ q.timeFrom c := by
  rw [Pos.le, decide_eq_true_eq, Pos.after, cycleDiff_of_near nearP nearQ, Pos.timeFrom, Pos.timeFrom, cycleLength]
  omega

/-- A list ordered by start stays so, the starts within half the cycle range of one another. -/
theorem pairwise_insertSpan {x : Span} {c : TreeCycle} {l : List Span} (near : ∀ y ∈ x :: l, y.first.Near c)
    (ordered : l.Pairwise fun a b => a.first.le b.first = true) :
    (insertSpan x l).Pairwise fun a b => a.first.le b.first = true := by
  induction l with
  | nil => exact List.pairwise_singleton _ x
  | cons y rest ih =>
    obtain ⟨nearX, nearY, nearRest⟩ : x.first.Near c ∧ y.first.Near c ∧ ∀ r ∈ rest, r.first.Near c := by simpa using near
    obtain ⟨head, tail⟩ := List.pairwise_cons.1 ordered
    unfold insertSpan
    split
    case isTrue earlier =>
      refine List.pairwise_cons.2 ⟨fun r mem => ?_, ih (by simpa using ⟨nearX, nearRest⟩) tail⟩
      rcases (mem_insertSpan x r rest).1 mem with rfl | old
      · exact earlier
      · exact head r old
    case isFalse later =>
      have before : x.first.timeFrom c ≤ y.first.timeFrom c :=
        (not_le.1 (mt (Pos.le_iff_of_near nearY nearX).2 later)).le
      refine List.pairwise_cons.2 ⟨fun r mem => ?_, ordered⟩
      rcases List.mem_cons.1 mem with rfl | old
      · exact (Pos.le_iff_of_near nearX nearY).2 before
      · have after := (Pos.le_iff_of_near nearY (nearRest r old)).1 (head r old)
        exact (Pos.le_iff_of_near nearX (nearRest r old)).2 (before.trans after)

/-! ### The searches of the table (R18, R20) -/

theorem holder_eq_none_iff (x : Identity) : holder s x = none ↔ ∀ h, (recordAt s h).identity? ≠ some x := by
  simp [holder]

/-- Where no identity is held twice, the search finds the record that holds it. -/
theorem holder_eq_some_iff (once : IdentitiesOnce s) (x : Identity) (h : Handle) :
    holder s x = some h ↔ (recordAt s h).identity? = some x := by
  refine ⟨holder_holds, fun holds => ?_⟩
  obtain ⟨g, found⟩ := Option.isSome_iff_exists.1 (holder_isSome holds)
  have same := holder_holds found
  rw [found, once g h (by simp [same]) (same.trans holds.symm)]

theorem state_beq_free (r : Record) : (r.state == .free) = true ↔ r = .free := by
  cases r <;> simp [Record.state]

theorem lowestFree_eq_none_iff : lowestFree s = none ↔ ∀ h, recordAt s h ≠ .free := by
  simp [lowestFree, ← state_beq_free]

theorem lowestFree_eq_some_iff (h : Handle) :
    lowestFree s = some h ↔ recordAt s h = .free ∧ ∀ g, g < h → recordAt s g ≠ .free := by
  rw [lowestFree, ← Fin.find?_eq_find?_finRange, Fin.find?_eq_some_iff]
  simp [← state_beq_free]

/-! ### A record freed (R21, R70, R101) -/

theorem slotAt_freeRecord_self (h : Handle) (s : State) : slotAt (freeRecord h s) h =
    if s.sched.placements.any (fun r => r.handle == h && r.isRange) then .idle else slotAt s h := by
  rw [freeRecord, slotAt_setRecord, withdrawRequest]
  split
  · exact slotAt_setSlot_self _ _ _
  · exact slotAt_dropRequest _ _ _

theorem slotAt_freeRecord_ne {g h : Handle} (s : State) (ne : g ≠ h) : slotAt (freeRecord h s) g = slotAt s g := by
  rw [freeRecord, slotAt_setRecord, slotAt_withdrawRequest_ne s ne]

theorem freeRecord_sched (h : Handle) (s : State) : (freeRecord h s).sched =
    { s.sched with placements := s.sched.placements.filter fun r => r.handle != h } :=
  withdrawRequest_sched h s

/-- A record freed leaves all but the table, the slots and the placement queue. -/
theorem freeRecord_eq (h : Handle) (s : State) : freeRecord h s =
    { s with table := (freeRecord h s).table, slots := (freeRecord h s).slots, sched := (freeRecord h s).sched } := by
  unfold freeRecord withdrawRequest
  split <;> rfl

theorem freeRecord_barred (h : Handle) (s : State) : (freeRecord h s).table.barred = s.table.barred := by
  simp [freeRecord, setRecord]

end Sys2Proof.Machine

namespace Sys2Proof.Proofs

open Sys2Proof.Machine

/-- Settles O11: each shared action by its own cases. -/
theorem sharedActions : Obligations.SharedActions := by
  unfold Obligations.SharedActions
  refine ⟨⟨fun cycle e hp => ⟨fun masked => if_pos masked, fun shown room => ?_, fun shown full => ?_⟩, fun c hp =>
    ⟨?_, fun d other => counters_bump_ne (Counter.index_injective.ne other) hp, rfl⟩, fun n m tag s =>
      ⟨fun room => if_pos room, fun full => if_neg (Nat.not_lt.2 full), fun room => ?_, fun full => ?_⟩⟩, ⟨fun x s => ?_,
        fun x c l near ordered => pairwise_insertSpan near ordered⟩, fun h s =>
          ⟨recordAt_freeRecord_self h s, fun g ne => recordAt_freeRecord_ne s ne, congrArg Scheduler.placements (freeRecord_sched h s),
            slotAt_freeRecord_self h s, fun g ne => slotAt_freeRecord_ne s ne, freeRecord_eq h s, freeRecord_barred h s,
            freeRecord_contested h s, ?_, rfl, withdrawRequest_table h s⟩, fun s =>
              ⟨holder_eq_some_iff, holder_eq_none_iff, fun x => rfl, lowestFree_eq_some_iff, lowestFree_eq_none_iff⟩⟩
  · rw [HostPort.raise, if_neg (by simp [shown]), if_pos room]
  · rw [HostPort.raise, if_neg (by simp [shown]), if_neg (Nat.not_lt.2 full)]
    rfl
  · rw [counters_bump_self, toNat_countUp]
  · exact if_pos ((backlogRoom_iff s).2 room)
  · exact if_neg (mt (backlogRoom_iff s).1 (Nat.not_lt.2 full))
  · exact ⟨congrArg (fun l => { s with
      sched := { s.sched with spans := l }
      builder := { s.builder with reservations := s.builder.reservations ++ [x] } }) (insertSpan_eq x s.sched.spans), rfl⟩
  · rw [freeRecord_sched]

end Sys2Proof.Proofs
end

section
/-! Parity: a run of inversions, one at each 1 bit, tells whether the number of 1 bits is even, and one inverted bit changes it. -/

namespace Sys2Proof.Machine

variable {b c : Nat → Bool} {p : Nat} {l : List Nat}

/-- A flag inverted at each position that holds a 1. -/
theorem foldl_not_eq (b : Nat → Bool) (l : List Nat) (e : Bool) :
    l.foldl (fun even i => if b i then !even else even) e = (e ^^ decide (l.countP b % 2 = 1)) := by
  induction l generalizing e with
  | nil => simp
  | cons i l ih =>
    rw [List.foldl_cons, ih, List.countP_cons]
    have parity := Nat.mod_two_eq_zero_or_one (l.countP b)
    cases b i <;> rcases parity with even | odd <;> simp [Nat.add_mod, *]

theorem foldl_not_iff (b : Nat → Bool) (l : List Nat) :
    l.foldl (fun even i => if b i then !even else even) true = true ↔ l.countP b % 2 = 0 := by
  rw [foldl_not_eq]
  simp

/-- One bit of the list inverted makes one 1 more or one fewer. -/
theorem countP_of_inverted (nodup : l.Nodup) (mem : p ∈ l) (inverted : c p = !b p) (others : ∀ i, i ≠ p → c i = b i) :
    l.countP c = l.countP b + 1 ∨ l.countP b = l.countP c + 1 := by
  induction l with
  | nil => exact absurd mem List.not_mem_nil
  | cons i l ih =>
    obtain ⟨fresh, nodup⟩ := List.nodup_cons.1 nodup
    rw [List.countP_cons, List.countP_cons]
    rcases List.mem_cons.1 mem with rfl | mem
    · have tail : l.countP c = l.countP b :=
        List.countP_congr fun i old => by rw [others i fun same => fresh (same ▸ old)]
      rw [tail, inverted]
      cases b p <;> simp
    · have head : c i = b i := others i fun same => fresh (same ▸ mem)
      rw [head]
      rcases ih nodup mem with more | fewer <;> omega

/-- One inverted bit turns the flag. -/
theorem foldl_not_of_inverted (nodup : l.Nodup) (mem : p ∈ l) (inverted : c p = !b p) (others : ∀ i, i ≠ p → c i = b i) :
    l.foldl (fun even i => if c i then !even else even) true = !l.foldl (fun even i => if b i then !even else even) true := by
  rw [Bool.eq_not, ne_eq, Bool.eq_iff_iff, foldl_not_iff, foldl_not_iff]
  rcases countP_of_inverted nodup mem inverted others with more | fewer <;> omega

end Sys2Proof.Machine
end

section
/-! The lane words in their layouts, and the words of a notice on their way over an UP lane (R125, R126, R127, R140, R141, R190). -/

namespace Sys2Proof.Machine

/-! ### A word made (R125) -/

theorem evenParity_iff (w : LaneWord) : evenParity w = true ↔ ((List.range 32).countP fun i => w.getLsbD i) % 2 = 0 :=
  foldl_not_iff _ _

/-- The parity bit inverted turns the parity. -/
theorem evenParity_xor_one (w : LaneWord) : evenParity (w ^^^ 1#32) = !evenParity w :=
  foldl_not_of_inverted (p := 0) List.nodup_range (by simp) (by simp) fun i other => by simp [other]

theorem evenParity_makeWord (typed : BitVec 30) (a : Bool) : evenParity (makeWord typed a) = true := by
  unfold makeWord
  dsimp only
  split
  case isTrue even => exact even
  case isFalse odd => simpa [evenParity_xor_one] using odd

/-- Above its parity bit a word holds its alternation bit, then type and payload. -/
theorem getLsbD_makeWord (typed : BitVec 30) (a : Bool) (i : Nat) :
    (makeWord typed a).getLsbD (i + 1) = if i = 0 then a else typed.getLsbD (i - 1) := by
  have laid : (typed ++ BitVec.ofBool a ++ 0#1).getLsbD (i + 1) = if i = 0 then a else typed.getLsbD (i - 1) := by
    simp only [BitVec.getLsbD_append]
    cases i <;> simp
  unfold makeWord
  dsimp only
  split
  · exact laid
  · rw [BitVec.getLsbD_xor]
    simpa using laid

theorem wordAlternation_makeWord (typed : BitVec 30) (a : Bool) : wordAlternation (makeWord typed a) = a :=
  getLsbD_makeWord typed a 0

/-- Any bits of type and payload stand two places higher in the word. -/
theorem extractLsb'_makeWord (typed : BitVec 30) (a : Bool) (start len : Nat) :
    (makeWord typed a).extractLsb' (start + 2) len = typed.extractLsb' start len := by
  refine BitVec.eq_of_getLsbD_eq fun i _ => ?_
  rw [BitVec.getLsbD_extractLsb', BitVec.getLsbD_extractLsb', show start + 2 + i = start + i + 1 + 1 by omega,
    getLsbD_makeWord, if_neg (Nat.succ_ne_zero _), Nat.add_sub_cancel]

theorem typed_makeWord (typed : BitVec 30) (a : Bool) : (makeWord typed a).extractLsb' 2 30 = typed :=
  (extractLsb'_makeWord typed a 0 30).trans (by simp)

theorem wordPayload_makeWord (typed : BitVec 30) (a : Bool) : wordPayload (makeWord typed a) = typed.extractLsb' 0 28 :=
  extractLsb'_makeWord typed a 0 28

theorem typeBits_makeWord (typed : BitVec 30) (a : Bool) : (makeWord typed a).extractLsb' 30 2 = typed.extractLsb' 28 2 :=
  extractLsb'_makeWord typed a 28 2

/-! ### The types (R190) -/

/-- The type that two bits name. -/
def typeOf (bits : BitVec 2) : Option WordType :=
  match bits.toNat with
  | 0 => some .fill
  | 1 => some .head
  | 2 => some .body
  | _ => none

theorem wordType_eq (w : LaneWord) : wordType w = typeOf (w.extractLsb' 30 2) :=
  rfl

theorem typeOf_iff : ∀ bits : BitVec 2, (typeOf bits = some .fill ↔ bits = 0b00#2) ∧ (typeOf bits = some .head ↔ bits = 0b01#2) ∧
    (typeOf bits = some .body ↔ bits = 0b10#2) ∧ (typeOf bits = none ↔ bits = 0b11#2) := by
  decide

theorem wordType_makeWord (typed : BitVec 30) (a : Bool) : wordType (makeWord typed a) = typeOf (typed.extractLsb' 28 2) := by
  rw [wordType_eq, typeBits_makeWord]

/-! ### Fields cut from what they were put together of -/

/-- The low part of two parts put together. -/
theorem extractLsb'_append_low {v w : Nat} (x : BitVec v) (y : BitVec w) : (x ++ y).extractLsb' 0 w = y := by
  refine BitVec.eq_of_getLsbD_eq fun i below => ?_
  simp [BitVec.getLsbD_append, below]

/-- A part cut from the high one of two parts put together. -/
theorem extractLsb'_append_high {v w : Nat} (x : BitVec v) (y : BitVec w) (start len : Nat) :
    (x ++ y).extractLsb' (w + start) len = x.extractLsb' start len := by
  refine BitVec.eq_of_getLsbD_eq fun i below => ?_
  simp [BitVec.getLsbD_append, below, Nat.add_assoc]

theorem extractLsb'_all {w : Nat} (x : BitVec w) : x.extractLsb' 0 w = x := by
  simp

/-- A part cut from the low part is cut from the whole. -/
theorem extractLsb'_of_low {w : Nat} (x : BitVec w) {n start len : Nat} (within : start + len ≤ n) :
    (x.extractLsb' 0 n).extractLsb' start len = x.extractLsb' start len := by
  refine BitVec.eq_of_getLsbD_eq fun i below => ?_
  have inside : start + i < n := by omega
  simp [below, inside]

/-! ### FILL (R127) -/

theorem ofNat_val_channel (n : Channel) : Fin.ofNat 4 (BitVec.ofNat 2 n.val).toNat = n := by
  revert n
  decide

theorem wordType_fill (f : FillFields) (a : Bool) : wordType (makeWord (fillTyped f) a) = some .fill := by
  have bits : (fillTyped f).extractLsb' 28 2 = 0b00#2 := by
    refine BitVec.eq_of_getLsbD_eq fun i below => ?_
    simp only [fillTyped, BitVec.getLsbD_append, BitVec.getLsbD_extractLsb']
    grind
  rw [wordType_makeWord, bits]
  rfl

/-- The fields of a FILL survive its word. -/
theorem fillFields_fillTyped (f : FillFields) : fillFields ((fillTyped f).extractLsb' 0 28) = f := by
  have inPayload {start len : Nat} (within : start + len ≤ 28) := extractLsb'_of_low (fillTyped f) within
  have sender : ((fillTyped f).extractLsb' 0 28).extractLsb' 26 2 = BitVec.ofNat 2 f.sender.val := by
    rw [inPayload (by decide), fillTyped, extractLsb'_append_high _ 0#1 25, extractLsb'_append_high _ (BitVec.ofBool _) 24,
      extractLsb'_append_high _ f.cycle 8, extractLsb'_append_high _ f.info.digest 4, extractLsb'_append_high _ f.info.mask 0,
      extractLsb'_append_low]
  have mask : ((fillTyped f).extractLsb' 0 28).extractLsb' 22 4 = f.info.mask := by
    rw [inPayload (by decide), fillTyped, extractLsb'_append_high _ 0#1 21, extractLsb'_append_high _ (BitVec.ofBool _) 20,
      extractLsb'_append_high _ f.cycle 4, extractLsb'_append_high _ f.info.digest 0, extractLsb'_append_low]
  have digest : ((fillTyped f).extractLsb' 0 28).extractLsb' 18 4 = f.info.digest := by
    rw [inPayload (by decide), fillTyped, extractLsb'_append_high _ 0#1 17, extractLsb'_append_high _ (BitVec.ofBool _) 16,
      extractLsb'_append_high _ f.cycle 0, extractLsb'_append_low]
  have cycle : ((fillTyped f).extractLsb' 0 28).extractLsb' 2 16 = f.cycle := by
    rw [inPayload (by decide), fillTyped, extractLsb'_append_high _ 0#1 1, extractLsb'_append_high _ (BitVec.ofBool _) 0,
      extractLsb'_append_low]
  have running : ((fillTyped f).extractLsb' 0 28).getLsbD 1 = f.info.running := by
    simp only [fillTyped, BitVec.getLsbD_append, BitVec.getLsbD_extractLsb']
    simp
  simp only [fillFields, sender, mask, digest, cycle, running, ofNat_val_channel]

theorem fillTyped_spare (f : FillFields) : (fillTyped f).getLsbD 0 = false := by
  simp only [fillTyped, BitVec.getLsbD_append]
  simp

/-! ### HEAD and BODY (R190) -/

theorem wordType_head (kind : BitVec 4) (count : BitVec 2) (field : BitVec 22) (a : Bool) :
    wordType (makeWord (headTyped kind count field) a) = some .head := by
  have bits : (headTyped kind count field).extractLsb' 28 2 = 0b01#2 := by
    refine BitVec.eq_of_getLsbD_eq fun i below => ?_
    simp only [headTyped, BitVec.getLsbD_append, BitVec.getLsbD_extractLsb']
    grind
  rw [wordType_makeWord, bits]
  rfl

theorem wordType_body (p : BitVec 28) (a : Bool) : wordType (makeWord (bodyTyped p) a) = some .body := by
  rw [wordType_makeWord, bodyTyped, extractLsb'_append_high 0b10#2 p 0 2]
  rfl

theorem wordPayload_body (p : BitVec 28) (a : Bool) : wordPayload (makeWord (bodyTyped p) a) = p := by
  rw [wordPayload_makeWord, bodyTyped, extractLsb'_append_low]

/-- What a HEAD begins holds its three fields. -/
theorem headOf_fields (kind : BitVec 4) (count : BitVec 2) (field : BitVec 22) :
    headOf (kind ++ count ++ field) = ⟨kind, count, field, []⟩ := by
  have kindBits : (kind ++ count ++ field).extractLsb' 24 4 = kind := by
    rw [extractLsb'_append_high _ field 2 4, extractLsb'_append_high kind count 0 4, extractLsb'_all]
  have countBits : (kind ++ count ++ field).extractLsb' 22 2 = count := by
    rw [extractLsb'_append_high _ field 0 2, extractLsb'_append_low]
  rw [headOf, kindBits, countBits, extractLsb'_append_low]

theorem headOf_wordPayload (kind : BitVec 4) (count : BitVec 2) (field : BitVec 22) (a : Bool) :
    headOf (wordPayload (makeWord (headTyped kind count field) a)) = ⟨kind, count, field, []⟩ := by
  have payload : (headTyped kind count field).extractLsb' 0 28 = kind ++ count ++ field := by
    refine BitVec.eq_of_getLsbD_eq fun i below => ?_
    simp only [headTyped, BitVec.getLsbD_append, BitVec.getLsbD_extractLsb']
    grind
  rw [wordPayload_makeWord, payload, headOf_fields]

/-! ### The words of a notice (R190) -/

theorem noticeIdentity_of_parts (x : Identity) (detail : BitVec 2) :
    noticeIdentity (x.extractLsb' 26 22) (x.extractLsb' 0 26 ++ detail) = x := by
  rw [noticeIdentity, extractLsb'_append_high _ detail 0 26, extractLsb'_all]
  refine BitVec.eq_of_getLsbD_eq fun i below => ?_
  simp only [BitVec.getLsbD_append, BitVec.getLsbD_extractLsb']
  grind

theorem noticeDetail_of_parts (x : BitVec 26) (n : Channel) : noticeDetail (x ++ BitVec.ofNat 2 n.val) = n := by
  rw [noticeDetail, extractLsb'_append_low, ofNat_val_channel]

theorem noticeDetail_eq {b : BitVec 28} {n : Channel} (same : n.val = (b.extractLsb' 0 2).toNat) : noticeDetail b = n := by
  rw [noticeDetail, ← same]
  exact Fin.ofNat_val_eq_self n

theorem ofNat_val_handle (h : Handle) : Fin.ofNat 128 (BitVec.ofNat 7 h.val).toNat = h := by
  have below : h.val < 2 ^ 7 := h.isLt
  rw [BitVec.toNat_ofNat, Nat.mod_eq_of_lt below]
  exact Fin.ofNat_val_eq_self h

/-- The words, put together, of a notice that names an identity. -/
def identityAssembly (kind : BitVec 4) (x : Identity) (detail : Channel) (second : List (BitVec 28)) : Assembly where
  kind := kind
  bodyCount := BitVec.ofNat 2 (1 + second.length)
  firstField := x.extractLsb' 26 22
  bodies := (x.extractLsb' 0 26 ++ BitVec.ofNat 2 detail.val) :: second

/-- The words of a notice, put together. -/
def Notice.assembly : Notice → Assembly
  | .claim x heard => identityAssembly 1 x 0 [heard ++ 0#12]
  | .object x claimant => identityAssembly 2 x claimant []
  | .release x => identityAssembly 3 x 0 []
  | .quiet first length => ⟨4, 0, first ++ length ++ 0#2, []⟩
  | .cross x down => identityAssembly 5 x down []
  | .handoff x target delay => identityAssembly 6 x target [0#7 ++ delay]
  | .accept x source newHandle => identityAssembly 7 x source [0#21 ++ BitVec.ofNat 7 newHandle.val]
  | .decline x source reason => identityAssembly 8 x source [0#24 ++ reason]
  | .taken x source => identityAssembly 9 x source []
  | .lapsed x source => identityAssembly 10 x source []
  | .withdraw x target => identityAssembly 11 x target []

/-- HEAD, then as many BODY words as its body count. -/
theorem words_eq_assembly (n : Notice) :
    n.words = headTyped n.assembly.kind n.assembly.bodyCount n.assembly.firstField :: n.assembly.bodies.map bodyTyped := by
  cases n <;> rfl

theorem length_bodies_assembly (n : Notice) : n.assembly.bodies.length = n.assembly.bodyCount.toNat := by
  cases n <;> rfl

/-- What the words of a notice spell is that notice. -/
theorem notice?_assembly (n : Notice) : n.assembly.notice? = some n := by
  cases n with
  | claim x heard =>
    have cut : (heard ++ 0#12).extractLsb' 12 16 = heard := (extractLsb'_append_high heard 0#12 0 16).trans (extractLsb'_all heard)
    exact congrArg some (congrArg₂ Notice.claim (noticeIdentity_of_parts x _) cut)
  | release x => exact congrArg (some ∘ Notice.release) (noticeIdentity_of_parts x _)
  | quiet first length =>
    have firstCut : (first ++ length ++ 0#2).extractLsb' 6 16 = first := by
      rw [extractLsb'_append_high _ 0#2 4, extractLsb'_append_high first length 0, extractLsb'_all]
    have lengthCut : (first ++ length ++ 0#2).extractLsb' 2 4 = length := by
      rw [extractLsb'_append_high _ 0#2 0, extractLsb'_append_low]
    exact congrArg some (congrArg₂ Notice.quiet firstCut lengthCut)
  | handoff x target delay =>
    show some (Notice.handoff (noticeIdentity (x.extractLsb' 26 22) _) (noticeDetail _) ((0#7 ++ delay).extractLsb' 0 21)) = _
    rw [noticeIdentity_of_parts, noticeDetail_of_parts, extractLsb'_append_low]
  | accept x source newHandle =>
    show some (Notice.accept (noticeIdentity (x.extractLsb' 26 22) _) (noticeDetail _)
      (Fin.ofNat 128 ((0#21 ++ BitVec.ofNat 7 newHandle.val).extractLsb' 0 7).toNat)) = _
    rw [noticeIdentity_of_parts, noticeDetail_of_parts, extractLsb'_append_low, ofNat_val_handle]
  | decline x source reason =>
    show some (Notice.decline (noticeIdentity (x.extractLsb' 26 22) _) (noticeDetail _) ((0#24 ++ reason).extractLsb' 0 4)) = _
    rw [noticeIdentity_of_parts, noticeDetail_of_parts, extractLsb'_append_low]
  | object x other => exact congrArg some (congrArg₂ Notice.object (noticeIdentity_of_parts x _) (noticeDetail_of_parts _ other))
  | cross x other => exact congrArg some (congrArg₂ Notice.cross (noticeIdentity_of_parts x _) (noticeDetail_of_parts _ other))
  | taken x other => exact congrArg some (congrArg₂ Notice.taken (noticeIdentity_of_parts x _) (noticeDetail_of_parts _ other))
  | lapsed x other => exact congrArg some (congrArg₂ Notice.lapsed (noticeIdentity_of_parts x _) (noticeDetail_of_parts _ other))
  | withdraw x other =>
    exact congrArg some (congrArg₂ Notice.withdraw (noticeIdentity_of_parts x _) (noticeDetail_of_parts _ other))

/-! ### The words on an UP lane (R126, R140, R141) -/

/-- A lane still UP, on which nothing but words of a notice has come since `s`: the word expected next, and the notice in assembly. -/
structure OnUpLane (l : LaneNo) (s : State) (next : Bool) (held : Option Assembly) (t : State) : Prop where
  host : t.host = s.host
  table : t.table = s.table
  handed : t.handed = s.handed
  up : (laneAt t l).state = .up
  expected : (laneAt t l).expected = some next
  assembly : (laneAt t l).assembly = held

/-- A notice has crossed an UP lane since `s`. -/
structure Crossed (l : LaneNo) (n : Notice) (s t : State) : Prop where
  up : (laneAt t l).state = .up
  assembly : (laneAt t l).assembly = none
  host : t.host = s.host
  table : t.table = s.table
  handed : t.handed = if n.addressee = none ∨ n.addressee = some s.host.ownChannel then
    s.handed ++ [.notice (laneChannel s.host.ownChannel l) n] else s.handed

section
variable {l : LaneNo} {s t : State} {next : Bool} {held : Option Assembly} {a : Assembly} {n : Notice} {typed : BitVec 30}

theorem runAll_cons_next {c : Instr} {rest : List Instr} (row : exec c s = .next t) : runAll (c :: rest) s = runAll rest t := by
  rw [runAll, row]

/-- A HEAD or BODY of the alternation bit expected is a good word. -/
theorem OnUpLane.goodWord (lane : OnUpLane l s next held t)
    (type : wordType (makeWord typed next) = some .head ∨ wordType (makeWord typed next) = some .body) :
    goodWord t l (makeWord typed next) = true := by
  have expected : t.link.lanes[l].expected = some next := lane.expected
  have fits : alternationFits t.link.lanes[l].expected (makeWord typed next) = true := by
    rw [expected]
    simp [alternationFits, wordAlternation_makeWord]
  have content : contentFits t l (makeWord typed next) = true := by
    rcases type with head | body <;> simp [contentFits, *]
  rw [Machine.goodWord, evenParity_makeWord, fits, content]
  rfl

/-- The marks of a good word leave the lane UP, with the other alternation bit expected. -/
theorem OnUpLane.marked (lane : OnUpLane l s next held t) (typed : BitVec 30) :
    OnUpLane l s (!next) held (setLane l (goodLane (makeWord typed next) (laneAt t l)) t) where
  host := lane.host
  table := lane.table
  handed := lane.handed
  up := by rw [laneAt_setLane_self]; exact lane.up
  expected := by
    rw [laneAt_setLane_self]
    simp [goodLane, nextExpected, evenParity_makeWord, wordAlternation_makeWord]
  assembly := by rw [laneAt_setLane_self]; exact lane.assembly

/-- A notice short of its body count is held. -/
theorem OnUpLane.placed_short (lane : OnUpLane l s next held t) (short : a.bodies.length ≠ a.bodyCount.toNat) :
    OnUpLane l s next (some a) (placeAssembly l a t) := by
  rw [placeAssembly_of_short short]
  exact
    { host := lane.host
      table := lane.table
      handed := lane.handed
      up := by rw [laneAt_setLane_self]; exact lane.up
      expected := by rw [laneAt_setLane_self]; exact lane.expected
      assembly := by rw [laneAt_setLane_self] }

/-- A notice with all its words crosses the lane. -/
theorem OnUpLane.placed_complete (lane : OnUpLane l s next held t) (complete : a.bodies.length = a.bodyCount.toNat)
    (spelled : a.notice? = some n) : Crossed l n s (placeAssembly l a t) := by
  have handed := (placeAssembly_of_spelled (s := t) (l := l) complete spelled).2
  rw [lane.host, lane.handed] at handed
  have placed : placeAssembly l a t = deliverNotice l n (setLane l { laneAt t l with assembly := none } t) := by
    rw [placeAssembly_of_complete complete, completeNotice, spelled]
  have beside : ∀ u : State, (deliverNotice l n u).host = u.host ∧ (deliverNotice l n u).table = u.table ∧
      laneAt (deliverNotice l n u) l = laneAt u l := fun u => by
    unfold deliverNotice
    split <;> exact ⟨rfl, rfl, rfl⟩
  obtain ⟨host, table, receiver⟩ := beside (setLane l { laneAt t l with assembly := none } t)
  rw [laneAt_setLane_self, ← placed] at receiver
  rw [← placed] at host table
  exact
    { up := by rw [receiver]; exact lane.up
      assembly := by rw [receiver]
      host := host.trans lane.host
      table := table.trans lane.table
      handed := handed }

variable (run : running s = true) (configured : laneConfigured s.host l = true)
include run configured

theorem OnUpLane.exec_word (lane : OnUpLane l s next held t)
    (type : wordType (makeWord typed next) = some .head ∨ wordType (makeWord typed next) = some .body) :
    exec (.laneWord l (makeWord typed next)) t = .next (goodTaken l (makeWord typed next) t) := by
  have other : wordType (makeWord typed next) ≠ some .fill := by rcases type with head | body <;> simp [*]
  rw [exec_laneWord_of_good (by rw [running, lane.host]; exact run) (lane.host ▸ configured) (lane.goodWord type),
    afterGood_of_up lane.up other]

theorem OnUpLane.exec_body (lane : OnUpLane l s next (some a) t) (p : BitVec 28) :
    exec (.laneWord l (makeWord (bodyTyped p) next)) t = .next (placeAssembly l { a with bodies := a.bodies ++ [p] }
      (setLane l (goodLane (makeWord (bodyTyped p) next) (laneAt t l)) t)) := by
  rw [lane.exec_word run configured (.inr (wordType_body p next)),
    goodTaken_of_body_assembling lane.assembly (wordType_body p next), wordPayload_body]

theorem OnUpLane.exec_head (lane : OnUpLane l s next none t) (kind : BitVec 4) (count : BitVec 2) (field : BitVec 22) :
    exec (.laneWord l (makeWord (headTyped kind count field) next)) t = .next (placeAssembly l ⟨kind, count, field, []⟩
      (setLane l (goodLane (makeWord (headTyped kind count field) next) (laneAt t l)) t)) := by
  have head := wordType_head kind count field next
  have unbroken : discardAssembly l (setLane l (goodLane (makeWord (headTyped kind count field) next) (laneAt t l)) t) =
      setLane l (goodLane (makeWord (headTyped kind count field) next) (laneAt t l)) t := by
    unfold discardAssembly
    rw [(lane.marked (headTyped kind count field)).assembly]
  rw [lane.exec_word run configured (.inl head), goodTaken_of_head_up lane.up head, unbroken, headOf_wordPayload]

/-- The BODY words still to come of a notice complete it. -/
theorem OnUpLane.takeAll_bodies (rest : List (BitVec 28)) (p : BitVec 28) :
    ∀ {a : Assembly} {next : Bool} {t : State}, OnUpLane l s next (some a) t →
      (a.bodies ++ p :: rest).length = a.bodyCount.toNat → ({ a with bodies := a.bodies ++ p :: rest } : Assembly).notice? = some n →
      ∃ u, takeAll l (alternating ((p :: rest).map bodyTyped) next) t = .next u ∧ Crossed l n s u := by
  induction rest generalizing p with
  | nil =>
    intro a next t lane complete spelled
    refine ⟨_, ?_, (lane.marked (bodyTyped p)).placed_complete (a := { a with bodies := a.bodies ++ [p] }) complete spelled⟩
    exact runAll_cons_next (lane.exec_body run configured p)
  | cons q rest ih =>
    intro a next t lane complete spelled
    have short : (a.bodies ++ [p]).length ≠ a.bodyCount.toNat := by
      rw [← complete]
      simp
    obtain ⟨u, taken, crossed⟩ := ih q ((lane.marked (bodyTyped p)).placed_short (a := { a with bodies := a.bodies ++ [p] }) short)
      (by simpa using complete) (by simpa using spelled)
    refine ⟨u, ?_, crossed⟩
    rw [← taken]
    exact runAll_cons_next (lane.exec_body run configured p)

/-- The words of a notice, one after another on an UP lane, hand it to its owner (R141). -/
theorem takeAll_notice (n : Notice) (up : (laneAt s l).state = .up) (empty : (laneAt s l).assembly = none)
    (expected : (laneAt s l).expected = some next) : ∃ t, takeAll l (alternating n.words next) s = .next t ∧ Crossed l n s t := by
  have lane : OnUpLane l s next none s := ⟨rfl, rfl, rfl, up, expected, empty⟩
  have length := length_bodies_assembly n
  have spelled := notice?_assembly n
  rw [words_eq_assembly n]
  generalize n.assembly = a at length spelled ⊢
  obtain ⟨kind, count, field, bodies⟩ := a
  have marked := lane.marked (headTyped kind count field)
  cases bodies with
  | nil =>
    exact ⟨_, runAll_cons_next (lane.exec_head run configured kind count field), marked.placed_complete length spelled⟩
  | cons p rest =>
    have short : ([] : List (BitVec 28)).length ≠ count.toNat := by
      rw [← length]
      exact (Nat.succ_ne_zero _).symm
    obtain ⟨t, taken, crossed⟩ := OnUpLane.takeAll_bodies run configured rest p
      (marked.placed_short (a := ⟨kind, count, field, []⟩) short) length spelled
    refine ⟨t, ?_, crossed⟩
    rw [← taken]
    exact runAll_cons_next (lane.exec_head run configured kind count field)

end

end Sys2Proof.Machine

namespace Sys2Proof.Proofs

open Sys2Proof.Machine

/-- Settles O23: a word's bits stand where it was made of them; the words of a notice, put together, spell it, and one after another on
an UP lane they are held until the last completes it. -/
theorem noticesCrossTheLane : Obligations.NoticesCrossTheLane := by
  unfold Obligations.NoticesCrossTheLane
  refine ⟨fun l n a s run configured up empty expected => ?_,
    fun f a => ⟨wordType_fill f a, (congrArg fillFields (wordPayload_makeWord _ a)).trans (fillFields_fillTyped f)⟩,
    fun typed a => ⟨evenParity_makeWord typed a, wordAlternation_makeWord typed a, wordPayload_makeWord typed a⟩,
    fun w => ?_, typed_makeWord, fun p => ⟨?_, fun n => ?_, rfl, rfl, rfl⟩, fillTyped_spare,
    fun kind count field p => ⟨rfl, rfl, headOf_fields kind count field⟩,
    fun x n c k delay h => ⟨rfl, rfl, rfl, rfl, rfl, rfl, rfl, rfl, rfl, rfl, rfl⟩,
    fun count field b q n h detail handle => ?_,
    fun n => ⟨n.assembly, words_eq_assembly n, length_bodies_assembly n, notice?_assembly n⟩⟩
  · obtain ⟨t, taken, crossed⟩ := takeAll_notice run configured n up empty expected
    exact ⟨t, taken, crossed.up, crossed.assembly, crossed.host, crossed.table, crossed.handed⟩
  · obtain ⟨fill, head, body, none⟩ := typeOf_iff (w.extractLsb' 30 2)
    exact ⟨fill, head, body, none, rfl, rfl, evenParity_iff w⟩
  · exact Nat.mod_eq_of_lt (p.extractLsb' 26 2).isLt
  · show (p.extractLsb' 22 4).getLsbD n.val = _
    rw [BitVec.getLsbD_extractLsb', decide_eq_true n.isLt, Bool.true_and]
  · have detailRead : noticeDetail b = n := noticeDetail_eq detail
    have handleRead : Fin.ofNat 128 (q.extractLsb' 0 7).toNat = h := by
      rw [← handle]
      exact Fin.ofNat_val_eq_self h
    rw [← detailRead, ← handleRead]
    exact ⟨rfl, rfl, rfl, rfl, rfl, rfl, rfl, rfl, rfl, rfl, rfl⟩

end Sys2Proof.Proofs
end

section
/-! The header block: what one inverted bit does to the check, the fields at their positions, and the block a terminal sends (R12, R84,
R85, R189). -/

namespace Sys2Proof.Machine

/-! ### The XOR of the positions that hold a 1 (R84) -/

/-- A start value is a summand of its own. -/
theorem foldl_xor_start (b : Nat → Bool) (l : List Nat) (m n : Nat) :
    l.foldl (fun n p => if b p then n ^^^ p else n) (m ^^^ n) = m ^^^ l.foldl (fun n p => if b p then n ^^^ p else n) n := by
  induction l generalizing n with
  | nil => rfl
  | cons p l ih =>
    rw [List.foldl_cons, List.foldl_cons]
    split
    · rw [Nat.xor_assoc, ih]
    · exact ih n

/-- One bit of the list inverted adds its position. -/
theorem foldl_xor_of_inverted {b c : Nat → Bool} {p : Nat} {l : List Nat} (nodup : l.Nodup) (mem : p ∈ l) (inverted : c p = !b p)
    (others : ∀ i, i ≠ p → c i = b i) (n : Nat) :
    l.foldl (fun n p => if c p then n ^^^ p else n) n = p ^^^ l.foldl (fun n p => if b p then n ^^^ p else n) n := by
  induction l generalizing n with
  | nil => exact absurd mem List.not_mem_nil
  | cons i l ih =>
    obtain ⟨fresh, nodup⟩ := List.nodup_cons.1 nodup
    rw [List.foldl_cons, List.foldl_cons]
    rcases List.mem_cons.1 mem with rfl | mem
    · have tail (m : Nat) : l.foldl (fun n p => if c p then n ^^^ p else n) m = l.foldl (fun n p => if b p then n ^^^ p else n) m :=
        List.foldl_ext _ _ _ fun n i old => by rw [others i fun same => fresh (same ▸ old)]
      rw [tail, inverted, ← foldl_xor_start]
      cases b p <;> simp [Nat.xor_comm]
    · rw [others i fun same => fresh (same ▸ mem)]
      exact ih nodup mem _

/-! ### One bit inverted -/

theorem getLsbD_flipAt (b : HeaderBlock) (p : Nat) {q : Nat} (below : q < 72) :
    (flipAt b p).getLsbD q = (b.getLsbD q ^^ decide (q = p)) := by
  rw [flipAt, BitVec.getLsbD_xor, BitVec.getLsbD_shiftLeft, decide_eq_true below, Bool.true_and, BitVec.getLsbD_one]
  congr 1
  rw [Bool.eq_iff_iff]
  simp
  omega

section
variable {p : Nat} (below : p < 72) (b : HeaderBlock)
include below

theorem getLsbD_flipAt_self : (flipAt b p).getLsbD p = !b.getLsbD p := by
  simp [getLsbD_flipAt b p below]

omit below in
theorem getLsbD_flipAt_ne {q : Nat} (other : q ≠ p) : (flipAt b p).getLsbD q = b.getLsbD q := by
  by_cases inside : q < 72
  · simp [getLsbD_flipAt b p inside, other]
  · rw [BitVec.getLsbD_of_ge _ _ (not_lt.1 inside), BitVec.getLsbD_of_ge _ _ (not_lt.1 inside)]

theorem evenOnes_flipAt : evenOnes (flipAt b p) = !evenOnes b :=
  foldl_not_of_inverted List.nodup_range (List.mem_range.2 below) (getLsbD_flipAt_self below b) fun _ => getLsbD_flipAt_ne b

theorem syndrome_flipAt : syndrome (flipAt b p) = p ^^^ syndrome b :=
  foldl_xor_of_inverted List.nodup_range (List.mem_range.2 below) (getLsbD_flipAt_self below b) (fun _ => getLsbD_flipAt_ne b) 0

end

theorem flipAt_flipAt (b : HeaderBlock) (p : Nat) : flipAt (flipAt b p) p = b := by
  rw [flipAt, flipAt, BitVec.xor_assoc, BitVec.xor_self, BitVec.xor_zero]

/-! ### The check, row by row (R85) -/

theorem evenOnes_iff (b : HeaderBlock) : evenOnes b = true ↔ ((List.range 72).countP fun p => b.getLsbD p) % 2 = 0 :=
  foldl_not_iff _ _

theorem syndrome_eq (b : HeaderBlock) :
    syndrome b = ((List.range 72).filter fun p => b.getLsbD p).foldl (fun n p => n ^^^ p) 0 := by
  rw [List.foldl_filter]
  rfl

section
variable {b : HeaderBlock}

theorem checkHeader_clean (even : evenOnes b = true) (zero : syndrome b = 0) : checkHeader b = .clean b := by
  rw [checkHeader, if_pos even, if_pos zero]

theorem checkHeader_of_even (even : evenOnes b = true) (nonzero : syndrome b ≠ 0) : checkHeader b = .uncorrectable := by
  rw [checkHeader, if_pos even, if_neg nonzero]

theorem checkHeader_of_odd (odd : ¬ evenOnes b = true) (inside : syndrome b ≤ 71) :
    checkHeader b = .corrected (flipAt b (syndrome b)) := by
  rw [checkHeader, if_neg odd, if_pos inside]

theorem checkHeader_of_outside (odd : ¬ evenOnes b = true) (outside : 71 < syndrome b) : checkHeader b = .uncorrectable := by
  rw [checkHeader, if_neg odd, if_neg (not_le.2 outside)]

theorem of_checkHeader_clean (clean : checkHeader b = .clean b) : evenOnes b = true ∧ syndrome b = 0 := by
  unfold checkHeader at clean
  split at clean
  case isTrue even =>
    split at clean
    case isTrue zero => exact ⟨even, zero⟩
    case isFalse => exact nomatch clean
  case isFalse => split at clean <;> exact nomatch clean

/-- One error is put right. -/
theorem checkHeader_flipAt (clean : checkHeader b = .clean b) {p : Nat} (below : p < 72) :
    checkHeader (flipAt b p) = .corrected b := by
  obtain ⟨even, zero⟩ := of_checkHeader_clean clean
  have at_p : syndrome (flipAt b p) = p := by rw [syndrome_flipAt below, zero, Nat.xor_zero]
  rw [checkHeader_of_odd (by simp [evenOnes_flipAt below, even]) (by omega), at_p, flipAt_flipAt]

/-- Two errors are seen: their positions differ, so their XOR is not 0. -/
theorem checkHeader_flipAt_flipAt (clean : checkHeader b = .clean b) {p q : Nat} (belowP : p < 72) (belowQ : q < 72) (ne : p ≠ q) :
    checkHeader (flipAt (flipAt b p) q) = .uncorrectable := by
  obtain ⟨even, zero⟩ := of_checkHeader_clean clean
  refine checkHeader_of_even (by simp [evenOnes_flipAt belowP, evenOnes_flipAt belowQ, even]) ?_
  rw [syndrome_flipAt belowQ, syndrome_flipAt belowP, zero, Nat.xor_zero, Ne, Nat.xor_eq_zero_iff]
  exact ne.symm

end

/-! ### A number read from its positions (R189) -/

theorem readBits_concat (b : HeaderBlock) (ps : List Nat) (p : Nat) :
    readBits b (ps ++ [p]) = 2 * readBits b ps + (b.getLsbD p).toNat := by
  simp [readBits]

theorem readBits_lt (b : HeaderBlock) (ps : List Nat) : readBits b ps < 2 ^ ps.length := by
  induction ps using List.reverseRecOn with
  | nil => exact Nat.one_pos
  | append_singleton ps p ih =>
    have bit : (b.getLsbD p).toNat ≤ 1 := Bool.toNat_le _
    rw [readBits_concat, List.length_append, List.length_singleton, pow_succ]
    omega

/-- The first position holds the most significant bit. -/
theorem testBit_readBits (b : HeaderBlock) {ps : List Nat} {i p : Nat} (at_i : ps[i]? = some p) :
    (readBits b ps).testBit (ps.length - 1 - i) = b.getLsbD p := by
  induction ps using List.reverseRecOn generalizing i with
  | nil => exact nomatch at_i
  | append_singleton ps q ih =>
    rw [readBits_concat, List.length_append, List.length_singleton, Nat.add_sub_cancel]
    rcases lt_trichotomy i ps.length with before | rfl | after
    · rw [List.getElem?_append_left before] at at_i
      rw [show ps.length - i = ps.length - 1 - i + 1 by omega, Nat.testBit_succ, ← ih at_i]
      congr 1
      have bit : (b.getLsbD q).toNat ≤ 1 := Bool.toNat_le _
      omega
    · obtain rfl : q = p := by simpa using at_i
      rw [Nat.sub_self, Nat.testBit_zero]
      cases b.getLsbD q <;> simp [Nat.add_mod]
    · rw [List.getElem?_eq_none (by simpa using after)] at at_i
      exact nomatch at_i

/-! ### The block a terminal sends (R84) -/

theorem mem_placedBits {n p : Nat} {ps : List Nat} :
    p ∈ placedBits n ps ↔ ∃ i, ps[i]? = some p ∧ n.testBit (ps.length - 1 - i) = true := by
  simp [placedBits, List.mem_zipIdx_iff_getElem?]

theorem placedBits_sublist (n : Nat) (ps : List Nat) : (placedBits n ps).Sublist ps := by
  have all : ps.zipIdx.map Prod.fst = ps := by simp
  conv_rhs => rw [← all]
  exact List.filter_sublist.map _

/-- The number whose bits a block holds at the positions is read back. -/
theorem readBits_of_placed {b : HeaderBlock} {n : Nat} {ps : List Nat} (nodup : ps.Nodup) (small : n < 2 ^ ps.length)
    (placed : ∀ p ∈ ps, b.getLsbD p = decide (p ∈ placedBits n ps)) : readBits b ps = n := by
  refine Nat.eq_of_testBit_eq fun j => ?_
  by_cases inside : j < ps.length
  · have at_i : ps[ps.length - 1 - j]? = some ps[ps.length - 1 - j] := List.getElem?_eq_getElem (by omega)
    have read := testBit_readBits b at_i
    rw [show ps.length - 1 - (ps.length - 1 - j) = j by omega, placed _ (List.getElem_mem _)] at read
    rw [read, Bool.eq_iff_iff, decide_eq_true_iff, mem_placedBits]
    constructor
    · rintro ⟨i, same, one⟩
      have place : i = ps.length - 1 - j := (List.getElem?_inj (List.getElem?_eq_some_iff.1 same).1 nodup).1 (same.trans at_i.symm)
      rwa [place, show ps.length - 1 - (ps.length - 1 - j) = j by omega] at one
    · exact fun one => ⟨_, at_i, by rwa [show ps.length - 1 - (ps.length - 1 - j) = j by omega]⟩
  · have wide : 2 ^ ps.length ≤ 2 ^ j := Nat.pow_le_pow_right (by decide) (not_lt.1 inside)
    rw [Nat.testBit_lt_two_pow ((readBits_lt b ps).trans_le wide), Nat.testBit_lt_two_pow (small.trans_le wide)]

/-- Bits inverted at different positions. -/
theorem getLsbD_foldl_flipAt {l : List Nat} (nodup : l.Nodup) (b : HeaderBlock) {q : Nat} (below : q < 72) :
    (l.foldl flipAt b).getLsbD q = (b.getLsbD q ^^ decide (q ∈ l)) := by
  induction l generalizing b with
  | nil => simp
  | cons p l ih =>
    obtain ⟨fresh, nodup⟩ := List.nodup_cons.1 nodup
    rw [List.foldl_cons, ih nodup, getLsbD_flipAt b p below, Bool.xor_assoc]
    congr 1
    by_cases same : q = p
    · simp [same, fresh]
    · simp [same]

theorem syndrome_foldl_flipAt {l : List Nat} (below : ∀ p ∈ l, p < 72) (b : HeaderBlock) :
    syndrome (l.foldl flipAt b) = syndrome b ^^^ l.foldl (fun n p => n ^^^ p) 0 := by
  induction l generalizing b with
  | nil => simp
  | cons p l ih =>
    rw [List.forall_mem_cons] at below
    have start (m : Nat) : l.foldl (fun n p => n ^^^ p) m = m ^^^ l.foldl (fun n p => n ^^^ p) 0 := by
      simpa using foldl_xor_start (fun _ => true) l m 0
    rw [List.foldl_cons, ih below.2, syndrome_flipAt below.1, List.foldl_cons, start (0 ^^^ p), Nat.zero_xor, ← Nat.xor_assoc,
      Nat.xor_comm p]

theorem syndrome_lt (b : HeaderBlock) : syndrome b < 128 := by
  have step (l : List Nat) (small : ∀ p ∈ l, p < 128) (n : Nat) (start : n < 128) :
      l.foldl (fun n p => if b.getLsbD p then n ^^^ p else n) n < 128 := by
    induction l generalizing n with
    | nil => exact start
    | cons p l ih =>
      rw [List.forall_mem_cons] at small
      refine ih small.2 _ ?_
      dsimp only
      split
      · exact Nat.xor_lt_two_pow (n := 7) start small.1
      · exact start
  exact step _ (fun p mem => (List.mem_range.1 mem).trans (by decide)) 0 (by decide)

/-- The positions of the check bits. -/
def checkPositions : List Nat :=
  [1, 2, 4, 8, 16, 32, 64]

/-- A number of seven bits is the XOR of the powers of two that it holds. -/
theorem xor_checkPositions : ∀ n : Nat, n < 128 →
    (checkPositions.filter fun p => n &&& p ≠ 0).foldl (fun n p => n ^^^ p) 0 = n := by
  decide +kernel

/-- The positions of the data bits, field by field. -/
def dataPositions : List Nat :=
  identityPositions ++ downChannelPositions ++ scatterPositions ++ attemptPositions

theorem nodup_dataPositions : dataPositions.Nodup := by
  decide

/-- No data bit stands at the overall parity bit or at a check bit, and all stand in the block. -/
theorem dataPositions_apart : ∀ p ∈ dataPositions, p ≠ 0 ∧ p ∉ checkPositions ∧ p < 72 := by
  decide

/-- The positions of the 1s among the data bits of a block sent. -/
def dataOnes (f : HeaderFields) : List Nat :=
  placedBits f.identity.toNat identityPositions ++ placedBits f.downChannel.val downChannelPositions ++
    placedBits f.scatter scatterPositions ++ placedBits f.attemptCount.toNat attemptPositions

theorem dataOnes_sublist (f : HeaderFields) : (dataOnes f).Sublist dataPositions :=
  (((placedBits_sublist _ _).append (placedBits_sublist _ _)).append (placedBits_sublist _ _)).append (placedBits_sublist _ _)

/-- The data bits with their check bits (R84). -/
def checkedBlock (data : HeaderBlock) : HeaderBlock :=
  (checkPositions.filter fun p => syndrome data &&& p ≠ 0).foldl flipAt data

theorem encodeHeader_eq (f : HeaderFields) : encodeHeader f =
    if evenOnes (checkedBlock (blockOf (dataOnes f))) then checkedBlock (blockOf (dataOnes f))
    else flipAt (checkedBlock (blockOf (dataOnes f))) 0 :=
  rfl

/-- The check bits make the syndrome 0. -/
theorem syndrome_checkedBlock (data : HeaderBlock) : syndrome (checkedBlock data) = 0 := by
  have inside : ∀ p ∈ checkPositions.filter fun p => syndrome data &&& p ≠ 0, p < 72 := fun p mem => by
    have all : ∀ p ∈ checkPositions, p < 72 := by decide
    exact all p (List.mem_filter.1 mem).1
  rw [checkedBlock, syndrome_foldl_flipAt inside, xor_checkPositions _ (syndrome_lt data), Nat.xor_self]

theorem checkHeader_encodeHeader (f : HeaderFields) : checkHeader (encodeHeader f) = .clean (encodeHeader f) := by
  have zero := syndrome_checkedBlock (blockOf (dataOnes f))
  rw [encodeHeader_eq]
  split
  case isTrue even => exact checkHeader_clean even zero
  case isFalse odd =>
    have inside : 0 < 72 := by decide
    exact checkHeader_clean (by simpa [evenOnes_flipAt inside] using odd) (by rw [syndrome_flipAt inside, zero, Nat.xor_self])

/-- The check bits and the parity bit leave the data bits as they were laid. -/
theorem getLsbD_encodeHeader (f : HeaderFields) {p : Nat} (data : p ∈ dataPositions) :
    (encodeHeader f).getLsbD p = decide (p ∈ dataOnes f) := by
  obtain ⟨parity, check, inside⟩ := dataPositions_apart p data
  have checks : (checkPositions.filter fun p => syndrome (blockOf (dataOnes f)) &&& p ≠ 0).Nodup :=
    List.Nodup.filter _ (by decide)
  have laid : (checkedBlock (blockOf (dataOnes f))).getLsbD p = decide (p ∈ dataOnes f) := by
    rw [checkedBlock, getLsbD_foldl_flipAt checks _ inside, blockOf,
      getLsbD_foldl_flipAt (nodup_dataPositions.sublist (dataOnes_sublist f)) _ inside]
    simp [check]
  rw [encodeHeader_eq]
  split
  · exact laid
  · rw [getLsbD_flipAt_ne _ parity, laid]

/-- Each field is read back from its own positions, which no other field shares. -/
theorem readBits_encodeHeader {f : HeaderFields} {n : Nat} {before ps after onesBefore onesAfter : List Nat}
    (places : dataPositions = before ++ ps ++ after) (ones : dataOnes f = onesBefore ++ placedBits n ps ++ onesAfter)
    (first : onesBefore.Sublist before) (last : onesAfter.Sublist after) (small : n < 2 ^ ps.length) :
    readBits (encodeHeader f) ps = n := by
  have nodup := places ▸ nodup_dataPositions
  rw [List.nodup_append', List.nodup_append'] at nodup
  obtain ⟨⟨-, own, beforeApart⟩, -, afterApart⟩ := nodup
  refine readBits_of_placed own small fun p mem => ?_
  have notBefore : p ∉ onesBefore := fun other => beforeApart (first.subset other) mem
  have notAfter : p ∉ onesAfter := fun other => afterApart (List.mem_append_right _ mem) (last.subset other)
  rw [getLsbD_encodeHeader f (by simp [places, mem]), ones]
  simp [notBefore, notAfter]

/-- What a terminal sends holds its fields. -/
theorem headerFields_encodeHeader (f : HeaderFields) (small : f.scatter < 64) : headerFields (encodeHeader f) = f := by
  have part := placedBits_sublist
  have identity : readBits (encodeHeader f) identityPositions = f.identity.toNat :=
    readBits_encodeHeader (before := []) (onesBefore := [])
      (after := downChannelPositions ++ scatterPositions ++ attemptPositions)
      (onesAfter := placedBits f.downChannel.val downChannelPositions ++ placedBits f.scatter scatterPositions ++
        placedBits f.attemptCount.toNat attemptPositions) (by simp [dataPositions]) (by simp [dataOnes]) (List.Sublist.refl _)
      (((part _ _).append (part _ _)).append (part _ _)) f.identity.isLt
  have downChannel : readBits (encodeHeader f) downChannelPositions = f.downChannel.val :=
    readBits_encodeHeader (before := identityPositions) (after := scatterPositions ++ attemptPositions)
      (onesAfter := placedBits f.scatter scatterPositions ++ placedBits f.attemptCount.toNat attemptPositions)
      (by simp [dataPositions]) (by simp [dataOnes]; rfl) (part _ _) ((part _ _).append (part _ _)) f.downChannel.isLt
  have scatter : readBits (encodeHeader f) scatterPositions = f.scatter :=
    readBits_encodeHeader (before := identityPositions ++ downChannelPositions) (after := attemptPositions) rfl rfl
      ((part _ _).append (part _ _)) (part _ _) small
  have attemptCount : readBits (encodeHeader f) attemptPositions = f.attemptCount.toNat :=
    readBits_encodeHeader (before := identityPositions ++ downChannelPositions ++ scatterPositions) (after := []) (onesAfter := [])
      (List.append_nil _).symm (List.append_nil _).symm
      (((part _ _).append (part _ _)).append (part _ _)) (List.Sublist.refl _) f.attemptCount.isLt
  rw [headerFields, identity, downChannel, scatter, attemptCount, BitVec.ofNat_toNat, BitVec.ofNat_toNat, BitVec.setWidth_eq,
    BitVec.setWidth_eq, Fin.ofNat_val_eq_self]

end Sys2Proof.Machine

namespace Sys2Proof.Proofs

open Sys2Proof.Machine

/-- Settles O39: one inverted bit turns the parity and adds its position to the syndrome; the check bits of a block sent make its
syndrome 0 and leave its data bits. -/
theorem headerCheckCorrectsOneError : Obligations.HeaderCheckCorrectsOneError := by
  unfold Obligations.HeaderCheckCorrectsOneError
  refine ⟨fun f small => ⟨checkHeader_encodeHeader f, headerFields_encodeHeader f small⟩, fun b => ?_, fun b => ?_,
    fun b clean => ⟨fun p below => checkHeader_flipAt clean below, fun p q => checkHeader_flipAt_flipAt clean⟩⟩
  · refine ⟨fun i p found => ?_, rfl, ?_, readBits_lt b scatterPositions, fun i below => ?_, ?_, fun i below => ?_⟩
    · have inside : 47 - i < 48 := by omega
      rw [← testBit_readBits b (ps := identityPositions) found]
      show (BitVec.ofNat 48 (readBits b identityPositions)).getLsbD (47 - i) = _
      rw [BitVec.getLsbD_ofNat, decide_eq_true inside, Bool.true_and]
      rfl
    · show (2 * (2 * 0 + (b.getLsbD 55).toNat) + (b.getLsbD 56).toNat) % 4 = _
      cases b.getLsbD 55 <;> cases b.getLsbD 56 <;> rfl
    · exact testBit_readBits b (ps := scatterPositions) (by simp [scatterPositions, below])
    · exact (BitVec.getLsbD_ofNat ..).trans (testBit_readBits b (ps := attemptPositions) (i := 0) rfl)
    · have inside : 6 - i < 8 := by omega
      have place : attemptPositions.length - 1 - (i + 1) = 6 - i := by
        show 7 - (i + 1) = 6 - i
        omega
      rw [← testBit_readBits b (ps := attemptPositions) (i := i + 1) (p := 65 + i) (by simp [attemptPositions, below]), place]
      show (BitVec.ofNat 8 (readBits b attemptPositions)).getLsbD (6 - i) = _
      rw [BitVec.getLsbD_ofNat, decide_eq_true inside, Bool.true_and]
  · rw [← evenOnes_iff, ← syndrome_eq]
    exact ⟨checkHeader_clean, checkHeader_of_even, checkHeader_of_odd, checkHeader_of_outside, fun p q => getLsbD_flipAt b p⟩

end Sys2Proof.Proofs
end
